-- ==== Sys2Proof/Word.lean ====
section
/-! DEFINITION. The bit-vector types of the 80286: a byte, a word and a 24-bit physical address
(spec/10_state.md R20, R21, R60).  Only the types stand here: every sign extension, byte-order and bit-field
helper is in `Sys2Proof/Decode.lean` or under `Sys2Proof/Machine/`. -/

namespace Sys2Proof

/-- An 8-bit byte, the unit of memory and of I/O (R60, R62). -/
abbrev Byte := BitVec 8

/-- A 16-bit word: the width of the general registers, of IP and of every offset (R20, R27, R89). -/
abbrev Word := BitVec 16

/-- A 24-bit physical address or segment base (R60, R93). -/
abbrev Addr := BitVec 24

end Sys2Proof
end

