-- ==== Sys2Proof/Config.lean ====
section
/-! DEFINITION. What one implementation fixes and the manual leaves open: the free values.

Every constant here is opaque and has no body, so no proof can see a value of it.  The step applies each to the
plain counter `State.freeCtr`, which it advances, so two draws are unrelated.  They stand for the values that
spec/93_implementation_defined.md lists as undefined (U1: a flag left undefined by an instruction; U3: the sixth
byte that SGDT and SIDT store; the registers a RESET signal leaves unspecified, R72) and for what the platform's
I/O ports and absent memory answer (R96, R8(a)).  DESIGN CHOICE of the form, safe: see notes/assumptions/1.md.  The last
three say of each ESC what the sources leave to the 80287 (notes/assumptions/23.md, 45.md). -/

namespace Sys2Proof.Config

/-- The n-th free flag (93_implementation_defined.md U1). -/
opaque freeBit : Nat → Bool

/-- The n-th free byte (U3, and the answer of an I/O port the feed says nothing about). -/
opaque freeByte : Nat → Byte

/-- The n-th free word (a register whose value a RESET signal does not fix, R72). -/
opaque freeWord : Nat → Word

/-- The n-th free 24-bit base (a descriptor-table base that a RESET signal does not fix, R72). -/
opaque freeBase : Nat → Addr

/-- What a byte of absent memory reads as at the n-th such read, by address: no rule says (00_scope.md R8(a); notes/assumptions/47.md). -/
opaque floatingByte : Nat → Nat → Byte

/-- Whether an ESC, by its escape opcode and the r/m field of a register form, is executed without a test of ERROR: those of
FNCLEX, FNINIT, FSETPM, FNSTCW, FNSTSW, FNSAVE and FNSTENV are, and their encodings are in no source (45_flag_misc.md R532). -/
opaque escSkipsError : BitVec 6 → Option (BitVec 3) → Bool

/-- Whether an ESC is executed while BUSY is active; "most" wait (10_state.md R69). -/
opaque escSkipsBusy : BitVec 6 → Option (BitVec 3) → Bool

/-- Whether an ESC has its memory operand written rather than read; no source says (R532). -/
opaque escStores : BitVec 6 → Bool

end Sys2Proof.Config
end

