-- ==== Sys2Proof/Syntax.lean ====
section
/-! DEFINITION. The instructions of the 80286 as data: the operand shapes of spec/30_encoding.md and one constructor of
`Instr` for each row of spec/opcode_table.json, listed below.  A prefix byte is an instruction of its own
(spec/30_encoding.md R230): executing it records it for the instruction that follows.  A row "(undefined)" is a
constructor too: its meaning is to take exception 6 (R245 to R248). -/

namespace Sys2Proof

/-- The word registers, numbered 0 to 7 in this order (R204). -/
inductive Reg16 where
  | ax | cx | dx | bx | sp | bp | si | di
deriving DecidableEq, Repr

/-- The byte registers, numbered 0 to 7 in this order (R204, R21). -/
inductive Reg8 where
  | al | cl | dl | bl | ah | ch | dh | bh
deriving DecidableEq, Repr

/-- The segment registers, numbered 0 to 3 in this order (R51, R205). -/
inductive SegReg where
  | es | cs | ss | ds
deriving DecidableEq, Repr

/-- The eight register forms of an effective address, numbered 0 to 7 by the r/m field (R211). -/
inductive AddrBase where
  | bxSi | bxDi | bpSi | bpDi | si | di | bp | bx
deriving DecidableEq, Repr

/-- The displacement of an effective address: none (mod 00), one byte (mod 01) or one word (mod 10) (R210). -/
inductive Disp where
  | none
  | d8 (b : Byte)
  | d16 (w : Word)
deriving DecidableEq, Repr

/-- A memory operand of a ModRM byte: a register form with its displacement, or a direct 16-bit offset
(mod 00, r/m 110) (R211). -/
inductive MemOp where
  | based (b : AddrBase) (d : Disp)
  | direct (off : Word)
deriving DecidableEq, Repr

/-- What mod and r/m name: a register (mod 11) or a memory operand (R212, R211). -/
inductive RM (R : Type) where
  | reg (r : R)
  | mem (m : MemOp)
deriving DecidableEq, Repr

/-- An `eb` operand. -/
abbrev Rm8 := RM Reg8

/-- An `ew` operand (also `ed`, `m`, `md`, `mw`, whose register form is decoded and then refused with #UD, R213). -/
abbrev Rm16 := RM Reg16

/-- The repeat prefixes: F3H (REP, REPE, REPZ) and F2H (REPNE, REPNZ) (R232). -/
inductive RepKind where
  | repe | repne
deriving DecidableEq, Repr

/-- One constructor per row of spec/opcode_table.json.  Operands stand in the order the row names them.  A row for an
undefined opcode extension has no operand: the mod and r/m fields of its ModRM byte are read and play no part (R235,
R247).  The rows with operands come first, in the table's order, then the rows without (Lean compiles constructors
with fields only up to index 244). -/
inductive Instr where
  | addEbRb (e : Rm8) (r : Reg8) -- op /r: ADD eb,rb (00, R322)
  | addEwRw (e : Rm16) (r : Reg16) -- op /r: ADD ew,rw (01, R322)
  | addRbEb (r : Reg8) (e : Rm8) -- op /r: ADD rb,eb (02, R322)
  | addRwEw (r : Reg16) (e : Rm16) -- op /r: ADD rw,ew (03, R322)
  | addAlDb (imm : Byte) -- op db: ADD AL,db (04, R322)
  | addAxDw (imm : Word) -- op dw: ADD AX,dw (05, R322)
  | orEbRb (e : Rm8) (r : Reg8) -- op /r: OR eb,rb (08, R382)
  | orEwRw (e : Rm16) (r : Reg16) -- op /r: OR ew,rw (09, R382)
  | orRbEb (r : Reg8) (e : Rm8) -- op /r: OR rb,eb (0A, R382)
  | orRwEw (r : Reg16) (e : Rm16) -- op /r: OR rw,ew (0B, R382)
  | orAlDb (imm : Byte) -- op db: OR AL,db (0C, R382)
  | orAxDw (imm : Word) -- op dw: OR AX,dw (0D, R382)
  | adcEbRb (e : Rm8) (r : Reg8) -- op /r: ADC eb,rb (10, R323)
  | adcEwRw (e : Rm16) (r : Reg16) -- op /r: ADC ew,rw (11, R323)
  | adcRbEb (r : Reg8) (e : Rm8) -- op /r: ADC rb,eb (12, R323)
  | adcRwEw (r : Reg16) (e : Rm16) -- op /r: ADC rw,ew (13, R323)
  | adcAlDb (imm : Byte) -- op db: ADC AL,db (14, R323)
  | adcAxDw (imm : Word) -- op dw: ADC AX,dw (15, R323)
  | sbbEbRb (e : Rm8) (r : Reg8) -- op /r: SBB eb,rb (18, R325)
  | sbbEwRw (e : Rm16) (r : Reg16) -- op /r: SBB ew,rw (19, R325)
  | sbbRbEb (r : Reg8) (e : Rm8) -- op /r: SBB rb,eb (1A, R325)
  | sbbRwEw (r : Reg16) (e : Rm16) -- op /r: SBB rw,ew (1B, R325)
  | sbbAlDb (imm : Byte) -- op db: SBB AL,db (1C, R325)
  | sbbAxDw (imm : Word) -- op dw: SBB AX,dw (1D, R325)
  | andEbRb (e : Rm8) (r : Reg8) -- op /r: AND eb,rb (20, R381)
  | andEwRw (e : Rm16) (r : Reg16) -- op /r: AND ew,rw (21, R381)
  | andRbEb (r : Reg8) (e : Rm8) -- op /r: AND rb,eb (22, R381)
  | andRwEw (r : Reg16) (e : Rm16) -- op /r: AND rw,ew (23, R381)
  | andAlDb (imm : Byte) -- op db: AND AL,db (24, R381)
  | andAxDw (imm : Word) -- op dw: AND AX,dw (25, R381)
  | subEbRb (e : Rm8) (r : Reg8) -- op /r: SUB eb,rb (28, R324)
  | subEwRw (e : Rm16) (r : Reg16) -- op /r: SUB ew,rw (29, R324)
  | subRbEb (r : Reg8) (e : Rm8) -- op /r: SUB rb,eb (2A, R324)
  | subRwEw (r : Reg16) (e : Rm16) -- op /r: SUB rw,ew (2B, R324)
  | subAlDb (imm : Byte) -- op db: SUB AL,db (2C, R324)
  | subAxDw (imm : Word) -- op dw: SUB AX,dw (2D, R324)
  | xorEbRb (e : Rm8) (r : Reg8) -- op /r: XOR eb,rb (30, R383)
  | xorEwRw (e : Rm16) (r : Reg16) -- op /r: XOR ew,rw (31, R383)
  | xorRbEb (r : Reg8) (e : Rm8) -- op /r: XOR rb,eb (32, R383)
  | xorRwEw (r : Reg16) (e : Rm16) -- op /r: XOR rw,ew (33, R383)
  | xorAlDb (imm : Byte) -- op db: XOR AL,db (34, R383)
  | xorAxDw (imm : Word) -- op dw: XOR AX,dw (35, R383)
  | cmpEbRb (e : Rm8) (r : Reg8) -- op /r: CMP eb,rb (38, R326)
  | cmpEwRw (e : Rm16) (r : Reg16) -- op /r: CMP ew,rw (39, R326)
  | cmpRbEb (r : Reg8) (e : Rm8) -- op /r: CMP rb,eb (3A, R326)
  | cmpRwEw (r : Reg16) (e : Rm16) -- op /r: CMP rw,ew (3B, R326)
  | cmpAlDb (imm : Byte) -- op db: CMP AL,db (3C, R326)
  | cmpAxDw (imm : Word) -- op dw: CMP AX,dw (3D, R326)
  | addEbDb (e : Rm8) (imm : Byte) -- op /n db: ADD eb,db (80 00, R322)
  | orEbDb (e : Rm8) (imm : Byte) -- op /n db: OR eb,db (80 08, R382)
  | adcEbDb (e : Rm8) (imm : Byte) -- op /n db: ADC eb,db (80 10, R323)
  | sbbEbDb (e : Rm8) (imm : Byte) -- op /n db: SBB eb,db (80 18, R325)
  | andEbDb (e : Rm8) (imm : Byte) -- op /n db: AND eb,db (80 20, R381)
  | subEbDb (e : Rm8) (imm : Byte) -- op /n db: SUB eb,db (80 28, R324)
  | xorEbDb (e : Rm8) (imm : Byte) -- op /n db: XOR eb,db (80 30, R383)
  | cmpEbDb (e : Rm8) (imm : Byte) -- op /n db: CMP eb,db (80 38, R326)
  | addEwDw (e : Rm16) (imm : Word) -- op /n dw: ADD ew,dw (81 00, R322)
  | orEwDw (e : Rm16) (imm : Word) -- op /n dw: OR ew,dw (81 08, R382)
  | adcEwDw (e : Rm16) (imm : Word) -- op /n dw: ADC ew,dw (81 10, R323)
  | sbbEwDw (e : Rm16) (imm : Word) -- op /n dw: SBB ew,dw (81 18, R325)
  | andEwDw (e : Rm16) (imm : Word) -- op /n dw: AND ew,dw (81 20, R381)
  | subEwDw (e : Rm16) (imm : Word) -- op /n dw: SUB ew,dw (81 28, R324)
  | xorEwDw (e : Rm16) (imm : Word) -- op /n dw: XOR ew,dw (81 30, R383)
  | cmpEwDw (e : Rm16) (imm : Word) -- op /n dw: CMP ew,dw (81 38, R326)
  | addEwDb (e : Rm16) (imm : Byte) -- op /n db: ADD ew,db (83 00, R322)
  | adcEwDb (e : Rm16) (imm : Byte) -- op /n db: ADC ew,db (83 10, R323)
  | sbbEwDb (e : Rm16) (imm : Byte) -- op /n db: SBB ew,db (83 18, R325)
  | subEwDb (e : Rm16) (imm : Byte) -- op /n db: SUB ew,db (83 28, R324)
  | cmpEwDb (e : Rm16) (imm : Byte) -- op /n db: CMP ew,db (83 38, R326)
  | incRw (r : Reg16) -- op+rw: INC rw (40, R327)
  | decRw (r : Reg16) -- op+rw: DEC rw (48, R328)
  | pushRw (r : Reg16) -- op+rw: PUSH rw (50, R266)
  | popRw (r : Reg16) -- op+rw: POP rw (58, R270)
  | bound (r : Reg16) (e : Rm16) -- op /r: BOUND rw,md (62, R528)
  | arpl (e : Rm16) (r : Reg16) -- op /r: ARPL ew,rw (63, R625)
  | pushDw (imm : Word) -- op dw: PUSH dw (68, R268)
  | imulRwEwDw (r : Reg16) (e : Rm16) (imm : Word) -- op /r dw: IMUL rw,ew,dw (69, R332)
  | pushDb (imm : Byte) -- op db: PUSH db (6A, R268)
  | imulRwEwDb (r : Reg16) (e : Rm16) (imm : Byte) -- op /r db: IMUL rw,ew,db (6B, R332)
  | jo (disp : Byte) -- op cb: JO cb (70, R466)
  | jno (disp : Byte) -- op cb: JNO cb (71, R467)
  | jb (disp : Byte) -- op cb: JB_JC_JNAE cb (72, R468)
  | jae (disp : Byte) -- op cb: JAE_JNB_JNC cb (73, R469)
  | je (disp : Byte) -- op cb: JE_JZ cb (74, R470)
  | jne (disp : Byte) -- op cb: JNE_JNZ cb (75, R471)
  | jbe (disp : Byte) -- op cb: JBE_JNA cb (76, R472)
  | ja (disp : Byte) -- op cb: JA_JNBE cb (77, R473)
  | js (disp : Byte) -- op cb: JS cb (78, R474)
  | jns (disp : Byte) -- op cb: JNS cb (79, R475)
  | jp (disp : Byte) -- op cb: JP_JPE cb (7A, R476)
  | jnp (disp : Byte) -- op cb: JNP_JPO cb (7B, R477)
  | jl (disp : Byte) -- op cb: JL_JNGE cb (7C, R478)
  | jge (disp : Byte) -- op cb: JGE_JNL cb (7D, R479)
  | jle (disp : Byte) -- op cb: JLE_JNG cb (7E, R480)
  | jg (disp : Byte) -- op cb: JG_JNLE cb (7F, R481)
  | testEbRb (e : Rm8) (r : Reg8) -- op /r: TEST eb,rb (84, R385)
  | testEwRw (e : Rm16) (r : Reg16) -- op /r: TEST ew,rw (85, R385)
  | xchgEbRb (e : Rm8) (r : Reg8) -- op /r: XCHG eb,rb (86, R265)
  | xchgEwRw (e : Rm16) (r : Reg16) -- op /r: XCHG ew,rw (87, R265)
  | movEbRb (e : Rm8) (r : Reg8) -- op /r: MOV eb,rb (88, R261)
  | movEwRw (e : Rm16) (r : Reg16) -- op /r: MOV ew,rw (89, R261)
  | movRbEb (r : Reg8) (e : Rm8) -- op /r: MOV rb,eb (8A, R261)
  | movRwEw (r : Reg16) (e : Rm16) -- op /r: MOV rw,ew (8B, R261)
  | movEwEs (e : Rm16) -- op /n: MOV ew,ES (8C 00, R264)
  | movEwCs (e : Rm16) -- op /n: MOV ew,CS (8C 08, R264)
  | movEwSs (e : Rm16) -- op /n: MOV ew,SS (8C 10, R264)
  | movEwDs (e : Rm16) -- op /n: MOV ew,DS (8C 18, R264)
  | lea (r : Reg16) (e : Rm16) -- op /r: LEA rw,m (8D, R280)
  | movEsEw (e : Rm16) -- op /n: MOV ES,ew (8E 00, R263)
  | movSsEw (e : Rm16) -- op /n: MOV SS,ew (8E 10, R263)
  | movDsEw (e : Rm16) -- op /n: MOV DS,ew (8E 18, R263)
  | popMw (e : Rm16) -- op /n: POP mw (8F 00, R271)
  | xchgAxRw (r : Reg16) -- op+rw: XCHG AX,rw (90, R265)
  | callCd (off : Word) (sel : Word) -- op cd: CALL cd (9A, R459)
  | movAlXb (off : Word) -- op dw: MOV AL,xb (A0, R262)
  | movAxXw (off : Word) -- op dw: MOV AX,xw (A1, R262)
  | movXbAl (off : Word) -- op dw: MOV xb,AL (A2, R262)
  | movXwAx (off : Word) -- op dw: MOV xw,AX (A3, R262)
  | testAlDb (imm : Byte) -- op db: TEST AL,db (A8, R385)
  | testAxDw (imm : Word) -- op dw: TEST AX,dw (A9, R385)
  | movRbDb (r : Reg8) (imm : Byte) -- op+rb db: MOV rb,db (B0, R262)
  | movRwDw (r : Reg16) (imm : Word) -- op+rw dw: MOV rw,dw (B8, R262)
  | rolEbDb (e : Rm8) (imm : Byte) -- op /n db: ROL eb,db (C0 00, R393)
  | rorEbDb (e : Rm8) (imm : Byte) -- op /n db: ROR eb,db (C0 08, R394)
  | rclEbDb (e : Rm8) (imm : Byte) -- op /n db: RCL eb,db (C0 10, R395)
  | rcrEbDb (e : Rm8) (imm : Byte) -- op /n db: RCR eb,db (C0 18, R396)
  | shlEbDb (e : Rm8) (imm : Byte) -- op /n db: SAL_SHL eb,db (C0 20, R389)
  | shrEbDb (e : Rm8) (imm : Byte) -- op /n db: SHR eb,db (C0 28, R390)
  | sarEbDb (e : Rm8) (imm : Byte) -- op /n db: SAR eb,db (C0 38, R391)
  | rolEwDb (e : Rm16) (imm : Byte) -- op /n db: ROL ew,db (C1 00, R393)
  | rorEwDb (e : Rm16) (imm : Byte) -- op /n db: ROR ew,db (C1 08, R394)
  | rclEwDb (e : Rm16) (imm : Byte) -- op /n db: RCL ew,db (C1 10, R395)
  | rcrEwDb (e : Rm16) (imm : Byte) -- op /n db: RCR ew,db (C1 18, R396)
  | shlEwDb (e : Rm16) (imm : Byte) -- op /n db: SAL_SHL ew,db (C1 20, R389)
  | shrEwDb (e : Rm16) (imm : Byte) -- op /n db: SHR ew,db (C1 28, R390)
  | sarEwDb (e : Rm16) (imm : Byte) -- op /n db: SAR ew,db (C1 38, R391)
  | retDw (imm : Word) -- op dw: RET dw (C2, R462)
  | les (r : Reg16) (e : Rm16) -- op /r: LES rw,ed (C4, R281)
  | lds (r : Reg16) (e : Rm16) -- op /r: LDS rw,ed (C5, R281)
  | movEbDb (e : Rm8) (imm : Byte) -- op /n db: MOV eb,db (C6 00, R262)
  | movEwDw (e : Rm16) (imm : Word) -- op /n dw: MOV ew,dw (C7 00, R262)
  | enter (size : Word) (level : Byte) -- op dw db: ENTER dw,db (C8, R525)
  | retfDw (imm : Word) -- op dw: RET dw (CA, R464)
  | intDb (imm : Byte) -- op db: INT db (CD, R486)
  | rolEb1 (e : Rm8) -- op /n: ROL eb,1 (D0 00, R393)
  | rorEb1 (e : Rm8) -- op /n: ROR eb,1 (D0 08, R394)
  | rclEb1 (e : Rm8) -- op /n: RCL eb,1 (D0 10, R395)
  | rcrEb1 (e : Rm8) -- op /n: RCR eb,1 (D0 18, R396)
  | shlEb1 (e : Rm8) -- op /n: SAL_SHL eb,1 (D0 20, R389)
  | shrEb1 (e : Rm8) -- op /n: SHR eb,1 (D0 28, R390)
  | sarEb1 (e : Rm8) -- op /n: SAR eb,1 (D0 38, R391)
  | rolEw1 (e : Rm16) -- op /n: ROL ew,1 (D1 00, R393)
  | rorEw1 (e : Rm16) -- op /n: ROR ew,1 (D1 08, R394)
  | rclEw1 (e : Rm16) -- op /n: RCL ew,1 (D1 10, R395)
  | rcrEw1 (e : Rm16) -- op /n: RCR ew,1 (D1 18, R396)
  | shlEw1 (e : Rm16) -- op /n: SAL_SHL ew,1 (D1 20, R389)
  | shrEw1 (e : Rm16) -- op /n: SHR ew,1 (D1 28, R390)
  | sarEw1 (e : Rm16) -- op /n: SAR ew,1 (D1 38, R391)
  | rolEbCl (e : Rm8) -- op /n: ROL eb,CL (D2 00, R393)
  | rorEbCl (e : Rm8) -- op /n: ROR eb,CL (D2 08, R394)
  | rclEbCl (e : Rm8) -- op /n: RCL eb,CL (D2 10, R395)
  | rcrEbCl (e : Rm8) -- op /n: RCR eb,CL (D2 18, R396)
  | shlEbCl (e : Rm8) -- op /n: SAL_SHL eb,CL (D2 20, R389)
  | shrEbCl (e : Rm8) -- op /n: SHR eb,CL (D2 28, R390)
  | sarEbCl (e : Rm8) -- op /n: SAR eb,CL (D2 38, R391)
  | rolEwCl (e : Rm16) -- op /n: ROL ew,CL (D3 00, R393)
  | rorEwCl (e : Rm16) -- op /n: ROR ew,CL (D3 08, R394)
  | rclEwCl (e : Rm16) -- op /n: RCL ew,CL (D3 10, R395)
  | rcrEwCl (e : Rm16) -- op /n: RCR ew,CL (D3 18, R396)
  | shlEwCl (e : Rm16) -- op /n: SAL_SHL ew,CL (D3 20, R389)
  | shrEwCl (e : Rm16) -- op /n: SHR ew,CL (D3 28, R390)
  | sarEwCl (e : Rm16) -- op /n: SAR ew,CL (D3 38, R391)
  | undefD4 (aad : Bool) (second : Byte) -- op db: (undefined) (D4 00, R341)
  | esc (op : BitVec 3) (ext : BitVec 3) (e : RM (BitVec 3)) -- esc: ESC (D8, R532)
  | loopne (disp : Byte) -- op cb: LOOPNE_LOOPNZ cb (E0, R485)
  | loope (disp : Byte) -- op cb: LOOPE_LOOPZ cb (E1, R484)
  | loop (disp : Byte) -- op cb: LOOP cb (E2, R483)
  | jcxz (disp : Byte) -- op cb: JCXZ cb (E3, R482)
  | inAlDb (imm : Byte) -- op db: IN AL,db (E4, R282)
  | inAxDb (imm : Byte) -- op db: IN AX,db (E5, R282)
  | outDbAl (imm : Byte) -- op db: OUT db,AL (E6, R283)
  | outDbAx (imm : Byte) -- op db: OUT db,AX (E7, R283)
  | callCw (disp : Word) -- op cw: CALL cw (E8, R457)
  | jmpCw (disp : Word) -- op cw: JMP cw (E9, R453)
  | jmpCd (off : Word) (sel : Word) -- op cd: JMP cd (EA, R455)
  | jmpCb (disp : Byte) -- op cb: JMP cb (EB, R452)
  | testEbDb (e : Rm8) (imm : Byte) -- op /n db: TEST eb,db (F6 00, R385)
  | notEb (e : Rm8) -- op /n: NOT eb (F6 10, R384)
  | negEb (e : Rm8) -- op /n: NEG eb (F6 18, R329)
  | mulEb (e : Rm8) -- op /n: MUL eb (F6 20, R330)
  | imulEb (e : Rm8) -- op /n: IMUL eb (F6 28, R331)
  | divEb (e : Rm8) -- op /n: DIV eb (F6 30, R333)
  | idivEb (e : Rm8) -- op /n: IDIV eb (F6 38, R334)
  | testEwDw (e : Rm16) (imm : Word) -- op /n dw: TEST ew,dw (F7 00, R385)
  | notEw (e : Rm16) -- op /n: NOT ew (F7 10, R384)
  | negEw (e : Rm16) -- op /n: NEG ew (F7 18, R329)
  | mulEw (e : Rm16) -- op /n: MUL ew (F7 20, R330)
  | imulEw (e : Rm16) -- op /n: IMUL ew (F7 28, R331)
  | divEw (e : Rm16) -- op /n: DIV ew (F7 30, R333)
  | idivEw (e : Rm16) -- op /n: IDIV ew (F7 38, R334)
  | incEb (e : Rm8) -- op /n: INC eb (FE 00, R327)
  | decEb (e : Rm8) -- op /n: DEC eb (FE 08, R328)
  | incEw (e : Rm16) -- op /n: INC ew (FF 00, R327)
  | decEw (e : Rm16) -- op /n: DEC ew (FF 08, R328)
  | callEw (e : Rm16) -- op /n: CALL ew (FF 10, R458)
  | callEd (e : Rm16) -- op /n: CALL ed (FF 18, R460)
  | jmpEw (e : Rm16) -- op /n: JMP ew (FF 20, R454)
  | jmpEd (e : Rm16) -- op /n: JMP ed (FF 28, R456)
  | pushMw (e : Rm16) -- op /n: PUSH mw (FF 30, R267)
  | sldt (e : Rm16) -- 0F op /n: SLDT ew (0F 00 00, R615)
  | str (e : Rm16) -- 0F op /n: STR ew (0F 00 08, R617)
  | lldt (e : Rm16) -- 0F op /n: LLDT ew (0F 00 10, R616)
  | ltr (e : Rm16) -- 0F op /n: LTR ew (0F 00 18, R618)
  | verr (e : Rm16) -- 0F op /n: VERR ew (0F 00 20, R628)
  | verw (e : Rm16) -- 0F op /n: VERW ew (0F 00 28, R629)
  | sgdt (e : Rm16) -- 0F op /n: SGDT m (0F 01 00, R611)
  | sidt (e : Rm16) -- 0F op /n: SIDT m (0F 01 08, R612)
  | lgdt (e : Rm16) -- 0F op /n: LGDT m (0F 01 10, R613)
  | lidt (e : Rm16) -- 0F op /n: LIDT m (0F 01 18, R614)
  | smsw (e : Rm16) -- 0F op /n: SMSW ew (0F 01 20, R620)
  | lmsw (e : Rm16) -- 0F op /n: LMSW ew (0F 01 30, R621)
  | lar (r : Reg16) (e : Rm16) -- 0F op /r: LAR rw,ew (0F 02, R626)
  | lsl (r : Reg16) (e : Rm16) -- 0F op /r: LSL rw,ew (0F 03, R627)
  | undef0F (second : Byte) -- 0F op: (undefined) (0F 00, R246)
  | undef83x1 -- op /n db: (undefined) (83 08, R247)
  | undef83x4 -- op /n db: (undefined) (83 20, R247)
  | undef83x6 -- op /n db: (undefined) (83 30, R247)
  | pushEs -- op: PUSH ES (06, R269)
  | popEs -- op: POP ES (07, R272)
  | pushCs -- op: PUSH CS (0E, R269)
  | pushSs -- op: PUSH SS (16, R269)
  | popSs -- op: POP SS (17, R272)
  | pushDs -- op: PUSH DS (1E, R269)
  | popDs -- op: POP DS (1F, R272)
  | segEs -- prefix: ES: (26, R231)
  | segCs -- prefix: CS: (2E, R231)
  | segSs -- prefix: SS: (36, R231)
  | segDs -- prefix: DS: (3E, R231)
  | lock -- prefix: LOCK (F0, R521)
  | repne -- prefix: REPNE_REPNZ (F2, R431)
  | rep -- prefix: REP_REPE_REPZ (F3, R431)
  | daa -- op: DAA (27, R337)
  | das -- op: DAS (2F, R338)
  | aaa -- op: AAA (37, R339)
  | aas -- op: AAS (3F, R340)
  | pusha -- op: PUSHA (60, R273)
  | popa -- op: POPA (61, R274)
  | undef64 -- op: (undefined) (64, R245)
  | undef65 -- op: (undefined) (65, R245)
  | undef66 -- op: (undefined) (66, R245)
  | undef67 -- op: (undefined) (67, R245)
  | insb -- op: INSB eb,DX (6C, R426)
  | insw -- op: INSW ew,DX (6D, R426)
  | outsb -- op: OUTSB DX,eb (6E, R427)
  | outsw -- op: OUTSW DX,ew (6F, R427)
  | undef82 -- op: (undefined) (82, R245)
  | undef8Cx4to7 -- op /n: (undefined) (8C 20, R247)
  | undef8Ex1 -- op /n: (undefined) (8E 08, R248)
  | undef8Ex4to7 -- op /n: (undefined) (8E 20, R247)
  | undef8Fx1 -- op /n: (undefined) (8F 08, R247)
  | undef8Fx2 -- op /n: (undefined) (8F 10, R247)
  | undef8Fx3 -- op /n: (undefined) (8F 18, R247)
  | undef8Fx4 -- op /n: (undefined) (8F 20, R247)
  | undef8Fx5 -- op /n: (undefined) (8F 28, R247)
  | undef8Fx6 -- op /n: (undefined) (8F 30, R247)
  | undef8Fx7 -- op /n: (undefined) (8F 38, R247)
  | nop -- op: NOP (90, R520)
  | cbw -- op: CBW (98, R335)
  | cwd -- op: CWD (99, R336)
  | wait -- op: WAIT (9B, R531)
  | pushf -- op: PUSHF (9C, R275)
  | popf -- op: POPF (9D, R276)
  | sahf -- op: SAHF (9E, R278)
  | lahf -- op: LAHF (9F, R277)
  | movsb -- op: MOVSB (A4, R421)
  | movsw -- op: MOVSW (A5, R421)
  | cmpsb -- op: CMPSB (A6, R422)
  | cmpsw -- op: CMPSW (A7, R422)
  | stosb -- op: STOSB (AA, R425)
  | stosw -- op: STOSW (AB, R425)
  | lodsb -- op: LODSB (AC, R424)
  | lodsw -- op: LODSW (AD, R424)
  | scasb -- op: SCASB (AE, R423)
  | scasw -- op: SCASW (AF, R423)
  | undefC0x6 -- op /n db: (undefined) (C0 30, R247)
  | undefC1x6 -- op /n db: (undefined) (C1 30, R247)
  | ret -- op: RET (C3, R461)
  | undefC6x1 -- op /n db: (undefined) (C6 08, R247)
  | undefC6x2 -- op /n db: (undefined) (C6 10, R247)
  | undefC6x3 -- op /n db: (undefined) (C6 18, R247)
  | undefC6x4 -- op /n db: (undefined) (C6 20, R247)
  | undefC6x5 -- op /n db: (undefined) (C6 28, R247)
  | undefC6x6 -- op /n db: (undefined) (C6 30, R247)
  | undefC6x7 -- op /n db: (undefined) (C6 38, R247)
  | undefC7x1 -- op /n dw: (undefined) (C7 08, R247)
  | undefC7x2 -- op /n dw: (undefined) (C7 10, R247)
  | undefC7x3 -- op /n dw: (undefined) (C7 18, R247)
  | undefC7x4 -- op /n dw: (undefined) (C7 20, R247)
  | undefC7x5 -- op /n dw: (undefined) (C7 28, R247)
  | undefC7x6 -- op /n dw: (undefined) (C7 30, R247)
  | undefC7x7 -- op /n dw: (undefined) (C7 38, R247)
  | leave -- op: LEAVE (C9, R527)
  | retf -- op: RET (CB, R463)
  | int3 -- op: INT_3 (CC, R487)
  | into -- op: INTO (CE, R488)
  | iret -- op: IRET (CF, R489)
  | undefD0x6 -- op /n: (undefined) (D0 30, R247)
  | undefD1x6 -- op /n: (undefined) (D1 30, R247)
  | undefD2x6 -- op /n: (undefined) (D2 30, R247)
  | undefD3x6 -- op /n: (undefined) (D3 30, R247)
  | aam -- op 0A: AAM (D4 0A, R341)
  | aad -- op 0A: AAD (D5 0A, R342)
  | undefD6 -- op: (undefined) (D6, R245)
  | xlat -- op: XLAT_XLATB (D7, R279)
  | inAlDx -- op: IN AL,DX (EC, R282)
  | inAxDx -- op: IN AX,DX (ED, R282)
  | outDxAl -- op: OUT DX,AL (EE, R283)
  | outDxAx -- op: OUT DX,AX (EF, R283)
  | undefF1 -- op: (undefined) (F1, R245)
  | hlt -- op: HLT (F4, R530)
  | cmc -- op: CMC (F5, R513)
  | undefF6x1 -- op /n: (undefined) (F6 08, R247)
  | undefF7x1 -- op /n: (undefined) (F7 08, R247)
  | clc -- op: CLC (F8, R511)
  | stc -- op: STC (F9, R512)
  | cli -- op: CLI (FA, R516)
  | sti -- op: STI (FB, R518)
  | cld -- op: CLD (FC, R514)
  | std -- op: STD (FD, R515)
  | undefFEx2 -- op /n: (undefined) (FE 10, R247)
  | undefFEx3 -- op /n: (undefined) (FE 18, R247)
  | undefFEx4 -- op /n: (undefined) (FE 20, R247)
  | undefFEx5 -- op /n: (undefined) (FE 28, R247)
  | undefFEx6 -- op /n: (undefined) (FE 30, R247)
  | undefFEx7 -- op /n: (undefined) (FE 38, R247)
  | undefFFx7 -- op /n: (undefined) (FF 38, R247)
  | undef0F00x6to7 -- 0F op /n: (undefined) (0F 00 30, R247)
  | undef0F01x5 -- 0F op /n: (undefined) (0F 01 28, R247)
  | undef0F01x7 -- 0F op /n: (undefined) (0F 01 38, R247)
  | clts -- 0F op: CLTS (0F 06, R622)
deriving DecidableEq, Repr

end Sys2Proof
end

