-- ==== Sys2Proof/WellFormed.lean ====
section
/-! DEFINITION. Which terms of `Instr` are instructions: the terms some byte sequence decodes to.  Two kinds of term are
excluded: an operand that no ModRM byte writes (BP as the base with no displacement, whose encoding is the direct
address, spec/30_encoding.md R211) and a term that stands for bytes another row of the table owns (XCHG AX,AX is NOP;
the undefined rows of D4/D5 and of 0F do not cover the second bytes that have an instruction, R257). -/

namespace Sys2Proof

/-- BP alone is encoded with a displacement; without one the encoding is the direct address (R211). -/
def MemOp.wf : MemOp → Bool
  | .based b d => !(decide (b = .bp) && decide (d = .none))
  | .direct _ => true

/-- A register operand is always well formed, a memory operand as `MemOp.wf` says. -/
def RM.wf {R : Type} : RM R → Bool
  | .reg _ => true
  | .mem m => m.wf

/-- The second bytes after 0FH that have an instruction of their own (R242, R246). -/
def definedSecondByte (b : Byte) : Bool :=
  decide (b = 0x00) || decide (b = 0x01) || decide (b = 0x02) || decide (b = 0x03) || decide (b = 0x06)

/-- Well-formedness of an instruction, constructor by constructor. -/
def Instr.wf : Instr → Bool
  | .addEbRb e _ => e.wf
  | .addEwRw e _ => e.wf
  | .addRbEb _ e => e.wf
  | .addRwEw _ e => e.wf
  | .addAlDb _ => true
  | .addAxDw _ => true
  | .orEbRb e _ => e.wf
  | .orEwRw e _ => e.wf
  | .orRbEb _ e => e.wf
  | .orRwEw _ e => e.wf
  | .orAlDb _ => true
  | .orAxDw _ => true
  | .adcEbRb e _ => e.wf
  | .adcEwRw e _ => e.wf
  | .adcRbEb _ e => e.wf
  | .adcRwEw _ e => e.wf
  | .adcAlDb _ => true
  | .adcAxDw _ => true
  | .sbbEbRb e _ => e.wf
  | .sbbEwRw e _ => e.wf
  | .sbbRbEb _ e => e.wf
  | .sbbRwEw _ e => e.wf
  | .sbbAlDb _ => true
  | .sbbAxDw _ => true
  | .andEbRb e _ => e.wf
  | .andEwRw e _ => e.wf
  | .andRbEb _ e => e.wf
  | .andRwEw _ e => e.wf
  | .andAlDb _ => true
  | .andAxDw _ => true
  | .subEbRb e _ => e.wf
  | .subEwRw e _ => e.wf
  | .subRbEb _ e => e.wf
  | .subRwEw _ e => e.wf
  | .subAlDb _ => true
  | .subAxDw _ => true
  | .xorEbRb e _ => e.wf
  | .xorEwRw e _ => e.wf
  | .xorRbEb _ e => e.wf
  | .xorRwEw _ e => e.wf
  | .xorAlDb _ => true
  | .xorAxDw _ => true
  | .cmpEbRb e _ => e.wf
  | .cmpEwRw e _ => e.wf
  | .cmpRbEb _ e => e.wf
  | .cmpRwEw _ e => e.wf
  | .cmpAlDb _ => true
  | .cmpAxDw _ => true
  | .addEbDb e _ => e.wf
  | .orEbDb e _ => e.wf
  | .adcEbDb e _ => e.wf
  | .sbbEbDb e _ => e.wf
  | .andEbDb e _ => e.wf
  | .subEbDb e _ => e.wf
  | .xorEbDb e _ => e.wf
  | .cmpEbDb e _ => e.wf
  | .addEwDw e _ => e.wf
  | .orEwDw e _ => e.wf
  | .adcEwDw e _ => e.wf
  | .sbbEwDw e _ => e.wf
  | .andEwDw e _ => e.wf
  | .subEwDw e _ => e.wf
  | .xorEwDw e _ => e.wf
  | .cmpEwDw e _ => e.wf
  | .addEwDb e _ => e.wf
  | .adcEwDb e _ => e.wf
  | .sbbEwDb e _ => e.wf
  | .subEwDb e _ => e.wf
  | .cmpEwDb e _ => e.wf
  | .incRw _ => true
  | .decRw _ => true
  | .pushRw _ => true
  | .popRw _ => true
  | .bound _ e => e.wf
  | .arpl e _ => e.wf
  | .pushDw _ => true
  | .imulRwEwDw _ e _ => e.wf
  | .pushDb _ => true
  | .imulRwEwDb _ e _ => e.wf
  | .jo _ => true
  | .jno _ => true
  | .jb _ => true
  | .jae _ => true
  | .je _ => true
  | .jne _ => true
  | .jbe _ => true
  | .ja _ => true
  | .js _ => true
  | .jns _ => true
  | .jp _ => true
  | .jnp _ => true
  | .jl _ => true
  | .jge _ => true
  | .jle _ => true
  | .jg _ => true
  | .testEbRb e _ => e.wf
  | .testEwRw e _ => e.wf
  | .xchgEbRb e _ => e.wf
  | .xchgEwRw e _ => e.wf
  | .movEbRb e _ => e.wf
  | .movEwRw e _ => e.wf
  | .movRbEb _ e => e.wf
  | .movRwEw _ e => e.wf
  | .movEwEs e => e.wf
  | .movEwCs e => e.wf
  | .movEwSs e => e.wf
  | .movEwDs e => e.wf
  | .lea _ e => e.wf
  | .movEsEw e => e.wf
  | .movSsEw e => e.wf
  | .movDsEw e => e.wf
  | .popMw e => e.wf
  | .xchgAxRw r => decide (r ≠ .ax)
  | .callCd _ _ => true
  | .movAlXb _ => true
  | .movAxXw _ => true
  | .movXbAl _ => true
  | .movXwAx _ => true
  | .testAlDb _ => true
  | .testAxDw _ => true
  | .movRbDb _ _ => true
  | .movRwDw _ _ => true
  | .rolEbDb e _ => e.wf
  | .rorEbDb e _ => e.wf
  | .rclEbDb e _ => e.wf
  | .rcrEbDb e _ => e.wf
  | .shlEbDb e _ => e.wf
  | .shrEbDb e _ => e.wf
  | .sarEbDb e _ => e.wf
  | .rolEwDb e _ => e.wf
  | .rorEwDb e _ => e.wf
  | .rclEwDb e _ => e.wf
  | .rcrEwDb e _ => e.wf
  | .shlEwDb e _ => e.wf
  | .shrEwDb e _ => e.wf
  | .sarEwDb e _ => e.wf
  | .retDw _ => true
  | .les _ e => e.wf
  | .lds _ e => e.wf
  | .movEbDb e _ => e.wf
  | .movEwDw e _ => e.wf
  | .enter _ _ => true
  | .retfDw _ => true
  | .intDb _ => true
  | .rolEb1 e => e.wf
  | .rorEb1 e => e.wf
  | .rclEb1 e => e.wf
  | .rcrEb1 e => e.wf
  | .shlEb1 e => e.wf
  | .shrEb1 e => e.wf
  | .sarEb1 e => e.wf
  | .rolEw1 e => e.wf
  | .rorEw1 e => e.wf
  | .rclEw1 e => e.wf
  | .rcrEw1 e => e.wf
  | .shlEw1 e => e.wf
  | .shrEw1 e => e.wf
  | .sarEw1 e => e.wf
  | .rolEbCl e => e.wf
  | .rorEbCl e => e.wf
  | .rclEbCl e => e.wf
  | .rcrEbCl e => e.wf
  | .shlEbCl e => e.wf
  | .shrEbCl e => e.wf
  | .sarEbCl e => e.wf
  | .rolEwCl e => e.wf
  | .rorEwCl e => e.wf
  | .rclEwCl e => e.wf
  | .rcrEwCl e => e.wf
  | .shlEwCl e => e.wf
  | .shrEwCl e => e.wf
  | .sarEwCl e => e.wf
  | .undefD4 _ second => decide (second ≠ 0x0A)
  | .esc _ _ e => e.wf
  | .loopne _ => true
  | .loope _ => true
  | .loop _ => true
  | .jcxz _ => true
  | .inAlDb _ => true
  | .inAxDb _ => true
  | .outDbAl _ => true
  | .outDbAx _ => true
  | .callCw _ => true
  | .jmpCw _ => true
  | .jmpCd _ _ => true
  | .jmpCb _ => true
  | .testEbDb e _ => e.wf
  | .notEb e => e.wf
  | .negEb e => e.wf
  | .mulEb e => e.wf
  | .imulEb e => e.wf
  | .divEb e => e.wf
  | .idivEb e => e.wf
  | .testEwDw e _ => e.wf
  | .notEw e => e.wf
  | .negEw e => e.wf
  | .mulEw e => e.wf
  | .imulEw e => e.wf
  | .divEw e => e.wf
  | .idivEw e => e.wf
  | .incEb e => e.wf
  | .decEb e => e.wf
  | .incEw e => e.wf
  | .decEw e => e.wf
  | .callEw e => e.wf
  | .callEd e => e.wf
  | .jmpEw e => e.wf
  | .jmpEd e => e.wf
  | .pushMw e => e.wf
  | .sldt e => e.wf
  | .str e => e.wf
  | .lldt e => e.wf
  | .ltr e => e.wf
  | .verr e => e.wf
  | .verw e => e.wf
  | .sgdt e => e.wf
  | .sidt e => e.wf
  | .lgdt e => e.wf
  | .lidt e => e.wf
  | .smsw e => e.wf
  | .lmsw e => e.wf
  | .lar _ e => e.wf
  | .lsl _ e => e.wf
  | .undef0F second => !definedSecondByte second
  | .undef83x1 => true
  | .undef83x4 => true
  | .undef83x6 => true
  | .pushEs => true
  | .popEs => true
  | .pushCs => true
  | .pushSs => true
  | .popSs => true
  | .pushDs => true
  | .popDs => true
  | .segEs => true
  | .segCs => true
  | .segSs => true
  | .segDs => true
  | .lock => true
  | .repne => true
  | .rep => true
  | .daa => true
  | .das => true
  | .aaa => true
  | .aas => true
  | .pusha => true
  | .popa => true
  | .undef64 => true
  | .undef65 => true
  | .undef66 => true
  | .undef67 => true
  | .insb => true
  | .insw => true
  | .outsb => true
  | .outsw => true
  | .undef82 => true
  | .undef8Cx4to7 => true
  | .undef8Ex1 => true
  | .undef8Ex4to7 => true
  | .undef8Fx1 => true
  | .undef8Fx2 => true
  | .undef8Fx3 => true
  | .undef8Fx4 => true
  | .undef8Fx5 => true
  | .undef8Fx6 => true
  | .undef8Fx7 => true
  | .nop => true
  | .cbw => true
  | .cwd => true
  | .wait => true
  | .pushf => true
  | .popf => true
  | .sahf => true
  | .lahf => true
  | .movsb => true
  | .movsw => true
  | .cmpsb => true
  | .cmpsw => true
  | .stosb => true
  | .stosw => true
  | .lodsb => true
  | .lodsw => true
  | .scasb => true
  | .scasw => true
  | .undefC0x6 => true
  | .undefC1x6 => true
  | .ret => true
  | .undefC6x1 => true
  | .undefC6x2 => true
  | .undefC6x3 => true
  | .undefC6x4 => true
  | .undefC6x5 => true
  | .undefC6x6 => true
  | .undefC6x7 => true
  | .undefC7x1 => true
  | .undefC7x2 => true
  | .undefC7x3 => true
  | .undefC7x4 => true
  | .undefC7x5 => true
  | .undefC7x6 => true
  | .undefC7x7 => true
  | .leave => true
  | .retf => true
  | .int3 => true
  | .into => true
  | .iret => true
  | .undefD0x6 => true
  | .undefD1x6 => true
  | .undefD2x6 => true
  | .undefD3x6 => true
  | .aam => true
  | .aad => true
  | .undefD6 => true
  | .xlat => true
  | .inAlDx => true
  | .inAxDx => true
  | .outDxAl => true
  | .outDxAx => true
  | .undefF1 => true
  | .hlt => true
  | .cmc => true
  | .undefF6x1 => true
  | .undefF7x1 => true
  | .clc => true
  | .stc => true
  | .cli => true
  | .sti => true
  | .cld => true
  | .std => true
  | .undefFEx2 => true
  | .undefFEx3 => true
  | .undefFEx4 => true
  | .undefFEx5 => true
  | .undefFEx6 => true
  | .undefFEx7 => true
  | .undefFFx7 => true
  | .undef0F00x6to7 => true
  | .undef0F01x5 => true
  | .undef0F01x7 => true
  | .clts => true

end Sys2Proof
end

