-- ==== Sys2Proof/Decode.lean ====
section
/-! DEFINITION. From bytes to an instruction and back: the decoder, total on any bytes, and after it the encoder.  Both are
written from spec/30_encoding.md (the opcode maps R240 to R243, ModRM R203 and R210 to R212, immediates R220 to R223).
Every complete byte sequence decodes (undefined patterns have constructors of their own), so the decoder rejects only a
sequence that ends too early, and names the byte it lacks.  The byte-order and sign-extension helpers that decoding and the
machine share stand here too. -/

namespace Sys2Proof

/-! ### Bytes and words -/

/-- The word whose low byte comes first: all multi-byte fields are little-endian (R80, R81). -/
def mkWord (lo hi : Byte) : Word := hi ++ lo

/-- Bits 7:0 of a word. -/
def loByte (w : Word) : Byte := w.extractLsb' 0 8

/-- Bits 15:8 of a word. -/
def hiByte (w : Word) : Byte := w.extractLsb' 8 8

/-- The sign extension of a byte to a word (R210, R220(b), R221). -/
def sext16 (b : Byte) : Word := b.signExtend 16

/-- The zero extension of a byte to a word (R223). -/
def zext16 (b : Byte) : Word := b.zeroExtend 16

/-! ### Register numbers -/

/-- The word register of a 3-bit number (R204). -/
def Reg16.ofBits (b : BitVec 3) : Reg16 :=
  match b.toNat with
  | 0 => .ax | 1 => .cx | 2 => .dx | 3 => .bx | 4 => .sp | 5 => .bp | 6 => .si | _ => .di

/-- The 3-bit number of a word register (R204). -/
def Reg16.bits : Reg16 → BitVec 3
  | .ax => 0 | .cx => 1 | .dx => 2 | .bx => 3 | .sp => 4 | .bp => 5 | .si => 6 | .di => 7

/-- The byte register of a 3-bit number (R204). -/
def Reg8.ofBits (b : BitVec 3) : Reg8 :=
  match b.toNat with
  | 0 => .al | 1 => .cl | 2 => .dl | 3 => .bl | 4 => .ah | 5 => .ch | 6 => .dh | _ => .bh

/-- The 3-bit number of a byte register (R204). -/
def Reg8.bits : Reg8 → BitVec 3
  | .al => 0 | .cl => 1 | .dl => 2 | .bl => 3 | .ah => 4 | .ch => 5 | .dh => 6 | .bh => 7

/-- The effective-address form of an r/m field (R211). -/
def AddrBase.ofBits (b : BitVec 3) : AddrBase :=
  match b.toNat with
  | 0 => .bxSi | 1 => .bxDi | 2 => .bpSi | 3 => .bpDi | 4 => .si | 5 => .di | 6 => .bp | _ => .bx

/-- The r/m field of an effective-address form (R211). -/
def AddrBase.bits : AddrBase → BitVec 3
  | .bxSi => 0 | .bxDi => 1 | .bpSi => 2 | .bpDi => 3 | .si => 4 | .di => 5 | .bp => 6 | .bx => 7

/-! ### The ModRM byte (R203) -/

/-- Bits 7:6. -/
def modField (m : Byte) : BitVec 2 := m.extractLsb' 6 2

/-- Bits 5:3. -/
def regField (m : Byte) : BitVec 3 := m.extractLsb' 3 3

/-- Bits 2:0. -/
def rmField (m : Byte) : BitVec 3 := m.extractLsb' 0 3

/-- The ModRM byte of three fields: `mod*64 + reg*8 + rm`. -/
def modrmByte (md : BitVec 2) (reg rm : BitVec 3) : Byte := (md ++ reg ++ rm : BitVec (2 + 3 + 3))

/-! ### The decoder -/

/-- Why bytes are not a whole instruction: the first byte that is missing. -/
inductive DecodeError where
  | noOpcode
  | noSecondByte
  | noModRM
  | noDisplacement
  | noImmediate
deriving DecidableEq, Repr

/-- What follows a ModRM byte, and the instruction it makes. -/
inductive RmForm where
  | undef (i : Instr)   -- an undefined extension: nothing more is read (R235)
  | e8 (f : Rm8 → Instr)
  | e16 (f : Rm16 → Instr)
  | esc (f : RM (BitVec 3) → Instr)
  | e8i8 (f : Rm8 → Byte → Instr)
  | e16i8 (f : Rm16 → Byte → Instr)
  | e16i16 (f : Rm16 → Word → Instr)

/-- What follows an opcode byte (the format classes of R202). -/
inductive Layout where
  | op (i : Instr)
  | imm8 (f : Byte → Instr)
  | imm16 (f : Word → Instr)
  | imm16imm8 (f : Word → Byte → Instr)
  | ptr (f : Word → Word → Instr)
  | modrm (f : BitVec 3 → RmForm)
  | adjust (aad : Bool)     -- D4 and D5: the second byte 0AH is part of the opcode (R223, R341, R342)
  | twoByte                 -- 0F: the two-byte opcodes (R242)

/-- The entry of an opcode-extension group for a reg field. -/
def pick (g : List RmForm) (reg : BitVec 3) : RmForm := g.getD reg.toNat (.undef .undef64)

/-- Opcode extensions of 0F00 (R240 to R242, R247). -/
def group0F00 : List RmForm := [
  .e16 .sldt,
  .e16 .str,
  .e16 .lldt,
  .e16 .ltr,
  .e16 .verr,
  .e16 .verw,
  .undef .undef0F00x6to7,
  .undef .undef0F00x6to7]

/-- Opcode extensions of 0F01 (R240 to R242, R247). -/
def group0F01 : List RmForm := [
  .e16 .sgdt,
  .e16 .sidt,
  .e16 .lgdt,
  .e16 .lidt,
  .e16 .smsw,
  .undef .undef0F01x5,
  .e16 .lmsw,
  .undef .undef0F01x7]

/-- Opcode extensions of 80 (R240 to R242, R247). -/
def group80 : List RmForm := [
  .e8i8 .addEbDb,
  .e8i8 .orEbDb,
  .e8i8 .adcEbDb,
  .e8i8 .sbbEbDb,
  .e8i8 .andEbDb,
  .e8i8 .subEbDb,
  .e8i8 .xorEbDb,
  .e8i8 .cmpEbDb]

/-- Opcode extensions of 81 (R240 to R242, R247). -/
def group81 : List RmForm := [
  .e16i16 .addEwDw,
  .e16i16 .orEwDw,
  .e16i16 .adcEwDw,
  .e16i16 .sbbEwDw,
  .e16i16 .andEwDw,
  .e16i16 .subEwDw,
  .e16i16 .xorEwDw,
  .e16i16 .cmpEwDw]

/-- Opcode extensions of 83 (R240 to R242, R247). -/
def group83 : List RmForm := [
  .e16i8 .addEwDb,
  .undef .undef83x1,
  .e16i8 .adcEwDb,
  .e16i8 .sbbEwDb,
  .undef .undef83x4,
  .e16i8 .subEwDb,
  .undef .undef83x6,
  .e16i8 .cmpEwDb]

/-- Opcode extensions of 8C (R240 to R242, R247). -/
def group8C : List RmForm := [
  .e16 .movEwEs,
  .e16 .movEwCs,
  .e16 .movEwSs,
  .e16 .movEwDs,
  .undef .undef8Cx4to7,
  .undef .undef8Cx4to7,
  .undef .undef8Cx4to7,
  .undef .undef8Cx4to7]

/-- Opcode extensions of 8E (R240 to R242, R247). -/
def group8E : List RmForm := [
  .e16 .movEsEw,
  .undef .undef8Ex1,
  .e16 .movSsEw,
  .e16 .movDsEw,
  .undef .undef8Ex4to7,
  .undef .undef8Ex4to7,
  .undef .undef8Ex4to7,
  .undef .undef8Ex4to7]

/-- Opcode extensions of 8F (R240 to R242, R247). -/
def group8F : List RmForm := [
  .e16 .popMw,
  .undef .undef8Fx1,
  .undef .undef8Fx2,
  .undef .undef8Fx3,
  .undef .undef8Fx4,
  .undef .undef8Fx5,
  .undef .undef8Fx6,
  .undef .undef8Fx7]

/-- Opcode extensions of C0 (R240 to R242, R247). -/
def groupC0 : List RmForm := [
  .e8i8 .rolEbDb,
  .e8i8 .rorEbDb,
  .e8i8 .rclEbDb,
  .e8i8 .rcrEbDb,
  .e8i8 .shlEbDb,
  .e8i8 .shrEbDb,
  .undef .undefC0x6,
  .e8i8 .sarEbDb]

/-- Opcode extensions of C1 (R240 to R242, R247). -/
def groupC1 : List RmForm := [
  .e16i8 .rolEwDb,
  .e16i8 .rorEwDb,
  .e16i8 .rclEwDb,
  .e16i8 .rcrEwDb,
  .e16i8 .shlEwDb,
  .e16i8 .shrEwDb,
  .undef .undefC1x6,
  .e16i8 .sarEwDb]

/-- Opcode extensions of C6 (R240 to R242, R247). -/
def groupC6 : List RmForm := [
  .e8i8 .movEbDb,
  .undef .undefC6x1,
  .undef .undefC6x2,
  .undef .undefC6x3,
  .undef .undefC6x4,
  .undef .undefC6x5,
  .undef .undefC6x6,
  .undef .undefC6x7]

/-- Opcode extensions of C7 (R240 to R242, R247). -/
def groupC7 : List RmForm := [
  .e16i16 .movEwDw,
  .undef .undefC7x1,
  .undef .undefC7x2,
  .undef .undefC7x3,
  .undef .undefC7x4,
  .undef .undefC7x5,
  .undef .undefC7x6,
  .undef .undefC7x7]

/-- Opcode extensions of D0 (R240 to R242, R247). -/
def groupD0 : List RmForm := [
  .e8 .rolEb1,
  .e8 .rorEb1,
  .e8 .rclEb1,
  .e8 .rcrEb1,
  .e8 .shlEb1,
  .e8 .shrEb1,
  .undef .undefD0x6,
  .e8 .sarEb1]

/-- Opcode extensions of D1 (R240 to R242, R247). -/
def groupD1 : List RmForm := [
  .e16 .rolEw1,
  .e16 .rorEw1,
  .e16 .rclEw1,
  .e16 .rcrEw1,
  .e16 .shlEw1,
  .e16 .shrEw1,
  .undef .undefD1x6,
  .e16 .sarEw1]

/-- Opcode extensions of D2 (R240 to R242, R247). -/
def groupD2 : List RmForm := [
  .e8 .rolEbCl,
  .e8 .rorEbCl,
  .e8 .rclEbCl,
  .e8 .rcrEbCl,
  .e8 .shlEbCl,
  .e8 .shrEbCl,
  .undef .undefD2x6,
  .e8 .sarEbCl]

/-- Opcode extensions of D3 (R240 to R242, R247). -/
def groupD3 : List RmForm := [
  .e16 .rolEwCl,
  .e16 .rorEwCl,
  .e16 .rclEwCl,
  .e16 .rcrEwCl,
  .e16 .shlEwCl,
  .e16 .shrEwCl,
  .undef .undefD3x6,
  .e16 .sarEwCl]

/-- Opcode extensions of F6 (R240 to R242, R247). -/
def groupF6 : List RmForm := [
  .e8i8 .testEbDb,
  .undef .undefF6x1,
  .e8 .notEb,
  .e8 .negEb,
  .e8 .mulEb,
  .e8 .imulEb,
  .e8 .divEb,
  .e8 .idivEb]

/-- Opcode extensions of F7 (R240 to R242, R247). -/
def groupF7 : List RmForm := [
  .e16i16 .testEwDw,
  .undef .undefF7x1,
  .e16 .notEw,
  .e16 .negEw,
  .e16 .mulEw,
  .e16 .imulEw,
  .e16 .divEw,
  .e16 .idivEw]

/-- Opcode extensions of FE (R240 to R242, R247). -/
def groupFE : List RmForm := [
  .e8 .incEb,
  .e8 .decEb,
  .undef .undefFEx2,
  .undef .undefFEx3,
  .undef .undefFEx4,
  .undef .undefFEx5,
  .undef .undefFEx6,
  .undef .undefFEx7]

/-- Opcode extensions of FF (R240 to R242, R247). -/
def groupFF : List RmForm := [
  .e16 .incEw,
  .e16 .decEw,
  .e16 .callEw,
  .e16 .callEd,
  .e16 .jmpEw,
  .e16 .jmpEd,
  .e16 .pushMw,
  .undef .undefFFx7]

/-! The one-byte opcode map (R240), sixteen opcodes to a list. -/

/-- Opcodes 00 to 0F. -/
def opRow0 : List Layout := [
  .modrm fun reg => .e8 fun e => .addEbRb e (Reg8.ofBits reg),
  .modrm fun reg => .e16 fun e => .addEwRw e (Reg16.ofBits reg),
  .modrm fun reg => .e8 fun e => .addRbEb (Reg8.ofBits reg) e,
  .modrm fun reg => .e16 fun e => .addRwEw (Reg16.ofBits reg) e,
  .imm8 .addAlDb,
  .imm16 .addAxDw,
  .op .pushEs,
  .op .popEs,
  .modrm fun reg => .e8 fun e => .orEbRb e (Reg8.ofBits reg),
  .modrm fun reg => .e16 fun e => .orEwRw e (Reg16.ofBits reg),
  .modrm fun reg => .e8 fun e => .orRbEb (Reg8.ofBits reg) e,
  .modrm fun reg => .e16 fun e => .orRwEw (Reg16.ofBits reg) e,
  .imm8 .orAlDb,
  .imm16 .orAxDw,
  .op .pushCs,
  .twoByte]

/-- Opcodes 10 to 1F. -/
def opRow1 : List Layout := [
  .modrm fun reg => .e8 fun e => .adcEbRb e (Reg8.ofBits reg),
  .modrm fun reg => .e16 fun e => .adcEwRw e (Reg16.ofBits reg),
  .modrm fun reg => .e8 fun e => .adcRbEb (Reg8.ofBits reg) e,
  .modrm fun reg => .e16 fun e => .adcRwEw (Reg16.ofBits reg) e,
  .imm8 .adcAlDb,
  .imm16 .adcAxDw,
  .op .pushSs,
  .op .popSs,
  .modrm fun reg => .e8 fun e => .sbbEbRb e (Reg8.ofBits reg),
  .modrm fun reg => .e16 fun e => .sbbEwRw e (Reg16.ofBits reg),
  .modrm fun reg => .e8 fun e => .sbbRbEb (Reg8.ofBits reg) e,
  .modrm fun reg => .e16 fun e => .sbbRwEw (Reg16.ofBits reg) e,
  .imm8 .sbbAlDb,
  .imm16 .sbbAxDw,
  .op .pushDs,
  .op .popDs]

/-- Opcodes 20 to 2F. -/
def opRow2 : List Layout := [
  .modrm fun reg => .e8 fun e => .andEbRb e (Reg8.ofBits reg),
  .modrm fun reg => .e16 fun e => .andEwRw e (Reg16.ofBits reg),
  .modrm fun reg => .e8 fun e => .andRbEb (Reg8.ofBits reg) e,
  .modrm fun reg => .e16 fun e => .andRwEw (Reg16.ofBits reg) e,
  .imm8 .andAlDb,
  .imm16 .andAxDw,
  .op .segEs,
  .op .daa,
  .modrm fun reg => .e8 fun e => .subEbRb e (Reg8.ofBits reg),
  .modrm fun reg => .e16 fun e => .subEwRw e (Reg16.ofBits reg),
  .modrm fun reg => .e8 fun e => .subRbEb (Reg8.ofBits reg) e,
  .modrm fun reg => .e16 fun e => .subRwEw (Reg16.ofBits reg) e,
  .imm8 .subAlDb,
  .imm16 .subAxDw,
  .op .segCs,
  .op .das]

/-- Opcodes 30 to 3F. -/
def opRow3 : List Layout := [
  .modrm fun reg => .e8 fun e => .xorEbRb e (Reg8.ofBits reg),
  .modrm fun reg => .e16 fun e => .xorEwRw e (Reg16.ofBits reg),
  .modrm fun reg => .e8 fun e => .xorRbEb (Reg8.ofBits reg) e,
  .modrm fun reg => .e16 fun e => .xorRwEw (Reg16.ofBits reg) e,
  .imm8 .xorAlDb,
  .imm16 .xorAxDw,
  .op .segSs,
  .op .aaa,
  .modrm fun reg => .e8 fun e => .cmpEbRb e (Reg8.ofBits reg),
  .modrm fun reg => .e16 fun e => .cmpEwRw e (Reg16.ofBits reg),
  .modrm fun reg => .e8 fun e => .cmpRbEb (Reg8.ofBits reg) e,
  .modrm fun reg => .e16 fun e => .cmpRwEw (Reg16.ofBits reg) e,
  .imm8 .cmpAlDb,
  .imm16 .cmpAxDw,
  .op .segDs,
  .op .aas]

/-- Opcodes 40 to 4F. -/
def opRow4 : List Layout := [
  .op (.incRw .ax),
  .op (.incRw .cx),
  .op (.incRw .dx),
  .op (.incRw .bx),
  .op (.incRw .sp),
  .op (.incRw .bp),
  .op (.incRw .si),
  .op (.incRw .di),
  .op (.decRw .ax),
  .op (.decRw .cx),
  .op (.decRw .dx),
  .op (.decRw .bx),
  .op (.decRw .sp),
  .op (.decRw .bp),
  .op (.decRw .si),
  .op (.decRw .di)]

/-- Opcodes 50 to 5F. -/
def opRow5 : List Layout := [
  .op (.pushRw .ax),
  .op (.pushRw .cx),
  .op (.pushRw .dx),
  .op (.pushRw .bx),
  .op (.pushRw .sp),
  .op (.pushRw .bp),
  .op (.pushRw .si),
  .op (.pushRw .di),
  .op (.popRw .ax),
  .op (.popRw .cx),
  .op (.popRw .dx),
  .op (.popRw .bx),
  .op (.popRw .sp),
  .op (.popRw .bp),
  .op (.popRw .si),
  .op (.popRw .di)]

/-- Opcodes 60 to 6F. -/
def opRow6 : List Layout := [
  .op .pusha,
  .op .popa,
  .modrm fun reg => .e16 fun e => .bound (Reg16.ofBits reg) e,
  .modrm fun reg => .e16 fun e => .arpl e (Reg16.ofBits reg),
  .op .undef64,
  .op .undef65,
  .op .undef66,
  .op .undef67,
  .imm16 .pushDw,
  .modrm fun reg => .e16i16 fun e imm => .imulRwEwDw (Reg16.ofBits reg) e imm,
  .imm8 .pushDb,
  .modrm fun reg => .e16i8 fun e imm => .imulRwEwDb (Reg16.ofBits reg) e imm,
  .op .insb,
  .op .insw,
  .op .outsb,
  .op .outsw]

/-- Opcodes 70 to 7F. -/
def opRow7 : List Layout := [
  .imm8 .jo,
  .imm8 .jno,
  .imm8 .jb,
  .imm8 .jae,
  .imm8 .je,
  .imm8 .jne,
  .imm8 .jbe,
  .imm8 .ja,
  .imm8 .js,
  .imm8 .jns,
  .imm8 .jp,
  .imm8 .jnp,
  .imm8 .jl,
  .imm8 .jge,
  .imm8 .jle,
  .imm8 .jg]

/-- Opcodes 80 to 8F. -/
def opRow8 : List Layout := [
  .modrm (pick group80),
  .modrm (pick group81),
  .op .undef82,
  .modrm (pick group83),
  .modrm fun reg => .e8 fun e => .testEbRb e (Reg8.ofBits reg),
  .modrm fun reg => .e16 fun e => .testEwRw e (Reg16.ofBits reg),
  .modrm fun reg => .e8 fun e => .xchgEbRb e (Reg8.ofBits reg),
  .modrm fun reg => .e16 fun e => .xchgEwRw e (Reg16.ofBits reg),
  .modrm fun reg => .e8 fun e => .movEbRb e (Reg8.ofBits reg),
  .modrm fun reg => .e16 fun e => .movEwRw e (Reg16.ofBits reg),
  .modrm fun reg => .e8 fun e => .movRbEb (Reg8.ofBits reg) e,
  .modrm fun reg => .e16 fun e => .movRwEw (Reg16.ofBits reg) e,
  .modrm (pick group8C),
  .modrm fun reg => .e16 fun e => .lea (Reg16.ofBits reg) e,
  .modrm (pick group8E),
  .modrm (pick group8F)]

/-- Opcodes 90 to 9F. -/
def opRow9 : List Layout := [
  .op .nop,
  .op (.xchgAxRw .cx),
  .op (.xchgAxRw .dx),
  .op (.xchgAxRw .bx),
  .op (.xchgAxRw .sp),
  .op (.xchgAxRw .bp),
  .op (.xchgAxRw .si),
  .op (.xchgAxRw .di),
  .op .cbw,
  .op .cwd,
  .ptr .callCd,
  .op .wait,
  .op .pushf,
  .op .popf,
  .op .sahf,
  .op .lahf]

/-- Opcodes A0 to AF. -/
def opRowA : List Layout := [
  .imm16 .movAlXb,
  .imm16 .movAxXw,
  .imm16 .movXbAl,
  .imm16 .movXwAx,
  .op .movsb,
  .op .movsw,
  .op .cmpsb,
  .op .cmpsw,
  .imm8 .testAlDb,
  .imm16 .testAxDw,
  .op .stosb,
  .op .stosw,
  .op .lodsb,
  .op .lodsw,
  .op .scasb,
  .op .scasw]

/-- Opcodes B0 to BF. -/
def opRowB : List Layout := [
  .imm8 (.movRbDb .al),
  .imm8 (.movRbDb .cl),
  .imm8 (.movRbDb .dl),
  .imm8 (.movRbDb .bl),
  .imm8 (.movRbDb .ah),
  .imm8 (.movRbDb .ch),
  .imm8 (.movRbDb .dh),
  .imm8 (.movRbDb .bh),
  .imm16 (.movRwDw .ax),
  .imm16 (.movRwDw .cx),
  .imm16 (.movRwDw .dx),
  .imm16 (.movRwDw .bx),
  .imm16 (.movRwDw .sp),
  .imm16 (.movRwDw .bp),
  .imm16 (.movRwDw .si),
  .imm16 (.movRwDw .di)]

/-- Opcodes C0 to CF. -/
def opRowC : List Layout := [
  .modrm (pick groupC0),
  .modrm (pick groupC1),
  .imm16 .retDw,
  .op .ret,
  .modrm fun reg => .e16 fun e => .les (Reg16.ofBits reg) e,
  .modrm fun reg => .e16 fun e => .lds (Reg16.ofBits reg) e,
  .modrm (pick groupC6),
  .modrm (pick groupC7),
  .imm16imm8 .enter,
  .op .leave,
  .imm16 .retfDw,
  .op .retf,
  .op .int3,
  .imm8 .intDb,
  .op .into,
  .op .iret]

/-- Opcodes D0 to DF. -/
def opRowD : List Layout := [
  .modrm (pick groupD0),
  .modrm (pick groupD1),
  .modrm (pick groupD2),
  .modrm (pick groupD3),
  .adjust false,
  .adjust true,
  .op .undefD6,
  .op .xlat,
  .modrm fun reg => .esc (.esc 0 reg),
  .modrm fun reg => .esc (.esc 1 reg),
  .modrm fun reg => .esc (.esc 2 reg),
  .modrm fun reg => .esc (.esc 3 reg),
  .modrm fun reg => .esc (.esc 4 reg),
  .modrm fun reg => .esc (.esc 5 reg),
  .modrm fun reg => .esc (.esc 6 reg),
  .modrm fun reg => .esc (.esc 7 reg)]

/-- Opcodes E0 to EF. -/
def opRowE : List Layout := [
  .imm8 .loopne,
  .imm8 .loope,
  .imm8 .loop,
  .imm8 .jcxz,
  .imm8 .inAlDb,
  .imm8 .inAxDb,
  .imm8 .outDbAl,
  .imm8 .outDbAx,
  .imm16 .callCw,
  .imm16 .jmpCw,
  .ptr .jmpCd,
  .imm8 .jmpCb,
  .op .inAlDx,
  .op .inAxDx,
  .op .outDxAl,
  .op .outDxAx]

/-- Opcodes F0 to FF. -/
def opRowF : List Layout := [
  .op .lock,
  .op .undefF1,
  .op .repne,
  .op .rep,
  .op .hlt,
  .op .cmc,
  .modrm (pick groupF6),
  .modrm (pick groupF7),
  .op .clc,
  .op .stc,
  .op .cli,
  .op .sti,
  .op .cld,
  .op .std,
  .modrm (pick groupFE),
  .modrm (pick groupFF)]

/-- The rows of the one-byte opcode map. -/
def opRows : List (List Layout) := [
  opRow0, opRow1, opRow2, opRow3, opRow4, opRow5, opRow6, opRow7, opRow8, opRow9, opRowA, opRowB, opRowC, opRowD, opRowE, opRowF]

/-- The layout of a first byte (R240). -/
def layout (b : Byte) : Layout :=
  (opRows.getD (b.extractLsb' 4 4).toNat []).getD (b.extractLsb' 0 4).toNat .twoByte

/-- The two-byte opcodes that are instructions, with the second byte 00H to 06H (R242). -/
def twoByteRow : List Layout := [
  .modrm (pick group0F00),
  .modrm (pick group0F01),
  .modrm fun reg => .e16 fun e => .lar (Reg16.ofBits reg) e,
  .modrm fun reg => .e16 fun e => .lsl (Reg16.ofBits reg) e,
  .op (.undef0F 4),
  .op (.undef0F 5),
  .op .clts]

/-- The layout of a second byte after 0FH (R242, R246). -/
def layoutTwo (b : Byte) : Layout := twoByteRow.getD b.toNat (.op (.undef0F b))

/-- The memory operand a ModRM byte with mod ≠ 11 and the bytes after it name (R210, R211). -/
def readMem (m : Byte) (rest : List Byte) : Except DecodeError (MemOp × List Byte) :=
  if modField m = 0 then
    if rmField m = 6 then
      match rest with
      | lo :: hi :: rest => .ok (.direct (mkWord lo hi), rest)
      | _ => .error .noDisplacement
    else .ok (.based (AddrBase.ofBits (rmField m)) .none, rest)
  else if modField m = 1 then
    match rest with
    | b :: rest => .ok (.based (AddrBase.ofBits (rmField m)) (.d8 b), rest)
    | _ => .error .noDisplacement
  else
    match rest with
    | lo :: hi :: rest => .ok (.based (AddrBase.ofBits (rmField m)) (.d16 (mkWord lo hi)), rest)
    | _ => .error .noDisplacement

/-- The operand a ModRM byte and the bytes after it name; `ofBits` numbers the registers (R212). -/
def readRm {R : Type} (ofBits : BitVec 3 → R) (m : Byte) (rest : List Byte) :
    Except DecodeError (RM R × List Byte) :=
  if modField m = 3 then .ok (.reg (ofBits (rmField m)), rest)
  else match readMem m rest with
    | .ok (op, rest) => .ok (.mem op, rest)
    | .error e => .error e

/-- One immediate byte. -/
def readImm8 (f : Byte → Instr) : List Byte → Except DecodeError (Instr × List Byte)
  | b :: rest => .ok (f b, rest)
  | [] => .error .noImmediate

/-- One immediate word, low byte first (R220). -/
def readImm16 (f : Word → Instr) : List Byte → Except DecodeError (Instr × List Byte)
  | lo :: hi :: rest => .ok (f (mkWord lo hi), rest)
  | _ => .error .noImmediate

/-- The instruction of a ModRM form: displacement first, then the immediate (R200). -/
def decodeRm (m : Byte) (rest : List Byte) : RmForm → Except DecodeError (Instr × List Byte)
  | .undef i => .ok (i, rest)
  | .e8 f => match readRm Reg8.ofBits m rest with
    | .ok (e, rest) => .ok (f e, rest)
    | .error x => .error x
  | .e16 f => match readRm Reg16.ofBits m rest with
    | .ok (e, rest) => .ok (f e, rest)
    | .error x => .error x
  | .esc f => match readRm id m rest with
    | .ok (e, rest) => .ok (f e, rest)
    | .error x => .error x
  | .e8i8 f => match readRm Reg8.ofBits m rest with
    | .ok (e, rest) => readImm8 (f e) rest
    | .error x => .error x
  | .e16i8 f => match readRm Reg16.ofBits m rest with
    | .ok (e, rest) => readImm8 (f e) rest
    | .error x => .error x
  | .e16i16 f => match readRm Reg16.ofBits m rest with
    | .ok (e, rest) => readImm16 (f e) rest
    | .error x => .error x

/-- The instruction of a layout and the bytes after the opcode. -/
def decodeBody (rest : List Byte) : Layout → Except DecodeError (Instr × List Byte)
  | .op i => .ok (i, rest)
  | .imm8 f => readImm8 f rest
  | .imm16 f => readImm16 f rest
  | .imm16imm8 f => match rest with
    | lo :: hi :: b :: rest => .ok (f (mkWord lo hi) b, rest)
    | _ => .error .noImmediate
  | .ptr f => match rest with
    | a :: b :: c :: d :: rest => .ok (f (mkWord a b) (mkWord c d), rest)
    | _ => .error .noImmediate
  | .modrm f => match rest with
    | m :: rest => decodeRm m rest (f (regField m))
    | [] => .error .noModRM
  | .adjust aad => match rest with
    | b :: rest => .ok (if b = 0x0A then (if aad then .aad else .aam) else .undefD4 aad b, rest)
    | [] => .error .noSecondByte
  | .twoByte => .error .noSecondByte

/-- The decoder: the instruction at the head of the bytes and the bytes after it (R235).  A prefix byte decodes to its own
one-byte instruction. -/
def decode : List Byte → Except DecodeError (Instr × List Byte)
  | [] => .error .noOpcode
  | op :: rest =>
    match layout op with
    | .twoByte => match rest with
      | b :: rest => decodeBody rest (layoutTwo b)
      | [] => .error .noSecondByte
    | l => decodeBody rest l

/-! ### The encoder -/

/-- The ModRM byte and displacement of an operand, with a given reg field (R203, R210, R211). -/
def encodeRm {R : Type} (bits : R → BitVec 3) (reg : BitVec 3) : RM R → List Byte
  | .reg r => [modrmByte 3 reg (bits r)]
  | .mem (.direct off) => [modrmByte 0 reg 6, loByte off, hiByte off]
  | .mem (.based b .none) => [modrmByte 0 reg b.bits]
  | .mem (.based b (.d8 d)) => [modrmByte 1 reg b.bits, d]
  | .mem (.based b (.d16 w)) => [modrmByte 2 reg b.bits, loByte w, hiByte w]

/-- The bytes of an immediate word (R220). -/
def encodeWord (w : Word) : List Byte := [loByte w, hiByte w]

/-- The opcode byte of a `+r` class: the register number in bits 2:0 (R202). -/
def plusReg (op : Byte) (r : BitVec 3) : Byte := op ||| r.zeroExtend 8

/-- The bytes of an instruction, low address first (R200).  Where a row covers several ModRM bytes of one meaning (an
undefined extension) the one with mod 00 and r/m 000 stands for them. -/
def encode : Instr → List Byte
  | .addEbRb e r => 0x00 :: encodeRm Reg8.bits r.bits e
  | .addEwRw e r => 0x01 :: encodeRm Reg16.bits r.bits e
  | .addRbEb r e => 0x02 :: encodeRm Reg8.bits r.bits e
  | .addRwEw r e => 0x03 :: encodeRm Reg16.bits r.bits e
  | .addAlDb imm => [0x04, imm]
  | .addAxDw imm => 0x05 :: encodeWord imm
  | .orEbRb e r => 0x08 :: encodeRm Reg8.bits r.bits e
  | .orEwRw e r => 0x09 :: encodeRm Reg16.bits r.bits e
  | .orRbEb r e => 0x0A :: encodeRm Reg8.bits r.bits e
  | .orRwEw r e => 0x0B :: encodeRm Reg16.bits r.bits e
  | .orAlDb imm => [0x0C, imm]
  | .orAxDw imm => 0x0D :: encodeWord imm
  | .adcEbRb e r => 0x10 :: encodeRm Reg8.bits r.bits e
  | .adcEwRw e r => 0x11 :: encodeRm Reg16.bits r.bits e
  | .adcRbEb r e => 0x12 :: encodeRm Reg8.bits r.bits e
  | .adcRwEw r e => 0x13 :: encodeRm Reg16.bits r.bits e
  | .adcAlDb imm => [0x14, imm]
  | .adcAxDw imm => 0x15 :: encodeWord imm
  | .sbbEbRb e r => 0x18 :: encodeRm Reg8.bits r.bits e
  | .sbbEwRw e r => 0x19 :: encodeRm Reg16.bits r.bits e
  | .sbbRbEb r e => 0x1A :: encodeRm Reg8.bits r.bits e
  | .sbbRwEw r e => 0x1B :: encodeRm Reg16.bits r.bits e
  | .sbbAlDb imm => [0x1C, imm]
  | .sbbAxDw imm => 0x1D :: encodeWord imm
  | .andEbRb e r => 0x20 :: encodeRm Reg8.bits r.bits e
  | .andEwRw e r => 0x21 :: encodeRm Reg16.bits r.bits e
  | .andRbEb r e => 0x22 :: encodeRm Reg8.bits r.bits e
  | .andRwEw r e => 0x23 :: encodeRm Reg16.bits r.bits e
  | .andAlDb imm => [0x24, imm]
  | .andAxDw imm => 0x25 :: encodeWord imm
  | .subEbRb e r => 0x28 :: encodeRm Reg8.bits r.bits e
  | .subEwRw e r => 0x29 :: encodeRm Reg16.bits r.bits e
  | .subRbEb r e => 0x2A :: encodeRm Reg8.bits r.bits e
  | .subRwEw r e => 0x2B :: encodeRm Reg16.bits r.bits e
  | .subAlDb imm => [0x2C, imm]
  | .subAxDw imm => 0x2D :: encodeWord imm
  | .xorEbRb e r => 0x30 :: encodeRm Reg8.bits r.bits e
  | .xorEwRw e r => 0x31 :: encodeRm Reg16.bits r.bits e
  | .xorRbEb r e => 0x32 :: encodeRm Reg8.bits r.bits e
  | .xorRwEw r e => 0x33 :: encodeRm Reg16.bits r.bits e
  | .xorAlDb imm => [0x34, imm]
  | .xorAxDw imm => 0x35 :: encodeWord imm
  | .cmpEbRb e r => 0x38 :: encodeRm Reg8.bits r.bits e
  | .cmpEwRw e r => 0x39 :: encodeRm Reg16.bits r.bits e
  | .cmpRbEb r e => 0x3A :: encodeRm Reg8.bits r.bits e
  | .cmpRwEw r e => 0x3B :: encodeRm Reg16.bits r.bits e
  | .cmpAlDb imm => [0x3C, imm]
  | .cmpAxDw imm => 0x3D :: encodeWord imm
  | .addEbDb e imm => 0x80 :: encodeRm Reg8.bits 0 e ++ [imm]
  | .orEbDb e imm => 0x80 :: encodeRm Reg8.bits 1 e ++ [imm]
  | .adcEbDb e imm => 0x80 :: encodeRm Reg8.bits 2 e ++ [imm]
  | .sbbEbDb e imm => 0x80 :: encodeRm Reg8.bits 3 e ++ [imm]
  | .andEbDb e imm => 0x80 :: encodeRm Reg8.bits 4 e ++ [imm]
  | .subEbDb e imm => 0x80 :: encodeRm Reg8.bits 5 e ++ [imm]
  | .xorEbDb e imm => 0x80 :: encodeRm Reg8.bits 6 e ++ [imm]
  | .cmpEbDb e imm => 0x80 :: encodeRm Reg8.bits 7 e ++ [imm]
  | .addEwDw e imm => 0x81 :: encodeRm Reg16.bits 0 e ++ encodeWord imm
  | .orEwDw e imm => 0x81 :: encodeRm Reg16.bits 1 e ++ encodeWord imm
  | .adcEwDw e imm => 0x81 :: encodeRm Reg16.bits 2 e ++ encodeWord imm
  | .sbbEwDw e imm => 0x81 :: encodeRm Reg16.bits 3 e ++ encodeWord imm
  | .andEwDw e imm => 0x81 :: encodeRm Reg16.bits 4 e ++ encodeWord imm
  | .subEwDw e imm => 0x81 :: encodeRm Reg16.bits 5 e ++ encodeWord imm
  | .xorEwDw e imm => 0x81 :: encodeRm Reg16.bits 6 e ++ encodeWord imm
  | .cmpEwDw e imm => 0x81 :: encodeRm Reg16.bits 7 e ++ encodeWord imm
  | .addEwDb e imm => 0x83 :: encodeRm Reg16.bits 0 e ++ [imm]
  | .adcEwDb e imm => 0x83 :: encodeRm Reg16.bits 2 e ++ [imm]
  | .sbbEwDb e imm => 0x83 :: encodeRm Reg16.bits 3 e ++ [imm]
  | .subEwDb e imm => 0x83 :: encodeRm Reg16.bits 5 e ++ [imm]
  | .cmpEwDb e imm => 0x83 :: encodeRm Reg16.bits 7 e ++ [imm]
  | .incRw r => [plusReg 0x40 r.bits]
  | .decRw r => [plusReg 0x48 r.bits]
  | .pushRw r => [plusReg 0x50 r.bits]
  | .popRw r => [plusReg 0x58 r.bits]
  | .bound r e => 0x62 :: encodeRm Reg16.bits r.bits e
  | .arpl e r => 0x63 :: encodeRm Reg16.bits r.bits e
  | .pushDw imm => 0x68 :: encodeWord imm
  | .imulRwEwDw r e imm => 0x69 :: encodeRm Reg16.bits r.bits e ++ encodeWord imm
  | .pushDb imm => [0x6A, imm]
  | .imulRwEwDb r e imm => 0x6B :: encodeRm Reg16.bits r.bits e ++ [imm]
  | .jo disp => [0x70, disp]
  | .jno disp => [0x71, disp]
  | .jb disp => [0x72, disp]
  | .jae disp => [0x73, disp]
  | .je disp => [0x74, disp]
  | .jne disp => [0x75, disp]
  | .jbe disp => [0x76, disp]
  | .ja disp => [0x77, disp]
  | .js disp => [0x78, disp]
  | .jns disp => [0x79, disp]
  | .jp disp => [0x7A, disp]
  | .jnp disp => [0x7B, disp]
  | .jl disp => [0x7C, disp]
  | .jge disp => [0x7D, disp]
  | .jle disp => [0x7E, disp]
  | .jg disp => [0x7F, disp]
  | .testEbRb e r => 0x84 :: encodeRm Reg8.bits r.bits e
  | .testEwRw e r => 0x85 :: encodeRm Reg16.bits r.bits e
  | .xchgEbRb e r => 0x86 :: encodeRm Reg8.bits r.bits e
  | .xchgEwRw e r => 0x87 :: encodeRm Reg16.bits r.bits e
  | .movEbRb e r => 0x88 :: encodeRm Reg8.bits r.bits e
  | .movEwRw e r => 0x89 :: encodeRm Reg16.bits r.bits e
  | .movRbEb r e => 0x8A :: encodeRm Reg8.bits r.bits e
  | .movRwEw r e => 0x8B :: encodeRm Reg16.bits r.bits e
  | .movEwEs e => 0x8C :: encodeRm Reg16.bits 0 e
  | .movEwCs e => 0x8C :: encodeRm Reg16.bits 1 e
  | .movEwSs e => 0x8C :: encodeRm Reg16.bits 2 e
  | .movEwDs e => 0x8C :: encodeRm Reg16.bits 3 e
  | .lea r e => 0x8D :: encodeRm Reg16.bits r.bits e
  | .movEsEw e => 0x8E :: encodeRm Reg16.bits 0 e
  | .movSsEw e => 0x8E :: encodeRm Reg16.bits 2 e
  | .movDsEw e => 0x8E :: encodeRm Reg16.bits 3 e
  | .popMw e => 0x8F :: encodeRm Reg16.bits 0 e
  | .xchgAxRw r => [plusReg 0x90 r.bits]
  | .callCd off sel => 0x9A :: encodeWord off ++ encodeWord sel
  | .movAlXb off => 0xA0 :: encodeWord off
  | .movAxXw off => 0xA1 :: encodeWord off
  | .movXbAl off => 0xA2 :: encodeWord off
  | .movXwAx off => 0xA3 :: encodeWord off
  | .testAlDb imm => [0xA8, imm]
  | .testAxDw imm => 0xA9 :: encodeWord imm
  | .movRbDb r imm => [plusReg 0xB0 r.bits, imm]
  | .movRwDw r imm => plusReg 0xB8 r.bits :: encodeWord imm
  | .rolEbDb e imm => 0xC0 :: encodeRm Reg8.bits 0 e ++ [imm]
  | .rorEbDb e imm => 0xC0 :: encodeRm Reg8.bits 1 e ++ [imm]
  | .rclEbDb e imm => 0xC0 :: encodeRm Reg8.bits 2 e ++ [imm]
  | .rcrEbDb e imm => 0xC0 :: encodeRm Reg8.bits 3 e ++ [imm]
  | .shlEbDb e imm => 0xC0 :: encodeRm Reg8.bits 4 e ++ [imm]
  | .shrEbDb e imm => 0xC0 :: encodeRm Reg8.bits 5 e ++ [imm]
  | .sarEbDb e imm => 0xC0 :: encodeRm Reg8.bits 7 e ++ [imm]
  | .rolEwDb e imm => 0xC1 :: encodeRm Reg16.bits 0 e ++ [imm]
  | .rorEwDb e imm => 0xC1 :: encodeRm Reg16.bits 1 e ++ [imm]
  | .rclEwDb e imm => 0xC1 :: encodeRm Reg16.bits 2 e ++ [imm]
  | .rcrEwDb e imm => 0xC1 :: encodeRm Reg16.bits 3 e ++ [imm]
  | .shlEwDb e imm => 0xC1 :: encodeRm Reg16.bits 4 e ++ [imm]
  | .shrEwDb e imm => 0xC1 :: encodeRm Reg16.bits 5 e ++ [imm]
  | .sarEwDb e imm => 0xC1 :: encodeRm Reg16.bits 7 e ++ [imm]
  | .retDw imm => 0xC2 :: encodeWord imm
  | .les r e => 0xC4 :: encodeRm Reg16.bits r.bits e
  | .lds r e => 0xC5 :: encodeRm Reg16.bits r.bits e
  | .movEbDb e imm => 0xC6 :: encodeRm Reg8.bits 0 e ++ [imm]
  | .movEwDw e imm => 0xC7 :: encodeRm Reg16.bits 0 e ++ encodeWord imm
  | .enter size level => 0xC8 :: encodeWord size ++ [level]
  | .retfDw imm => 0xCA :: encodeWord imm
  | .intDb imm => [0xCD, imm]
  | .rolEb1 e => 0xD0 :: encodeRm Reg8.bits 0 e
  | .rorEb1 e => 0xD0 :: encodeRm Reg8.bits 1 e
  | .rclEb1 e => 0xD0 :: encodeRm Reg8.bits 2 e
  | .rcrEb1 e => 0xD0 :: encodeRm Reg8.bits 3 e
  | .shlEb1 e => 0xD0 :: encodeRm Reg8.bits 4 e
  | .shrEb1 e => 0xD0 :: encodeRm Reg8.bits 5 e
  | .sarEb1 e => 0xD0 :: encodeRm Reg8.bits 7 e
  | .rolEw1 e => 0xD1 :: encodeRm Reg16.bits 0 e
  | .rorEw1 e => 0xD1 :: encodeRm Reg16.bits 1 e
  | .rclEw1 e => 0xD1 :: encodeRm Reg16.bits 2 e
  | .rcrEw1 e => 0xD1 :: encodeRm Reg16.bits 3 e
  | .shlEw1 e => 0xD1 :: encodeRm Reg16.bits 4 e
  | .shrEw1 e => 0xD1 :: encodeRm Reg16.bits 5 e
  | .sarEw1 e => 0xD1 :: encodeRm Reg16.bits 7 e
  | .rolEbCl e => 0xD2 :: encodeRm Reg8.bits 0 e
  | .rorEbCl e => 0xD2 :: encodeRm Reg8.bits 1 e
  | .rclEbCl e => 0xD2 :: encodeRm Reg8.bits 2 e
  | .rcrEbCl e => 0xD2 :: encodeRm Reg8.bits 3 e
  | .shlEbCl e => 0xD2 :: encodeRm Reg8.bits 4 e
  | .shrEbCl e => 0xD2 :: encodeRm Reg8.bits 5 e
  | .sarEbCl e => 0xD2 :: encodeRm Reg8.bits 7 e
  | .rolEwCl e => 0xD3 :: encodeRm Reg16.bits 0 e
  | .rorEwCl e => 0xD3 :: encodeRm Reg16.bits 1 e
  | .rclEwCl e => 0xD3 :: encodeRm Reg16.bits 2 e
  | .rcrEwCl e => 0xD3 :: encodeRm Reg16.bits 3 e
  | .shlEwCl e => 0xD3 :: encodeRm Reg16.bits 4 e
  | .shrEwCl e => 0xD3 :: encodeRm Reg16.bits 5 e
  | .sarEwCl e => 0xD3 :: encodeRm Reg16.bits 7 e
  | .undefD4 aad second => [if aad then 0xD5 else 0xD4, second]
  | .esc op ext e => plusReg 0xD8 op :: encodeRm id ext e
  | .loopne disp => [0xE0, disp]
  | .loope disp => [0xE1, disp]
  | .loop disp => [0xE2, disp]
  | .jcxz disp => [0xE3, disp]
  | .inAlDb imm => [0xE4, imm]
  | .inAxDb imm => [0xE5, imm]
  | .outDbAl imm => [0xE6, imm]
  | .outDbAx imm => [0xE7, imm]
  | .callCw disp => 0xE8 :: encodeWord disp
  | .jmpCw disp => 0xE9 :: encodeWord disp
  | .jmpCd off sel => 0xEA :: encodeWord off ++ encodeWord sel
  | .jmpCb disp => [0xEB, disp]
  | .testEbDb e imm => 0xF6 :: encodeRm Reg8.bits 0 e ++ [imm]
  | .notEb e => 0xF6 :: encodeRm Reg8.bits 2 e
  | .negEb e => 0xF6 :: encodeRm Reg8.bits 3 e
  | .mulEb e => 0xF6 :: encodeRm Reg8.bits 4 e
  | .imulEb e => 0xF6 :: encodeRm Reg8.bits 5 e
  | .divEb e => 0xF6 :: encodeRm Reg8.bits 6 e
  | .idivEb e => 0xF6 :: encodeRm Reg8.bits 7 e
  | .testEwDw e imm => 0xF7 :: encodeRm Reg16.bits 0 e ++ encodeWord imm
  | .notEw e => 0xF7 :: encodeRm Reg16.bits 2 e
  | .negEw e => 0xF7 :: encodeRm Reg16.bits 3 e
  | .mulEw e => 0xF7 :: encodeRm Reg16.bits 4 e
  | .imulEw e => 0xF7 :: encodeRm Reg16.bits 5 e
  | .divEw e => 0xF7 :: encodeRm Reg16.bits 6 e
  | .idivEw e => 0xF7 :: encodeRm Reg16.bits 7 e
  | .incEb e => 0xFE :: encodeRm Reg8.bits 0 e
  | .decEb e => 0xFE :: encodeRm Reg8.bits 1 e
  | .incEw e => 0xFF :: encodeRm Reg16.bits 0 e
  | .decEw e => 0xFF :: encodeRm Reg16.bits 1 e
  | .callEw e => 0xFF :: encodeRm Reg16.bits 2 e
  | .callEd e => 0xFF :: encodeRm Reg16.bits 3 e
  | .jmpEw e => 0xFF :: encodeRm Reg16.bits 4 e
  | .jmpEd e => 0xFF :: encodeRm Reg16.bits 5 e
  | .pushMw e => 0xFF :: encodeRm Reg16.bits 6 e
  | .sldt e => 0x0F :: 0x00 :: encodeRm Reg16.bits 0 e
  | .str e => 0x0F :: 0x00 :: encodeRm Reg16.bits 1 e
  | .lldt e => 0x0F :: 0x00 :: encodeRm Reg16.bits 2 e
  | .ltr e => 0x0F :: 0x00 :: encodeRm Reg16.bits 3 e
  | .verr e => 0x0F :: 0x00 :: encodeRm Reg16.bits 4 e
  | .verw e => 0x0F :: 0x00 :: encodeRm Reg16.bits 5 e
  | .sgdt e => 0x0F :: 0x01 :: encodeRm Reg16.bits 0 e
  | .sidt e => 0x0F :: 0x01 :: encodeRm Reg16.bits 1 e
  | .lgdt e => 0x0F :: 0x01 :: encodeRm Reg16.bits 2 e
  | .lidt e => 0x0F :: 0x01 :: encodeRm Reg16.bits 3 e
  | .smsw e => 0x0F :: 0x01 :: encodeRm Reg16.bits 4 e
  | .lmsw e => 0x0F :: 0x01 :: encodeRm Reg16.bits 6 e
  | .lar r e => 0x0F :: 0x02 :: encodeRm Reg16.bits r.bits e
  | .lsl r e => 0x0F :: 0x03 :: encodeRm Reg16.bits r.bits e
  | .undef0F second => [0x0F, second]
  | .undef83x1 => [0x83, modrmByte 0 1 0]
  | .undef83x4 => [0x83, modrmByte 0 4 0]
  | .undef83x6 => [0x83, modrmByte 0 6 0]
  | .pushEs => [0x06]
  | .popEs => [0x07]
  | .pushCs => [0x0E]
  | .pushSs => [0x16]
  | .popSs => [0x17]
  | .pushDs => [0x1E]
  | .popDs => [0x1F]
  | .segEs => [0x26]
  | .segCs => [0x2E]
  | .segSs => [0x36]
  | .segDs => [0x3E]
  | .lock => [0xF0]
  | .repne => [0xF2]
  | .rep => [0xF3]
  | .daa => [0x27]
  | .das => [0x2F]
  | .aaa => [0x37]
  | .aas => [0x3F]
  | .pusha => [0x60]
  | .popa => [0x61]
  | .undef64 => [0x64]
  | .undef65 => [0x65]
  | .undef66 => [0x66]
  | .undef67 => [0x67]
  | .insb => [0x6C]
  | .insw => [0x6D]
  | .outsb => [0x6E]
  | .outsw => [0x6F]
  | .undef82 => [0x82]
  | .undef8Cx4to7 => [0x8C, modrmByte 0 4 0]
  | .undef8Ex1 => [0x8E, modrmByte 0 1 0]
  | .undef8Ex4to7 => [0x8E, modrmByte 0 4 0]
  | .undef8Fx1 => [0x8F, modrmByte 0 1 0]
  | .undef8Fx2 => [0x8F, modrmByte 0 2 0]
  | .undef8Fx3 => [0x8F, modrmByte 0 3 0]
  | .undef8Fx4 => [0x8F, modrmByte 0 4 0]
  | .undef8Fx5 => [0x8F, modrmByte 0 5 0]
  | .undef8Fx6 => [0x8F, modrmByte 0 6 0]
  | .undef8Fx7 => [0x8F, modrmByte 0 7 0]
  | .nop => [0x90]
  | .cbw => [0x98]
  | .cwd => [0x99]
  | .wait => [0x9B]
  | .pushf => [0x9C]
  | .popf => [0x9D]
  | .sahf => [0x9E]
  | .lahf => [0x9F]
  | .movsb => [0xA4]
  | .movsw => [0xA5]
  | .cmpsb => [0xA6]
  | .cmpsw => [0xA7]
  | .stosb => [0xAA]
  | .stosw => [0xAB]
  | .lodsb => [0xAC]
  | .lodsw => [0xAD]
  | .scasb => [0xAE]
  | .scasw => [0xAF]
  | .undefC0x6 => [0xC0, modrmByte 0 6 0]
  | .undefC1x6 => [0xC1, modrmByte 0 6 0]
  | .ret => [0xC3]
  | .undefC6x1 => [0xC6, modrmByte 0 1 0]
  | .undefC6x2 => [0xC6, modrmByte 0 2 0]
  | .undefC6x3 => [0xC6, modrmByte 0 3 0]
  | .undefC6x4 => [0xC6, modrmByte 0 4 0]
  | .undefC6x5 => [0xC6, modrmByte 0 5 0]
  | .undefC6x6 => [0xC6, modrmByte 0 6 0]
  | .undefC6x7 => [0xC6, modrmByte 0 7 0]
  | .undefC7x1 => [0xC7, modrmByte 0 1 0]
  | .undefC7x2 => [0xC7, modrmByte 0 2 0]
  | .undefC7x3 => [0xC7, modrmByte 0 3 0]
  | .undefC7x4 => [0xC7, modrmByte 0 4 0]
  | .undefC7x5 => [0xC7, modrmByte 0 5 0]
  | .undefC7x6 => [0xC7, modrmByte 0 6 0]
  | .undefC7x7 => [0xC7, modrmByte 0 7 0]
  | .leave => [0xC9]
  | .retf => [0xCB]
  | .int3 => [0xCC]
  | .into => [0xCE]
  | .iret => [0xCF]
  | .undefD0x6 => [0xD0, modrmByte 0 6 0]
  | .undefD1x6 => [0xD1, modrmByte 0 6 0]
  | .undefD2x6 => [0xD2, modrmByte 0 6 0]
  | .undefD3x6 => [0xD3, modrmByte 0 6 0]
  | .aam => [0xD4, 0x0A]
  | .aad => [0xD5, 0x0A]
  | .undefD6 => [0xD6]
  | .xlat => [0xD7]
  | .inAlDx => [0xEC]
  | .inAxDx => [0xED]
  | .outDxAl => [0xEE]
  | .outDxAx => [0xEF]
  | .undefF1 => [0xF1]
  | .hlt => [0xF4]
  | .cmc => [0xF5]
  | .undefF6x1 => [0xF6, modrmByte 0 1 0]
  | .undefF7x1 => [0xF7, modrmByte 0 1 0]
  | .clc => [0xF8]
  | .stc => [0xF9]
  | .cli => [0xFA]
  | .sti => [0xFB]
  | .cld => [0xFC]
  | .std => [0xFD]
  | .undefFEx2 => [0xFE, modrmByte 0 2 0]
  | .undefFEx3 => [0xFE, modrmByte 0 3 0]
  | .undefFEx4 => [0xFE, modrmByte 0 4 0]
  | .undefFEx5 => [0xFE, modrmByte 0 5 0]
  | .undefFEx6 => [0xFE, modrmByte 0 6 0]
  | .undefFEx7 => [0xFE, modrmByte 0 7 0]
  | .undefFFx7 => [0xFF, modrmByte 0 7 0]
  | .undef0F00x6to7 => [0x0F, 0x00, modrmByte 0 6 0]
  | .undef0F01x5 => [0x0F, 0x01, modrmByte 0 5 0]
  | .undef0F01x7 => [0x0F, 0x01, modrmByte 0 7 0]
  | .clts => [0x0F, 0x06]

/-! ### The host's reading of one table row -/

/-- The bytes of a number, least significant first: n of them. -/
def bytesOfNat : Nat → Nat → List Byte
  | 0, _ => []
  | n + 1, w => BitVec.ofNat 8 w :: bytesOfNat n (w / 256)

/-- The instruction decoded from a table word of `nbits` bits whose bit 0 is bit 0 of the first byte; every byte above is
zero, and ten bytes are given (the longest instruction, R201). -/
def decodeTableWord (nbits w : Nat) : Option Instr :=
  match decode (bytesOfNat 10 (w % 2 ^ nbits)) with
  | .ok (i, _) => some i
  | .error _ => none

end Sys2Proof
end

