-- ==== Sys2Proof/Machine/State.lean ====
section
/-! DEFINITION. The state of an 80286 as plain data: every item of spec/10_state.md (R20 to R72), the environment objects the
machine reads (memory, ports, input signals, platform parameters; spec/00_scope.md R8), and a few fields of the model's own,
named as such.  The reset values are those of R71; where R72 gives none, a log entry names the model's value. -/

namespace Sys2Proof.Machine

/-- Why the machine stops with a fault: nothing does.  The spec gives every event of the 80286 a next state (an exception is
taken, shutdown is a run state), so this type has no constructor and no meaning can answer with it.  Safe. -/
inductive Fault where
deriving DecidableEq, Repr

/-- Why a step has no meaning. -/
inductive Refusal where
  /-- Raised by an arm of `exec` whose instruction has no meaning yet.  Safe: nothing is claimed of it. -/
  | notModelled (mnemonic : String)
  /-- Raised by LMSW when it sets PE while bits 1:0 of the CS selector are not zero and no RESET falls into the step (which ends the
  processor's work whatever it was, 70_reset_and_hazards.md R730): 93_implementation_defined.md U13 puts the switch outside the
  specification (treatment `refuse`).  Safe: the model makes no claim about it. -/
  | protectedEntryWithNonzeroRpl
deriving DecidableEq, Repr

/-- The eight general registers (R20). -/
structure Gpr where
  ax : Word := 0
  cx : Word := 0
  dx : Word := 0
  bx : Word := 0
  sp : Word := 0
  bp : Word := 0
  si : Word := 0
  di : Word := 0
deriving DecidableEq, Repr

/-- FLAGS (R30): the eleven fields.  Bits 1, 3, 5 and 15 are constant (R48) and live in `Flags.toWord`. -/
structure Flags where
  cf : Bool := false
  pf : Bool := false
  af : Bool := false
  zf : Bool := false
  sf : Bool := false
  tf : Bool := false
  ie : Bool := false          -- IF, bit 9
  df : Bool := false
  ov : Bool := false          -- OF, bit 11
  iopl : BitVec 2 := 0
  nt : Bool := false
deriving DecidableEq, Repr

/-- The Machine Status Word (R40).  Bits 15:4 read as 1 (R45) and live in `Msw.toWord`. -/
structure Msw where
  pe : Bool := false
  mp : Bool := false
  em : Bool := false
  ts : Bool := false
deriving DecidableEq, Repr

/-- A segment register: the visible selector and the hidden descriptor cache (R51, R52).  An access byte of 00H marks the
cache invalid. -/
structure SegCache where
  sel : Word
  ar : Byte
  base : Addr
  limit : Word
deriving DecidableEq, Repr

/-- GDTR and IDTR: base and limit (R56, R57). -/
structure TableReg where
  base : Addr
  limit : Word
deriving DecidableEq, Repr

/-- LDTR and TR: selector, hidden base and limit, and whether the hidden part is valid (R58, R59). -/
structure SysReg where
  sel : Word
  base : Addr
  limit : Word
  valid : Bool
deriving DecidableEq, Repr

/-- The run state (R68). -/
inductive RunState where
  | running | halted | shutdown
deriving DecidableEq, Repr

/-- The processor-extension and interrupt inputs as levels (R69; 00_scope.md R8(c)).  `intr` holds the vector that the
acknowledge cycle would read while INTR is asserted. -/
structure Pins where
  intr : Option Byte := none
  busy : Bool := false
  error : Bool := false
deriving DecidableEq, Repr

/-- What another agent does on the bus (20_memory.md R140): a byte that a bus master, or a device in its own window, changes; or a
PEREQ-driven transfer of a word between memory and the processor extension (00_scope.md R8(c), R532, D15). -/
inductive BusAct where
  | place (addr : Nat) (v : Byte)
  | npxRead (addr : Addr)
  | npxWrite (addr : Addr) (v : Word)
deriving DecidableEq, Repr

/-- What the outside world does before one step: the levels of the inputs, the edges NMI and interrupt-9 request, and what other agents
do on the bus, in order (20_memory.md R140); and a RESET that falls into the step, after so many of its bus cycles (0: before
the first, so in place of the step), at its end if it makes no more than those (70_reset_and_hazards.md R730). -/
structure Signals where
  pins : Pins := {}
  reset : Option Nat := none
  nmi : Bool := false
  overrun : Bool := false
  acts : List BusAct := []
deriving DecidableEq, Repr

/-- The named parameters of the platform (92_eei_decisions.md): all false by default. -/
structure Platform where
  a20ForcedLow : Bool := false
  stiDelay : Bool := false
deriving DecidableEq, Repr

/-- One access to the I/O space (R96), oldest first in the log. -/
inductive PortEvent where
  | read8 (port : Word) (v : Byte)
  | read16 (port : Word) (v : Word)
  | write8 (port : Word) (v : Byte)
  | write16 (port : Word) (v : Word)
deriving DecidableEq, Repr

/-- What the processor extension is given (R532): an ESC, with its two opcode bytes (the second is ModRM) and the segment register
and offset of its memory operand if it has one; or a word of memory that a transfer has read. -/
inductive EscEvent where
  | escape (opcode modrm : Byte) (operand : Option (SegReg × Word))
  | operand (addr : Addr) (v : Word)
deriving DecidableEq, Repr

/-- What answers at a physical address (parameter `PhysMem`; 00_scope.md R8(a), 93_implementation_defined.md U16). -/
inductive MemKind where
  | ram | rom | device | absent
deriving DecidableEq, Repr

/-- A run of physical addresses of one kind. -/
structure Region where
  base : Nat
  size : Nat
  kind : MemKind
deriving DecidableEq, Repr

/-- One access to a memory-mapped device (20_memory.md R85, R92), oldest first in the log. -/
inductive BusEvent where
  | read (addr : Nat) (v : Byte)
  | write (addr : Nat) (v : Byte)
deriving DecidableEq, Repr

/-- The BUS LOCK signal across the cycles of an instruction and the steps of a repeated one (20_memory.md R142; 43_string.md R444). -/
inductive BusLock where
  | free        -- not asserted
  | active      -- asserted for the instruction now executing
  | kept        -- asserted still at the end of an iteration of a locked repeated transfer
deriving DecidableEq, Repr

/-- A RESET that falls into the step now made, told by bus cycles (70_reset_and_hazards.md R730). -/
inductive ResetPhase where
  | quiet                   -- none falls into it
  | after (cycles : Nat)    -- one comes when so many more bus cycles have been made
  | come                    -- it has come: no bus action occurs any more
deriving DecidableEq, Repr

/-- The platform's side of physical memory (`PhysMem`): the kind of each address (the first region that holds it decides, RAM
outside them all), what devices will answer, the accesses made to devices, and a count of the reads of absent memory.  The other
agents' side of the bus (R140): what they do before each further unlocked bus cycle of this processor, the LOCK signal, and what
they have been kept from doing while it is asserted (R142).  And a RESET that falls into this step (R730). -/
structure Bus where
  map : List Region := []
  feed : List Host.Cell := []
  log : List BusEvent := []
  floats : Nat := 0
  between : List (List BusAct) := []
  lock : BusLock := .free
  held : List BusAct := []
  reset : ResetPhase := .quiet
deriving DecidableEq, Repr

/-- The prefixes read so far of the instruction at IP (R230, R233).  The model's own: the 80286 decodes prefixes and opcode
together. -/
structure Prefixes where
  count : Nat := 0
  seg : Option SegReg := none
  rep : Option RepKind := none
  lock : Bool := false
deriving DecidableEq, Repr

/-- Where the machine stands after an LMSW that set PE (R750): the model's own marker for the flag `hazardLmswNoJmp`. -/
inductive LmswStage where
  | clear       -- no LMSW is waiting for its jump
  | justSet     -- the instruction now ending was that LMSW
  | armed       -- the instruction now executing follows it
deriving DecidableEq, Repr

/-- Physical memory: the listed bytes, addresses strictly rising, no entry equal to what an unlisted address reads as. -/
abbrev Memory := List Host.Cell

/-- The machine's state.  The comment of each group names the rule that gives it. -/
structure State where
  -- general registers (R20), program counter (R27; CS is below), FLAGS (R30), MSW (R40)
  gpr : Gpr
  ip : Word
  flags : Flags
  msw : Msw
  -- segment registers (R51, R52) and system address registers (R56 to R59)
  es : SegCache
  cs : SegCache
  ss : SegCache
  ds : SegCache
  gdtr : TableReg
  idtr : TableReg
  ldtr : SysReg
  tr : SysReg
  -- hidden state (R64, R65, R67, R68) and the standing interrupt-9 request (R652)
  run : RunState
  nmiMasked : Bool
  nmiPending : Bool
  inhibitNext : Bool
  tfAtStart : Bool
  int9Pending : Bool
  -- the environment (00_scope.md R8): memory (R60) and what answers there (R85, R92), ports (R62, R96), the processor
  -- extension (R532), inputs (R69), platform parameters
  mem : Memory
  bus : Bus
  portFeed : List (Word × Byte)
  portLog : List PortEvent
  escLog : List EscEvent
  npxReplies : List (Option Word)
  pins : Pins
  inputs : List Signals
  platform : Platform
  -- the model's own fields: prefixes, next offset, the hazards of D8 (R750, R753), the shadow of STI (D36), free values
  pfx : Prefixes
  nextIp : Word
  lmsw : LmswStage
  hazardLmswNoJmp : Bool
  hazardStaleCode : Bool
  storedSince : List Nat
  queueFlushed : Bool
  stiShadow : Bool
  freeCtr : Nat
deriving DecidableEq, Repr

/-- A data segment register after RESET: selector 0, base 0, limit FFFFH (R71); the access byte 93H is the model's (R72, D26). -/
def SegCache.atReset : SegCache := { sel := 0x0000, ar := 0x93, base := 0x000000, limit := 0xFFFF }

/-- The machine right after RESET (R71).  General registers, GDTR, LDTR and TR have no stated value (R72): zero, and LDTR and
TR invalid, DESIGN CHOICE (notes/assumptions/2.md).  Memory lists nothing (notes/assumptions/3.md). -/
def State.reset : State where
  gpr := {}
  ip := 0xFFF0
  flags := {}
  msw := {}
  es := SegCache.atReset
  cs := { sel := 0xF000, ar := 0x93, base := 0xFF0000, limit := 0xFFFF }
  ss := SegCache.atReset
  ds := SegCache.atReset
  gdtr := { base := 0, limit := 0 }
  idtr := { base := 0x000000, limit := 0x03FF }
  ldtr := { sel := 0, base := 0, limit := 0, valid := false }
  tr := { sel := 0, base := 0, limit := 0, valid := false }
  run := .running
  nmiMasked := false
  nmiPending := false
  inhibitNext := false
  tfAtStart := false
  int9Pending := false
  mem := []
  bus := {}
  portFeed := []
  portLog := []
  escLog := []
  npxReplies := []
  pins := {}
  inputs := []
  platform := {}
  pfx := {}
  nextIp := 0xFFF0
  lmsw := .clear
  hazardLmswNoJmp := false
  hazardStaleCode := false
  storedSince := []
  queueFlushed := false
  stiShadow := false
  freeCtr := 0

end Sys2Proof.Machine
end

