-- ==== Sys2Proof/Machine/Flags.lean ====
section
/-! DEFINITION. FLAGS and MSW as words (spec/10_state.md R30, R48, R40, R45) and the flag computations of every instruction
family (R31 to R36; spec/41_arithmetic.md; spec/42_logic_shift.md). -/

namespace Sys2Proof.Machine

/-- A flag as a bit of an N-bit number. -/
def bit (n : Nat) (b : Bool) : BitVec n := BitVec.ofNat n b.toNat

/-! ### Images of FLAGS and MSW -/

/-- The FLAGS image (R30): bit 1 reads 1; bits 3, 5 and 15 read 0 (R48). -/
def Flags.toWord (f : Flags) : Word :=
  (bit 16 f.nt <<< 14) ||| (f.iopl.zeroExtend 16 <<< 12) ||| (bit 16 f.ov <<< 11) ||| (bit 16 f.df <<< 10)
    ||| (bit 16 f.ie <<< 9) ||| (bit 16 f.tf <<< 8) ||| (bit 16 f.sf <<< 7) ||| (bit 16 f.zf <<< 6)
    ||| (bit 16 f.af <<< 4) ||| (bit 16 f.pf <<< 2) ||| 0x0002 ||| bit 16 f.cf

/-- The fields of a FLAGS image (R30); the reserved bits are dropped (R48). -/
def Flags.ofWord (w : Word) : Flags where
  cf := w.getLsbD 0
  pf := w.getLsbD 2
  af := w.getLsbD 4
  zf := w.getLsbD 6
  sf := w.getLsbD 7
  tf := w.getLsbD 8
  ie := w.getLsbD 9
  df := w.getLsbD 10
  ov := w.getLsbD 11
  iopl := w.extractLsb' 12 2
  nt := w.getLsbD 14

/-- The MSW as SMSW reads it (R40): bits 15:4 read as 1 (R45). -/
def Msw.toWord (m : Msw) : Word :=
  0xFFF0 ||| (bit 16 m.ts <<< 3) ||| (bit 16 m.em <<< 2) ||| (bit 16 m.mp <<< 1) ||| bit 16 m.pe

/-! ### Flags of a result -/

/-- PF: an even number of 1 bits in the low eight bits (R32). -/
def parityEven (b : Byte) : Bool :=
  !(b.getLsbD 0 ^^ b.getLsbD 1 ^^ b.getLsbD 2 ^^ b.getLsbD 3 ^^ b.getLsbD 4 ^^ b.getLsbD 5 ^^ b.getLsbD 6 ^^ b.getLsbD 7)

/-- SF, ZF and PF of an N-bit result (R32, R34, R35). -/
def Flags.ofResult {n : Nat} (f : Flags) (r : BitVec n) : Flags :=
  { f with sf := r.msb, zf := decide (r = 0), pf := parityEven (r.setWidth 8) }

/-- The six status flags of the addition `a + b + c` (R31 to R36, 41_arithmetic.md R321). -/
def Flags.add {n : Nat} (f : Flags) (a b : BitVec n) (c : Bool) : Flags :=
  let r := a + b + bit n c
  { f.ofResult r with
    cf := decide (2 ^ n ≤ a.toNat + b.toNat + c.toNat)
    af := decide (16 ≤ a.toNat % 16 + b.toNat % 16 + c.toNat)
    ov := (a.msb == b.msb) && (r.msb != a.msb) }

/-- The six status flags of the subtraction `a - b - c` (R31 to R36, 41_arithmetic.md R321). -/
def Flags.sub {n : Nat} (f : Flags) (a b : BitVec n) (c : Bool) : Flags :=
  let r := a - b - bit n c
  { f.ofResult r with
    cf := decide (a.toNat < b.toNat + c.toNat)
    af := decide (a.toNat % 16 < b.toNat % 16 + c.toNat)
    ov := (a.msb != b.msb) && (r.msb != a.msb) }

/-- The flags of a logical result: CF and OF 0, AF the given free value (42_logic_shift.md R380, U1). -/
def Flags.logic {n : Nat} (f : Flags) (r : BitVec n) (freeAf : Bool) : Flags :=
  { f.ofResult r with cf := false, ov := false, af := freeAf }

end Sys2Proof.Machine
end

