-- ==== Sys2Proof/Machine/Memory.lean ====
section
/-! DEFINITION. Physical memory and the I/O space (spec/20_memory.md R80, R85, R92, R93, R96): what answers at each address, reads
and writes of one byte and of one little-endian word, what other agents do between bus cycles (R140, R142), and the canonical form
of the memory list. -/

namespace Sys2Proof.Machine

/-! ### The memory list -/

/-- What a byte that nothing has written reads as.  DESIGN CHOICE, unsafe (notes/assumptions/3.md): the spec gives memory no
content after RESET (R72). -/
def unlistedByte : Byte := 0

/-- The byte at a physical address. -/
def Memory.read : Memory → Nat → Byte
  | [], _ => unlistedByte
  | (a, b) :: m, k => if a = k then b else Memory.read m k

/-- Memory with one byte replaced; an address that then reads as unlisted is dropped from the list. -/
def Memory.write : Memory → Nat → Byte → Memory
  | [], k, v => if v = unlistedByte then [] else [(k, v)]
  | (a, b) :: m, k, v =>
    if k < a then (if v = unlistedByte then (a, b) :: m else (k, v) :: (a, b) :: m)
    else if k = a then (if v = unlistedByte then m else (k, v) :: m)
    else (a, b) :: Memory.write m k v

/-- Addresses strictly above `lo`, strictly rising, below 2^24 (R60), and no entry equal to an unlisted byte. -/
def Memory.wfFrom : Option Nat → Memory → Bool
  | _, [] => true
  | lo, (a, b) :: m =>
    (match lo with
      | none => true
      | some l => decide (l < a))
    && decide (a < 2 ^ 24) && decide (b ≠ unlistedByte) && Memory.wfFrom (some a) m

/-- The canonical form. -/
def Memory.wf (m : Memory) : Bool := Memory.wfFrom none m

/-! ### Feeds -/

/-- The first entry of a feed for a key, and the feed without it. -/
def takeFeed {α : Type} [DecidableEq α] (p : α) : List (α × Byte) → Option (Byte × List (α × Byte))
  | [] => none
  | (q, b) :: rest =>
    if q = p then some (b, rest)
    else match takeFeed p rest with
      | some (v, rest') => some (v, (q, b) :: rest')
      | none => none

/-! ### What answers at an address (`PhysMem`: 00_scope.md R8(a), R85, R90, R92) -/

/-- The kind of an address: that of the first region that holds it, RAM outside them all (D1). -/
def kindIn : List Region → Nat → MemKind
  | [], _ => .ram
  | g :: gs, a => if g.base ≤ a ∧ a < g.base + g.size then g.kind else kindIn gs a

/-- The kind of a physical address. -/
def State.kindAt (s : State) (a : Nat) : MemKind := kindIn s.bus.map a

/-- What stands at an address, looked at without the bus cycle of a data read: a byte of RAM or ROM, the present content of a
device, a free value where nothing answers. -/
def State.look (s : State) (a : Nat) : Byte :=
  match s.kindAt a with
  | .absent => Config.floatingByte s.bus.floats a
  | _ => s.mem.read a

/-- The device's answer to a data read: the next entry of its feed, else its present content; the read is recorded (R85). -/
def State.deviceRead (s : State) (a : Nat) : Byte × State :=
  match takeFeed a s.bus.feed with
  | some (b, rest) => (b, { s with bus := { s.bus with feed := rest, log := s.bus.log ++ [.read a b] } })
  | none => (s.mem.read a, { s with bus := { s.bus with log := s.bus.log ++ [.read a (s.mem.read a)] } })

/-- A RESET has come in the middle of this step: no bus action occurs any more (70_reset_and_hazards.md R730). -/
def State.dead (s : State) : Bool := decide (s.bus.reset = .come)

/-- `MemRead(a, 1)` of a data read that the rules state, an operand or a Real Address Mode vector, with the side effect a device gives
it (R85). -/
def State.load (s : State) (a : Nat) : Byte × State :=
  if s.dead then (s.look a, s) else
  match s.kindAt a with
  | .device => s.deviceRead a
  | .absent => (s.look a, { s with bus := { s.bus with floats := s.bus.floats + 1 } })
  | .ram => (s.look a, s)
  | .rom => (s.look a, s)

/-- `MemWrite(a, 1, v)`: RAM takes the byte, a device is told of it, ROM and absent memory drop it (R754, U16). -/
def State.store (s : State) (a : Nat) (v : Byte) : State :=
  if s.dead then s else
  match s.kindAt a with
  | .ram => { s with mem := s.mem.write a v }
  | .device => { s with bus := { s.bus with log := s.bus.log ++ [.write a v] } }
  | .rom => s
  | .absent => s

/-- A byte that another bus agent, or a device in its own window, has changed (R140); ROM and absent memory do not change. -/
def State.placed (s : State) (a : Nat) (v : Byte) : State :=
  match s.kindAt a with
  | .ram => { s with mem := s.mem.write a v }
  | .device => { s with mem := s.mem.write a v }
  | .rom => s
  | .absent => s

/-! ### Physical accesses: addresses modulo 2^24 (R93), words little-endian (R80) -/

/-- `a + k` modulo 2^24, as the key of a memory cell. -/
def physAdd (a : Addr) (k : Nat) : Nat := (a + BitVec.ofNat 24 k).toNat

/-- `MemRead(a + k, 1)` of a descriptor, gate or TSS, looked at: the program does not control the number of these reads (R85(b)), and
the fetch of a descriptor itself has no side effect (R107). -/
def State.peek8 (s : State) (a : Addr) (k : Nat := 0) : Byte := s.look (physAdd a k)

/-- The word at `a + k`, looked at. -/
def State.peek16 (s : State) (a : Addr) (k : Nat := 0) : Word := mkWord (s.peek8 a k) (s.peek8 a (k + 1))

/-- `MemWrite(a + k, 1, v)`, the second half of a locked pair of cycles (R143). -/
def State.poke8 (s : State) (a : Addr) (k : Nat) (v : Byte) : State := s.store (physAdd a k) v

/-! ### Other agents on the bus (R140, R142, R532, D15) -/

/-- One act of another agent: a byte changed, its address modulo 2^24 (R93); a word that a PEREQ-driven transfer reads, hands over
and records, or stores. -/
def State.act (s : State) : BusAct → State
  | .place a v => s.placed (a % 2 ^ 24) v
  | .npxRead a =>
    let lo := s.load (physAdd a 0)
    let hi := lo.2.load (physAdd a 1)
    { hi.2 with escLog := hi.2.escLog ++ [.operand a (mkWord lo.1 hi.1)] }
  | .npxWrite a v => (s.store (physAdd a 0) (loByte v)).store (physAdd a 1) (hiByte v)

/-- Acts of other agents, in order. -/
def actAll (s : State) : List BusAct → State
  | [] => s
  | x :: xs => actAll (s.act x) xs

/-- The lock ends, and what it kept other agents from doing happens (R142; 43_string.md R444). -/
def State.release (s : State) : State :=
  if s.bus.lock = .free then s else actAll { s with bus := { s.bus with lock := .free, held := [] } } s.bus.held

/-- What other agents do before a bus cycle of this processor: the next entry of `bus.between`; nothing while the bus is locked
(R140, R142).  DESIGN CHOICE of the form (notes/assumptions/31.md). -/
def State.visitors (s : State) : State :=
  if s.bus.lock = .free ∧ s.dead = false then
    match s.bus.between with
    | [] => s
    | acts :: rest => actAll { s with bus := { s.bus with between := rest } } acts
  else s

/-- A RESET that falls into this step comes now.  It ends a bus lock, and stops every bus action of this step from here on; what the step
goes on to do with registers is dropped at its end (R730). -/
def State.resetNow (s : State) : State := { s.release with bus := { s.release.bus with reset := .come } }

/-- A bus cycle of this processor begins: one fewer before a RESET that falls into this step, or that RESET comes now (R730).
DESIGN CHOICE of the form (notes/assumptions/14.md). -/
def State.cycle (s : State) : State :=
  match s.bus.reset with
  | .quiet => s
  | .after 0 => s.resetNow
  | .after (n + 1) => { s with bus := { s.bus with reset := .after n } }
  | .come => s

/-- What comes before a bus cycle of this processor: other agents, then a RESET if its time has come. -/
def State.others (s : State) : State := s.visitors.cycle

/-- Between the two bytes of a word: an aligned word is one bus cycle, a word at an odd address two (R84). -/
def State.gap (s : State) (a : Nat) : State := if a % 2 = 1 then s.others else s

/-- What other agents do while this processor may not be kept waiting: at once, or once the lock ends (R142). -/
def State.hear (s : State) (acts : List BusAct) : State :=
  if s.bus.lock = .free then actAll s acts else { s with bus := { s.bus with held := s.bus.held ++ acts } }

/-! ### Bus cycles of a word -/

/-- Read the word whose bytes stand at two addresses: low byte, then high byte (R80, D25). -/
def State.loadWord (s : State) (a b : Nat) : Word × State :=
  let lo := s.others.load a
  let hi := (lo.2.gap a).load b
  (mkWord lo.1 hi.1, hi.2)

/-- Store the word whose bytes stand at two addresses: low byte, then high byte (R80, D25). -/
def State.storeWord (s : State) (a b : Nat) (v : Word) : State := ((s.others.store a (loByte v)).gap a).store b (hiByte v)

/-- `MemRead(a + k, 2)` of a TSS as bus cycles: the word, and the state after them. -/
def State.fetch16 (s : State) (a : Addr) (k : Nat) : Word × State :=
  let t := s.others
  let u := t.gap (physAdd a k)
  (mkWord (t.peek8 a k) (u.peek8 a (k + 1)), u)

/-- `MemWrite(a + k, 2, v)`. -/
def State.poke16 (s : State) (a : Addr) (k : Nat) (v : Word) : State := s.storeWord (physAdd a k) (physAdd a (k + 1)) v

/-- The words at `a + k`, `a + k + 2`, … read in order, and the state after the reads. -/
def readWords (s : State) (a : Addr) (k : Nat) : Nat → List Word × State
  | 0 => ([], s)
  | n + 1 =>
    let w := s.fetch16 a k
    let rest := readWords w.2 a (k + 2) n
    (w.1 :: rest.1, rest.2)

/-! ### The I/O space (R62, R95, R96) -/

/-- The byte the platform supplies for a port: the next feed entry for it, else a free value (R96, D1). -/
def State.portByte (s : State) (p : Word) : Byte × State :=
  if s.dead then (Config.freeByte s.freeCtr, s) else
  match takeFeed p s.portFeed with
  | some (b, rest) => (b, { s with portFeed := rest })
  | none => (Config.freeByte s.freeCtr, { s with freeCtr := s.freeCtr + 1 })

/-- A port access made (D1). -/
def State.record (s : State) (e : PortEvent) : State := if s.dead then s else { s with portLog := s.portLog ++ [e] }

/-- Between the two bytes of a word at an odd port, which are two bus cycles (R96): a RESET there leaves the first made. -/
def State.portGap (s : State) (p : Word) (first : PortEvent) : State :=
  if p.getLsbD 0 then
    let t := (s.record first).cycle
    if t.dead then t else { t with portLog := s.portLog }
  else s

/-- `PortRead(p, 1)`. -/
def State.portRead8 (s : State) (p : Word) : Byte × State :=
  let r := s.cycle.portByte p
  (r.1, r.2.record (.read8 p r.1))

/-- `PortRead(p, 2)`: port `p` supplies bits 7:0 and port `p + 1` bits 15:8, modulo 2^16 (R96, D27). -/
def State.portRead16 (s : State) (p : Word) : Word × State :=
  let lo := s.cycle.portByte p
  let hi := (lo.2.portGap p (.read8 p lo.1)).portByte (p + 1)
  let v := mkWord lo.1 hi.1
  (v, hi.2.record (.read16 p v))

/-- `PortWrite(p, 1, v)`. -/
def State.portWrite8 (s : State) (p : Word) (v : Byte) : State := s.cycle.record (.write8 p v)

/-- `PortWrite(p, 2, v)`. -/
def State.portWrite16 (s : State) (p : Word) (v : Word) : State :=
  (s.cycle.portGap p (.write8 p (loByte v))).record (.write16 p v)

end Sys2Proof.Machine
end

