-- ==== Sys2Proof/Machine/Segments.lean ====
section
/-! DEFINITION. Segments: the checks and the translation of every reference (spec/20_memory.md R86, R110 to R118), descriptors
and selectors (R100 to R109), the loads of DS, ES and SS (R87, R120, R121, R123), and the stack (spec/10_state.md R26). -/

namespace Sys2Proof.Machine

/-! ### Exceptions as values -/

/-- An exception an instruction raises: its vector and the error code that Protected Mode pushes for vectors 8 and 10 to 13
(R124; 60_exceptions.md R656).  In Real Address Mode the code plays no part.  `bus`: the bus as the cycles made before the exception
have left it, if any was made (R85). -/
structure Trap where
  vector : Byte
  code : Word := 0
  bus : Option Bus := none
deriving DecidableEq, Repr

/-- The state an exception is raised in: the instruction's first, but that what other agents did before each of the cycles made since
stays done, and the reads made stay made (R85, R140); a RESET has come with them only if one was to fall into the step
(70_reset_and_hazards.md R730). -/
def Trap.over (t : Trap) (s : State) : State :=
  match t.bus with
  | none => s
  | some b =>
    { actAll s (s.bus.held.take (s.bus.held.length - b.held.length) ++
        (s.bus.between.take (s.bus.between.length - b.between.length)).flatten) with
      bus := { b with reset := if s.bus.reset = .quiet then .quiet else b.reset } }

/-- A check made once the reads that lead to a state have been made: its exception finds them made (R85). -/
def afterReads {α : Type} (s : State) : Except Trap α → Except Trap α
  | .ok a => .ok a
  | .error t => .error { t with bus := some (t.bus.getD s.bus) }

/-- The error code naming a selector, with the EXT bit (R124). -/
def selCode (sel : Word) (ext : Bool) : Word := (sel &&& 0xFFFC) ||| bit 16 ext

/-- #UD. -/
def trapUd : Trap := { vector := 6 }

/-- #GP(0), and interrupt 13 in Real Address Mode. -/
def trapGp0 : Trap := { vector := 13 }

/-- #SS(0). -/
def trapSs0 : Trap := { vector := 12 }

/-- #GP(sel) of an instruction. -/
def trapGp (sel : Word) : Trap := { vector := 13, code := selCode sel false }

/-- #NP(sel) of an instruction. -/
def trapNp (sel : Word) : Trap := { vector := 11, code := selCode sel false }

/-- #SS(sel) of an instruction. -/
def trapSs (sel : Word) : Trap := { vector := 12, code := selCode sel false }

/-- Raise an exception unless the condition holds. -/
def require (c : Bool) (t : Trap) : Except Trap Unit := if c then .ok () else .error t

/-! ### Access bytes (R102, R105) -/

/-- P, bit 7. -/
def present (ar : Byte) : Bool := ar.getLsbD 7

/-- DPL, bits 6:5. -/
def dpl (ar : Byte) : BitVec 2 := ar.extractLsb' 5 2

/-- S, bit 4. -/
def isSeg (ar : Byte) : Bool := ar.getLsbD 4

/-- A code segment. -/
def isCode (ar : Byte) : Bool := ar.getLsbD 4 && ar.getLsbD 3

/-- A data segment. -/
def isData (ar : Byte) : Bool := ar.getLsbD 4 && !ar.getLsbD 3

/-- A data segment, or a code segment with R = 1. -/
def readable (ar : Byte) : Bool := isData ar || (isCode ar && ar.getLsbD 1)

/-- A data segment with W = 1. -/
def writable (ar : Byte) : Bool := isData ar && ar.getLsbD 1

/-- A conforming code segment. -/
def conforming (ar : Byte) : Bool := isCode ar && ar.getLsbD 2

/-- An expand-down data segment. -/
def expandDown (ar : Byte) : Bool := isData ar && ar.getLsbD 2

/-- TYPE of a control descriptor: bits 3:0. -/
def sysType (ar : Byte) : BitVec 4 := ar.extractLsb' 0 4

/-- A control descriptor (S = 0) of a given type. -/
def isSys (ar : Byte) (t : BitVec 4) : Bool := !isSeg ar && decide (sysType ar = t)

/-! ### Selectors (R100, R108) -/

/-- RPL, bits 1:0. -/
def rpl (sel : Word) : BitVec 2 := sel.extractLsb' 0 2

/-- TI, bit 2. -/
def selTi (sel : Word) : Bool := sel.getLsbD 2

/-- INDEX, bits 15:3. -/
def selIndex (sel : Word) : Nat := sel.toNat / 8

/-- A null selector: 0000H to 0003H. -/
def nullSel (sel : Word) : Bool := decide (sel.toNat < 4)

/-- A selector with its RPL field replaced. -/
def withRpl (sel : Word) (l : BitVec 2) : Word := (sel &&& 0xFFFC) ||| l.zeroExtend 16

/-! ### Segment registers -/

/-- The segment register a name selects (R51). -/
def State.seg (s : State) : SegReg → SegCache
  | .es => s.es
  | .cs => s.cs
  | .ss => s.ss
  | .ds => s.ds

/-- Write a segment register. -/
def State.setSeg (s : State) (r : SegReg) (c : SegCache) : State :=
  match r with
  | .es => { s with es := c }
  | .cs => { s with cs := c }
  | .ss => { s with ss := c }
  | .ds => { s with ds := c }

/-- CPL: bits 1:0 of the CS selector in Protected Mode, 0 in Real Address Mode (10_state.md R55). -/
def State.cpl (s : State) : BitVec 2 := if s.msw.pe then rpl s.cs.sel else 0

/-! ### Checks of a reference (R110 to R115, R118) -/

/-- The kind of a data reference; a read-modify-write reference is checked as a write (R112). -/
inductive Access where
  | read | write
deriving DecidableEq, Repr

/-- #SS(0) through SS, #GP(0) through CS, DS and ES (R115). -/
def segTrap : SegReg → Trap
  | .ss => trapSs0
  | _ => trapGp0

/-- The type check against the cached access byte (R112). -/
def accessAllowed (ar : Byte) : Access → Bool
  | .read => readable ar
  | .write => writable ar

/-- The limit check of `n` bytes at an offset, expand-up or expand-down (R113). -/
def withinLimit (c : SegCache) (off : Word) (n : Nat) : Bool :=
  if expandDown c.ar then decide (c.limit.toNat < off.toNat) && decide (off.toNat + n ≤ 0x10000)
  else decide (off.toNat + n ≤ c.limit.toNat + 1)

/-- All checks of a reference of `n` bytes through a segment register: validity, type, limit (R110); in Real Address Mode the
end of the segment alone (R118). -/
def segCheck (s : State) (r : SegReg) (off : Word) (n : Nat) (k : Access) : Except Trap Unit :=
  if s.msw.pe then
    if (s.seg r).ar = 0 then .error (segTrap r)
    else if !accessAllowed (s.seg r).ar k then .error trapGp0
    else if !withinLimit (s.seg r) off n then .error (segTrap r)
    else .ok ()
  else if off.toNat + n ≤ 0x10000 then .ok () else .error trapGp0

/-- The physical address of an offset: base plus offset modulo 2^24 (R86, R114).  `a20ForcedLow` masks bits 23:20 of Real
Address Mode addresses formed from a selector, not of the reset-time CS base (R86, D6).  It masks the address of each byte.  DESIGN
CHOICE, unsafe (notes/assumptions/20.md): whether the second byte of a word at 0FFFFFH is masked too (000000H, as here) or stands at
a + 1 = 100000H (R80 adds 1 to the address that R86 has masked) is open. -/
def State.segAddr (s : State) (r : SegReg) (off : Word) (k : Nat := 0) : Addr :=
  let a := (s.seg r).base + off.zeroExtend 24 + BitVec.ofNat 24 k
  if s.platform.a20ForcedLow && !s.msw.pe && decide ((s.seg r).base.toNat < 2 ^ 20) then a &&& 0x0FFFFF else a

/-- The byte at a segment's offset, looked at. -/
def State.segByte (s : State) (r : SegReg) (off : Word) (k : Nat := 0) : Byte := s.look (s.segAddr r off k).toNat

/-- The word at a segment's offset, looked at (R80). -/
def State.segWord (s : State) (r : SegReg) (off : Word) : Word := mkWord (s.segByte r off 0) (s.segByte r off 1)

/-- Read a byte by a checked reference: the byte, and the state after the read (R85). -/
def State.segGet8 (s : State) (r : SegReg) (off : Word) (k : Nat := 0) : Byte × State :=
  s.others.load (s.segAddr r off k).toNat

/-- Read a word by a checked reference: one bus cycle, two at an odd address (R82, R84). -/
def State.segGet16 (s : State) (r : SegReg) (off : Word) : Word × State :=
  s.loadWord (s.segAddr r off 0).toNat (s.segAddr r off 1).toNat

/-- Store a byte by a checked reference. -/
def State.segPut8 (s : State) (r : SegReg) (off : Word) (k : Nat) (v : Byte) : State :=
  s.others.store (s.segAddr r off k).toNat v

/-- Store a word by a checked reference: one bus cycle, two at an odd address (R82, R84). -/
def State.segPut16 (s : State) (r : SegReg) (off : Word) (v : Word) : State :=
  s.storeWord (s.segAddr r off 0).toNat (s.segAddr r off 1).toNat v

/-- `SegRead(r, off, 1)`: the byte, and the state after the read. -/
def segRead8 (s : State) (r : SegReg) (off : Word) : Except Trap (Byte × State) := do
  segCheck s r off 1 .read
  .ok (s.segGet8 r off)

/-- `SegRead(r, off, 2)`: the word, and the state after the read. -/
def segRead16 (s : State) (r : SegReg) (off : Word) : Except Trap (Word × State) := do
  segCheck s r off 2 .read
  .ok (s.segGet16 r off)

/-! ### The stack (10_state.md R25, R26) -/

/-- Write SP. -/
def State.setSp (s : State) (v : Word) : State := { s with gpr := { s.gpr with sp := v } }

/-- A stack reference that fails for whatever reason: #SS(0), interrupt 13 in Real Address Mode (40_data_transfer.md R260(c),
R266; R118). -/
def stackTrap (s : State) : Trap := if s.msw.pe then trapSs0 else trapGp0

/-- The word at an offset of the stack segment passes its checks. -/
def stackFits (s : State) (off : Word) (k : Access) : Bool :=
  match segCheck s .ss off 2 k with
  | .ok _ => true
  | .error _ => false

/-- `push16`: the checks of the write come before SP changes. -/
def push16 (s : State) (v : Word) : Except Trap State := do
  require (stackFits s (s.gpr.sp - 2) .write) (stackTrap s)
  .ok ((s.segPut16 .ss (s.gpr.sp - 2) v).setSp (s.gpr.sp - 2))

/-- Read the word at SP + k by a checked reference: the word, and the state after the read. -/
def State.stackGet (s : State) (k : Nat) : Word × State := s.segGet16 .ss (s.gpr.sp + BitVec.ofNat 16 k)

/-- The word at the top of the stack with its checks, and the state after the read. -/
def stackTop (s : State) : Except Trap (Word × State) := do
  require (stackFits s s.gpr.sp .read) (stackTrap s)
  .ok (s.stackGet 0)

/-- `pop16`. -/
def pop16 (s : State) : Except Trap (Word × State) := do
  let p ← stackTop s
  .ok (p.1, p.2.setSp (s.gpr.sp + 2))

/-- Push words in order; the first that does not fit raises. -/
def pushAll (s : State) : List Word → Except Trap State
  | [] => .ok s
  | w :: ws => match push16 s w with
    | .ok t => pushAll t ws
    | .error e => .error e

/-- The words at SP-2, SP-4, …: `n` of them can be pushed. -/
def canPush (s : State) : Nat → Bool
  | 0 => true
  | n + 1 => canPush s n && stackFits s (s.gpr.sp - BitVec.ofNat 16 (2 * (n + 1))) .write

/-- The words at SP, SP+2, …: `n` of them can be read. -/
def canPop (s : State) : Nat → Bool
  | 0 => true
  | n + 1 => canPop s n && stackFits s (s.gpr.sp + BitVec.ofNat 16 (2 * n)) .read

/-! ### Descriptors (R101, R104, R107) -/

/-- The six bytes of a descriptor the processor reads: two words, the byte at +4 and the access byte. -/
structure Desc where
  addr : Addr            -- where the descriptor stands
  w0 : Word              -- limit, or the offset of a gate
  w1 : Word              -- base 15:0, or the selector of a gate
  b4 : Byte              -- base 23:16, or the word count of a gate
  ar : Byte
deriving DecidableEq, Repr

/-- LIMIT. -/
def Desc.limit (d : Desc) : Word := d.w0

/-- BASE, 24 bits. -/
def Desc.base (d : Desc) : Addr := (d.b4 ++ d.w1 : BitVec (8 + 16))

/-- DESTINATION OFFSET of a gate. -/
def Desc.gateOff (d : Desc) : Word := d.w0

/-- DESTINATION SELECTOR of a gate. -/
def Desc.gateSel (d : Desc) : Word := d.w1

/-- WORD COUNT of a call gate, masked to five bits. -/
def Desc.gateWords (d : Desc) : Nat := d.b4.toNat % 32

/-- The descriptor at a physical address. -/
def State.readDesc (s : State) (a : Addr) : Desc where
  addr := a
  w0 := s.peek16 a 0
  w1 := s.peek16 a 2
  b4 := s.peek8 a 4
  ar := s.peek8 a 5

/-- `FetchDesc` (R107): none outside the table's limit, or when TI = 1 and LDTR is invalid (D28). -/
def State.fetchDesc (s : State) (sel : Word) : Option Desc :=
  let base := if selTi sel then s.ldtr.base else s.gdtr.base
  let limit := if selTi sel then s.ldtr.limit else s.gdtr.limit
  if selTi sel && !s.ldtr.valid then none
  else if limit.toNat < 8 * selIndex sel + 7 then none
  else some (s.readDesc (base + BitVec.ofNat 24 (8 * selIndex sel)))

/-- `FetchDesc` as bus cycles, which are locked from the first to the last (R107, R143): the descriptor, and the state after them. -/
def State.readTable (s : State) (sel : Word) : Option (Desc × State) := (s.others.fetchDesc sel).map fun d => (d, s.others)

/-- `FetchDesc`, raising the given exception outside the limit, where no cycle is made. -/
def fetchOr (s : State) (sel : Word) (t : Trap) : Except Trap (Desc × State) :=
  match s.readTable sel with
  | some d => .ok d
  | none => .error t

/-- The Accessed bit set in memory: a locked read-modify-write of the access byte (R123, R143). -/
def State.setAccessed (s : State) (d : Desc) : State := s.others.poke8 d.addr 5 (s.others.peek8 d.addr 5 ||| 0x01)

/-- The cache a descriptor loads, Accessed bit set. -/
def Desc.cache (d : Desc) (sel : Word) : SegCache :=
  { sel := sel, ar := d.ar ||| 0x01, base := d.base, limit := d.limit }

/-! ### Loading segment registers -/

/-- A Real Address Mode load: base = selector · 16, limit FFFFH, access byte 93H (R87, D26). -/
def realCache (sel : Word) : SegCache :=
  { sel := sel, ar := 0x93, base := sel.zeroExtend 24 <<< 4, limit := 0xFFFF }

/-- The privilege part of a DS or ES load: a readable conforming code segment is exempt, every other segment needs
DPL ≥ CPL and DPL ≥ RPL (R120, R128). -/
def dataPrivilege (ar : Byte) (cpl : BitVec 2) (sel : Word) : Bool :=
  conforming ar || (decide (cpl ≤ dpl ar) && decide (rpl sel ≤ dpl ar))

/-- `LoadDataSeg` (R120), and the Real Address Mode load (R87). -/
def loadDataSeg (s : State) (r : SegReg) (sel : Word) : Except Trap State :=
  if !s.msw.pe then .ok (s.setSeg r (realCache sel))
  else if nullSel sel then .ok (s.setSeg r { s.seg r with sel := sel, ar := 0 })
  else do
    let (d, u) ← fetchOr s sel (trapGp sel)
    afterReads u do
      require (readable d.ar) (trapGp sel)
      require (dataPrivilege d.ar s.cpl sel) (trapGp sel)
      require (present d.ar) (trapNp sel)
      .ok ((u.setAccessed d).setSeg r (d.cache sel))

/-- `LoadSS` (R121), and the Real Address Mode load (R87).  The interrupt inhibit is set by the instructions that call it. -/
def loadSs (s : State) (sel : Word) : Except Trap State :=
  if !s.msw.pe then .ok { s with ss := realCache sel }
  else do
    require (!nullSel sel) trapGp0
    let (d, u) ← fetchOr s sel (trapGp sel)
    afterReads u do
      require (decide (rpl sel = s.cpl)) (trapGp sel)
      require (writable d.ar) (trapGp sel)
      require (decide (dpl d.ar = s.cpl)) (trapGp sel)
      require (present d.ar) (trapSs sel)
      .ok { u.setAccessed d with ss := d.cache sel }

end Sys2Proof.Machine
end

