-- ==== Sys2Proof/Machine/Tasks.lean ====
section
/-! DEFINITION. What far transfers share in Protected Mode (spec/46_protected_transfer.md): committing CS (R554), the inner-level
stack (R560), the Task State Segment (R585) and the task switch (R590). -/

namespace Sys2Proof.Machine

/-- A failed far transfer or delivery: the exception, the state it is raised in, and the IP it saves.  Before a task switch
commits, the state is the one the transfer found; after, the state reached (R550, R592). -/
structure Failure where
  trap : Trap
  st : State
  ip : Word
deriving DecidableEq, Repr

/-- A check that fails in the state `s`: the saved IP is that state's (the instruction's first byte before a task switch commits,
the incoming task's IP after; R592). -/
def failIn {α : Type} (s : State) : Except Trap α → Except Failure α
  | .ok a => .ok a
  | .error t => .error { trap := t, st := t.over s, ip := s.ip }

/-- An exception naming a selector, with the EXT bit of the event being delivered (R550). -/
def trapSel (vector : Byte) (sel : Word) (ext : Bool) : Trap := { vector := vector, code := selCode sel ext }

/-- An exception with no selector, with the EXT bit of the event being delivered. -/
def trapExt (vector : Byte) (ext : Bool) : Trap := { vector := vector, code := bit 16 ext }

/-! ### Committing CS -/

/-- `CommitCS` (R554): the selector with RPL replaced by the new CPL, the cache, the Accessed bit, IP. -/
def commitCs (s : State) (sel : Word) (d : Desc) (off : Word) (cpl : BitVec 2) : State :=
  { s.setAccessed d with cs := d.cache (withRpl sel cpl), ip := off }

/-- Load SS from a checked descriptor, Accessed bit set, and SP. -/
def commitSs (s : State) (sel : Word) (d : Desc) (sp : Word) : State :=
  ({ s.setAccessed d with ss := d.cache sel }).setSp sp

/-! ### The inner-level stack (R560) -/

/-- A new stack that passed its checks, and the state after the reads that found it. -/
structure InnerStack where
  sel : Word
  sp : Word
  desc : Desc
  st : State
deriving DecidableEq, Repr

/-- A TSS word can be read: TR valid and the word inside its limit (D39).  That a TR never loaded fails like a word beyond the
limit is the model's own (DEDUCED, notes/assumptions/29.md): R560, R580 and D39 speak of the limit alone. -/
def State.tssHas (s : State) (k : Nat) : Bool := s.tr.valid && decide (k + 1 ≤ s.tr.limit.toNat)

/-- The word at offset `k` of the current TSS read, and the state after the read (R117(b)). -/
def State.tssWord (s : State) (k : Nat) : Word × State := s.fetch16 s.tr.base k

/-- `InnerStack(n)` and its checks, for n = 0, 1, 2 (R560). -/
def innerStack (s : State) (n : BitVec 2) (ext : Bool) : Except Trap InnerStack := do
  require (s.tssHas (4 + 4 * n.toNat)) (trapSel 10 s.tr.sel ext)
  let sp := s.tssWord (2 + 4 * n.toNat)
  let w := sp.2.tssWord (4 + 4 * n.toNat)
  let sel := w.1
  afterReads w.2 do
    require (!nullSel sel) (trapExt 10 ext)
    let (d, u) ← fetchOr w.2 sel (trapSel 10 sel ext)
    afterReads u do
      require (decide (rpl sel = n)) (trapSel 10 sel ext)
      require (decide (dpl d.ar = n)) (trapSel 10 sel ext)
      require (writable d.ar) (trapSel 10 sel ext)
      require (present d.ar) (trapSel 12 sel ext)
      .ok { sel := sel, sp := sp.1, desc := d, st := u }

/-- Room for `need` bytes below the new SP, against the new descriptor, computed without wrap (R560). -/
def InnerStack.hasRoom (k : InnerStack) (need : Nat) : Bool :=
  decide (need ≤ k.sp.toNat) &&
    (if expandDown k.desc.ar then decide (k.desc.limit.toNat < k.sp.toNat - need)
     else decide (k.sp.toNat ≤ k.desc.limit.toNat + 1))

/-! ### The task switch (R590) -/

/-- How a task switch starts (R587). -/
inductive SwitchKind where
  | jump | nest | iret
deriving DecidableEq, Repr

/-- Where the access byte of a GDT descriptor stands, as base and displacement. -/
def State.gdtEntry (s : State) (sel : Word) : Addr := s.gdtr.base + BitVec.ofNat 24 (8 * selIndex sel)

/-- Set the Busy bit of a TSS descriptor in the GDT: the bus is locked from the test of the descriptor to here (R143, R586). -/
def State.setBusy (s : State) (sel : Word) : State :=
  s.poke8 (s.gdtEntry sel) 5 (s.peek8 (s.gdtEntry sel) 5 ||| 0x02)

/-- Clear the Busy bit of a TSS descriptor in the GDT (R586).  R590 step 4 names no check and no exception; that no limit is checked, so
that an LGDT which has left TR's selector beyond GDTR.limit has the byte at GDTR.base + 8 * index + 5 written all the same, is the model's
choice where R117(a) speaks of the table limit (DESIGN CHOICE, unsafe; notes/assumptions/48.md). -/
def State.clearBusy (s : State) (sel : Word) : State :=
  s.others.poke8 (s.gdtEntry sel) 5 (s.others.peek8 (s.gdtEntry sel) 5 &&& 0xFD)

/-- Write words at consecutive word offsets from `a + k`. -/
def pokeWords (s : State) (a : Addr) (k : Nat) : List Word → State
  | [] => s
  | w :: ws => pokeWords (s.poke16 a k w) a (k + 2) ws

/-- The dynamic part of the outgoing TSS, offsets 14 to 41 (R585, R590 step 3). -/
def tssImage (s : State) (outIp : Word) (kind : SwitchKind) : List Word :=
  [outIp, (if kind = .iret then { s.flags with nt := false } else s.flags).toWord,
    s.gpr.ax, s.gpr.cx, s.gpr.dx, s.gpr.bx, s.gpr.sp, s.gpr.bp, s.gpr.si, s.gpr.di,
    s.es.sel, s.cs.sel, s.ss.sel, s.ds.sel]

/-- NT after the load (R590 step 8). -/
def switchNt (kind : SwitchKind) (loaded : Bool) : Bool :=
  match kind with
  | .jump => false
  | .nest => true
  | .iret => loaded

/-- Every register from the fifteen words of a TSS at offsets 14 to 42, caches invalid, NT, TS (R585, R590). -/
def State.withTss (s : State) (kind : SwitchKind) (w : Nat → Word) : State :=
  let f := Flags.ofWord (w 1)
  { s with
    ip := w 0
    flags := { f with nt := switchNt kind f.nt }
    gpr := { ax := w 2, cx := w 3, dx := w 4, bx := w 5, sp := w 6, bp := w 7, si := w 8, di := w 9 }
    es := { s.es with sel := w 10, ar := 0 }
    cs := { s.cs with sel := w 11, ar := 0 }
    ss := { s.ss with sel := w 12, ar := 0 }
    ds := { s.ds with sel := w 13, ar := 0 }
    ldtr := { s.ldtr with sel := w 14, valid := false }
    msw := { s.msw with ts := true } }

/-- Steps 7 to 9: the new TSS read and loaded (R590). -/
def loadTss (s : State) (kind : SwitchKind) : State :=
  let r := readWords s s.tr.base 14 15
  r.2.withTss kind fun j => r.1.getD j 0

/-- Step 10: LDTR (R590; a null selector leaves it invalid, D41). -/
def switchLdt (s : State) (ext : Bool) : Except Trap State :=
  let sel := s.ldtr.sel
  if nullSel sel then .ok s
  else do
    require (!selTi sel) (trapSel 10 sel ext)
    let (d, u) ← fetchOr s sel (trapSel 10 sel ext)
    afterReads u do
      require (isSys d.ar 2) (trapSel 10 sel ext)
      require (present d.ar) (trapSel 10 sel ext)
      .ok { u with ldtr := { sel := sel, base := d.base, limit := d.limit, valid := true } }

/-- Step 12: SS (R590). -/
def switchSs (s : State) (ext : Bool) : Except Trap State := do
  let sel := s.ss.sel
  require (!nullSel sel) (trapSel 10 sel ext)
  let (d, u) ← fetchOr s sel (trapSel 10 sel ext)
  afterReads u do
    require (decide (rpl sel = s.cpl)) (trapSel 10 sel ext)
    require (decide (dpl d.ar = s.cpl)) (trapSel 10 sel ext)
    require (writable d.ar) (trapSel 10 sel ext)
    require (present d.ar) (trapSel 12 sel ext)
    .ok { u.setAccessed d with ss := d.cache sel }

/-- Step 13: CS (R590). -/
def switchCs (s : State) (ext : Bool) : Except Trap State := do
  let sel := s.cs.sel
  require (!nullSel sel) (trapSel 10 sel ext)
  let (d, u) ← fetchOr s sel (trapSel 10 sel ext)
  afterReads u do
    require (isCode d.ar) (trapSel 10 sel ext)
    require (conforming d.ar || decide (dpl d.ar = s.cpl)) (trapSel 10 sel ext)
    require (!conforming d.ar || decide (dpl d.ar ≤ s.cpl)) (trapSel 10 sel ext)
    require (present d.ar) (trapSel 11 sel ext)
    .ok { u.setAccessed d with cs := d.cache sel }

/-- Step 14: DS or ES (R590). -/
def switchData (s : State) (r : SegReg) (ext : Bool) : Except Trap State :=
  let sel := (s.seg r).sel
  if nullSel sel then .ok s
  else do
    let (d, u) ← fetchOr s sel (trapSel 10 sel ext)
    afterReads u do
      require (readable d.ar) (trapSel 10 sel ext)
      require (dataPrivilege d.ar s.cpl sel) (trapSel 10 sel ext)
      require (present d.ar) (trapSel 11 sel ext)
      .ok ((u.setAccessed d).setSeg r (d.cache sel))

/-- Steps 1 to 5: the incoming descriptor marked busy, the outgoing task saved, the back link or the outgoing busy bit, TR
(R590).  Step 2 faults in the old context with the incoming task already busy. -/
def leaveTask (s : State) (t : Word) (b : Desc) (kind : SwitchKind) (outIp : Word) (ext : Bool) : Except Failure State :=
  let s1 := if kind = .iret then s else s.setBusy t
  if !(s.tr.valid && decide (41 ≤ s.tr.limit.toNat)) then .error { trap := trapSel 10 t ext, st := s1, ip := s.ip }
  else
    let s2 := pokeWords s1 s.tr.base 14 (tssImage s outIp kind)
    let s3 := if kind = .nest then s2.poke16 b.base 0 s.tr.sel else s2.clearBusy s.tr.sel
    .ok { s3 with tr := { sel := t, base := b.base, limit := b.limit, valid := true } }

/-- Steps 6 to 14, in the new context (R590, R592). -/
def enterTask (s : State) (kind : SwitchKind) (ext : Bool) : Except Failure State := do
  failIn s (require (decide (43 ≤ s.tr.limit.toNat)) (trapSel 10 s.tr.sel ext))
  let s1 := loadTss s kind
  let s2 ← failIn s1 (switchLdt s1 ext)
  let s3 ← failIn s2 (switchSs s2 ext)
  let s4 ← failIn s3 (switchCs s3 ext)
  let s5 ← failIn s4 (switchData s4 .ds ext)
  failIn s5 (switchData s5 .es ext)

/-- Step 15: IP within the new code segment (R590). -/
def checkNewIp (s : State) (ext : Bool) : Except Failure State := do
  failIn s (require (decide (s.ip.toNat ≤ s.cs.limit.toNat)) (trapExt 13 ext))
  .ok s

/-- `SwitchTasks` (R590), steps 1 to 14: `t` names the present TSS descriptor `b` of the right busy state. -/
def switchTasks (s : State) (t : Word) (b : Desc) (kind : SwitchKind) (outIp : Word) (ext : Bool) : Except Failure State := do
  let s1 ← leaveTask s t b kind outIp ext
  enterTask s1 kind ext

end Sys2Proof.Machine
end

