-- ==== Sys2Proof/Machine/Ops.lean ====
section
/-! DEFINITION. Taking an interrupt or exception (spec/60_exceptions.md R650 to R697) as one shared operation, `deliver`; the
return from one, `interruptReturn` (spec/44_control_transfer.md R489; 46_protected_transfer.md R580, R581); and how an
instruction ends. -/

namespace Sys2Proof.Machine

/-! ### Events (R650) -/

/-- The class of an event (R650). -/
inductive EventKind where
  | software | exception | external
deriving DecidableEq, Repr

/-- EXT: set for external events and for exceptions 7 and 16 (R655). -/
def extOf (kind : EventKind) (v : Byte) : Bool :=
  match kind with
  | .software => false
  | .external => true
  | .exception => decide (v = 7) || decide (v = 16)

/-- The exceptions that push an error code in Protected Mode (R656). -/
def hasErrorCode (kind : EventKind) (v : Byte) : Bool :=
  decide (kind = .exception) && (decide (v = 8) || (decide (10 ≤ v.toNat) && decide (v.toNat ≤ 13)))

/-- The exceptions whose failed delivery is a double fault (R693). -/
def contributory (kind : EventKind) (v : Byte) : Bool :=
  decide (kind = .exception) && (decide (v = 0) || (decide (10 ≤ v.toNat) && decide (v.toNat ≤ 13)))

/-! ### Delivery in Real Address Mode (R663) -/

/-- IF and TF cleared (R663). -/
def Flags.enterReal (f : Flags) : Flags := { f with ie := false, tf := false }

/-- `MemRead(IDTR.base + k, 2)`, a hardware reference (20_memory.md R117(c)): a data read the rules state, in the stated number, so a
device that holds the table answers it and records it (R85). -/
def State.vectorWord (s : State) (k : Nat) : Word × State := s.loadWord (physAdd s.idtr.base k) (physAdd s.idtr.base (k + 1))

/-- `Deliver` with PE = 0: vector table limit (interrupt 8), stack (interrupt 13), then the frame and the far pointer (R663). -/
def deliverReal (s : State) (v : Byte) (retIp : Word) : Except Failure State := do
  failIn s (require (decide (4 * v.toNat + 3 ≤ s.idtr.limit.toNat)) { vector := 8 })
  failIn s (require (canPush s 3) { vector := 13 })
  let t ← failIn s (pushAll s [s.flags.toWord, s.cs.sel, retIp])
  let k := 4 * v.toNat
  let ip := t.vectorWord k
  let cs := ip.2.vectorWord (k + 2)
  .ok { cs.2 with flags := t.flags.enterReal, ip := ip.1, cs := realCache cs.1 }

/-! ### Delivery in Protected Mode (R664, 46_protected_transfer.md R578, R579) -/

/-- The error code naming an IDT entry (R656). -/
def idtCode (v : Byte) (ext : Bool) : Word := BitVec.ofNat 16 (8 * v.toNat + 2) ||| bit 16 ext

/-- TF and NT cleared, and IF through an interrupt gate (R578). -/
def Flags.enterGate (f : Flags) (interruptGate : Bool) : Flags :=
  { f with ie := f.ie && !interruptGate, tf := false, nt := false }

/-- `IntTrapGate` to the same level: need, limit, frame, CS, error code (R578). -/
def gateSameLevel (s : State) (sel : Word) (c : Desc) (off retIp : Word) (err : Option Word) (ext : Bool) :
    Except Trap State := do
  require (canPush s (3 + err.toList.length)) (trapExt 12 ext)
  require (decide (off.toNat ≤ c.limit.toNat)) (trapExt 13 ext)
  let s1 ← pushAll s [s.flags.toWord, s.cs.sel, retIp]
  pushAll (commitCs s1 sel c off s.cpl) err.toList

/-- `IntTrapGate` to an inner level: the TSS's stack, room, limit, SS, CS, frame, error code (R578). -/
def gateInnerLevel (s : State) (sel : Word) (c : Desc) (off retIp : Word) (err : Option Word) (ext : Bool) :
    Except Trap State := do
  let k ← innerStack s (dpl c.ar) ext
  afterReads k.st do
    require (k.hasRoom (10 + 2 * err.toList.length)) (trapExt 12 ext)
    require (decide (off.toNat ≤ c.limit.toNat)) (trapExt 13 ext)
    pushAll (commitCs (commitSs k.st k.sel k.desc k.sp) sel c off (dpl c.ar))
      ([s.ss.sel, s.gpr.sp, s.flags.toWord, s.cs.sel, retIp] ++ err.toList)

/-- `IntTrapGate` (R578): the handler's code segment, then the same-level or the inner-level entry, then the flags. -/
def intTrapGate (s : State) (g : Desc) (retIp : Word) (err : Option Word) (ext : Bool) : Except Trap State := do
  let sel := g.gateSel
  require (!nullSel sel) (trapExt 13 ext)
  let (c, u) ← fetchOr s sel (trapSel 13 sel ext)
  afterReads u do
    require (isCode c.ar) (trapSel 13 sel ext)
    require (present c.ar) (trapSel 11 sel ext)
    require (!conforming c.ar || decide (dpl c.ar ≤ s.cpl)) (trapSel 13 sel ext)
    let t ←
      if !conforming c.ar && decide (dpl c.ar < s.cpl) then gateInnerLevel u sel c g.gateOff retIp err ext
      else if conforming c.ar || decide (dpl c.ar = s.cpl) then gateSameLevel u sel c g.gateOff retIp err ext
      else .error (trapSel 13 sel ext)
    .ok { t with flags := t.flags.enterGate (isSys g.ar 6) }

/-- The TSS a task gate of the IDT names: global, in the GDT, available, present (R579); GDT entry 0 is never used (R108). -/
def intTaskTarget (s : State) (sel : Word) (ext : Bool) : Except Trap (Desc × State) := do
  require (!selTi sel) (trapSel 13 sel ext)
  require (!nullSel sel) (trapSel 13 sel ext)
  let (b, u) ← fetchOr s sel (trapSel 13 sel ext)
  afterReads u do
    require (isSys b.ar 1) (trapSel 13 sel ext)
    require (present b.ar) (trapSel 11 sel ext)
    .ok (b, u)

/-- `IntTaskGate` (R579): the nested task switch, the error code on the incoming stack, the new IP checked. -/
def intTaskGate (s : State) (g : Desc) (retIp : Word) (err : Option Word) (ext : Bool) : Except Failure State := do
  let (b, v) ← failIn s (intTaskTarget s g.gateSel ext)
  let t ← switchTasks v g.gateSel b .nest retIp ext
  failIn t (require (canPush t err.toList.length) (trapExt 12 ext))
  let u ← failIn t (pushAll t err.toList)
  checkNewIp u ext

/-- `Deliver` with PE = 1: the IDT entry and its gate (R664). -/
def deliverProtected (s : State) (v : Byte) (retIp : Word) (kind : EventKind) (err : Option Word) (ext : Bool) :
    Except Failure State := do
  let code := idtCode v ext
  failIn s (require (decide (8 * v.toNat + 7 ≤ s.idtr.limit.toNat)) { vector := 13, code := code })
  let u := s.others
  let g := u.readDesc (s.idtr.base + BitVec.ofNat 24 (8 * v.toNat))
  failIn u (require (isSys g.ar 5 || isSys g.ar 6 || isSys g.ar 7) { vector := 13, code := code })
  failIn u (require (!decide (kind = .software) || decide (s.cpl ≤ dpl g.ar)) { vector := 13, code := code })
  failIn u (require (present g.ar) { vector := 11, code := code })
  if isSys g.ar 5 then intTaskGate u g retIp err ext
  else failIn u (intTrapGate u g retIp err ext)

/-- One attempt at a delivery, in either mode. -/
def attempt (s : State) (v : Byte) (retIp : Word) (kind : EventKind) (code : Word) (ext : Bool) : Except Failure State :=
  if s.msw.pe then deliverProtected s v retIp kind (if hasErrorCode kind v then some code else none) ext
  else deliverReal s v retIp

/-! ### Faults during delivery, double fault, shutdown (R693, R695) -/

/-- An LMSW that still awaits its near jump does not get it: the flag of R750. -/
def State.missJump (s : State) : State :=
  { s with lmsw := .clear, hazardLmswNoJmp := s.hazardLmswNoJmp || decide (s.lmsw ≠ .clear) }

/-- Entry to a handler ends the wait states and the prefixes, and discards the prefetch queue (R663, R664; 10_state.md R66); it is
no near jump after an LMSW (R750). -/
def State.entered (s : State) : State :=
  { s.missJump with run := .running, pfx := {}, storedSince := [], queueFlushed := true }

/-- Shutdown: no other state of the processor changes (R695). -/
def State.shutDown (s : State) : State := { s.missJump with run := .shutdown, pfx := {} }

/-- No single-step trap follows an instruction that raised an exception (R654, R672(e)). -/
def State.noStep (s : State) : State := { s with tfAtStart := false }

/-- The double fault, or the Real Address Mode interrupt 8; its own failure is shutdown (R693). -/
def deliverDouble (s : State) (retIp : Word) (ext : Bool) : State :=
  match attempt s 8 retIp .exception 0 ext with
  | .ok t => t.entered
  | .error f => f.st.shutDown

/-- The delivery of a fault met while delivering another event (R693). -/
def deliverFault (f : Failure) (ext : Bool) : State :=
  match attempt f.st f.trap.vector f.ip .exception f.trap.code ext with
  | .ok t => t.entered
  | .error g => if f.trap.vector = 8 then g.st.shutDown else deliverDouble g.st g.ip ext

/-- `Deliver(v, retIP, kind, err)` (R650, R663, R664, R693).  Taking an interrupt or exception, whole; a bus lock held across
iterations ends first (43_string.md R444). -/
def deliver (s : State) (v : Byte) (retIp : Word) (kind : EventKind) (code : Word) : State :=
  let ext := extOf kind v
  match attempt s.release v retIp kind code ext with
  | .ok t => t.entered
  | .error f =>
    if kind = .exception ∧ v = 8 then f.st.shutDown
    else if contributory kind v then deliverDouble f.st.noStep f.ip ext
    else deliverFault { f with st := f.st.noStep } ext

/-- An instruction's exception: delivered from the state of the failure; the single-step trap does not follow it (R654). -/
def raise (f : Failure) : State :=
  deliver f.st.noStep f.trap.vector f.ip .exception f.trap.code

/-- An exception of the current instruction with nothing changed: the saved IP is its first byte (R660). -/
def raiseAt (s : State) (t : Trap) : State := raise { trap := t, st := t.over s, ip := s.ip }

/-- A software interrupt: the saved IP is the next instruction's (R660; R486 to R488). -/
def softwareInterrupt (s : State) (v : Byte) : State := deliver s v s.nextIp .software 0

/-! ### How an instruction ends -/

/-- Write the LOCK signal. -/
def State.withLock (s : State) (l : BusLock) : State := { s with bus := { s.bus with lock := l } }

/-- The instruction has completed without a transfer: IP moves past it and its prefixes end (10_state.md R28). -/
def State.retire (s : State) : State := { s with ip := s.nextIp, pfx := {} }

/-- The instruction has completed with a near transfer, the jump R750 asks for after an LMSW; the prefetch queue is discarded. -/
def State.retireNear (s : State) : State := { s with pfx := {}, lmsw := .clear, queueFlushed := true }

/-- The instruction has completed with a far transfer, which discards the queue but is not the jump of R750. -/
def State.retireFar (s : State) : State := { s with pfx := {}, queueFlushed := true }

/-- End an instruction that advances IP, or take the exception it raised. -/
def finish (s : State) (r : Except Trap State) : Host.Outcome State Fault Refusal :=
  match r with
  | .ok t => .next t.retire
  | .error e => .next (raiseAt s e)

/-- End an instruction whose result has set IP itself, or take the exception it raised. -/
def finishJump (s : State) (r : Except Trap State) : Host.Outcome State Fault Refusal :=
  match r with
  | .ok t => .next t.retireNear
  | .error e => .next (raiseAt s e)

/-- End a far transfer, which may fail inside another task. -/
def finishFar (r : Except Failure State) : Host.Outcome State Fault Refusal :=
  match r with
  | .ok t => .next t.retireFar
  | .error f => .next (raise f)

/-- The IOPL check of the LOCK prefix, made for whatever instruction follows it (45_flag_misc.md R521; R654 step 4). -/
def lockGuard (s : State) : Except Trap Unit :=
  require (!(s.pfx.lock && s.msw.pe && decide (s.flags.iopl < s.cpl))) trapGp0

/-- The IOPL check of IN, OUT, INS, OUTS, CLI and STI (45_flag_misc.md R517). -/
def ioplGuard (s : State) : Except Trap Unit := require (!(s.msw.pe && decide (s.flags.iopl < s.cpl))) trapGp0

/-- The CPL check of the privileged instructions (45_flag_misc.md R517, 47_system.md R610). -/
def privilegeGuard (s : State) : Except Trap Unit := require (decide (s.cpl = 0)) trapGp0

/-- An instruction that advances IP, with the LOCK check its prefix asks for made first. -/
def runInstr (s : State) (r : Except Trap State) : Host.Outcome State Fault Refusal :=
  finish s (do lockGuard s; r)

/-- A near transfer, with the LOCK check its prefix asks for made first. -/
def runJump (s : State) (r : Except Trap State) : Host.Outcome State Fault Refusal :=
  finishJump s (do lockGuard s; r)

/-- A far transfer, with the LOCK check its prefix asks for made first. -/
def runFar (s : State) (r : Except Failure State) : Host.Outcome State Fault Refusal :=
  finishFar (do failIn s (lockGuard s); r)

/-- An operation whose bus cycles are locked, from the first to the last, whether it completes or raises an exception (20_memory.md
R142; 43_string.md R444). -/
def locked (op : State → Except Trap State) (s : State) : Except Trap State :=
  match op (s.withLock .active) with
  | .ok t => .ok (t.withLock s.bus.lock)
  | .error t => .error { t with bus := t.bus.map fun b => { b with lock := s.bus.lock } }

/-- An exception that the encoding alone decides (#UD), before any other check (R654 step 2). -/
def undefinedOpcode (s : State) : Host.Outcome State Fault Refusal := .next (raiseAt s trapUd)

/-! ### Returning from an interrupt or exception -/

/-- `LoadFlagsIret`, and POPF: IOPL only at CPL 0, IF only when CPL ≤ IOPL (46_protected_transfer.md R581;
40_data_transfer.md R276). -/
def Flags.restore (old : Flags) (w : Word) (cpl : BitVec 2) : Flags :=
  let f := Flags.ofWord w
  { f with
    iopl := if cpl = 0 then f.iopl else old.iopl
    ie := if cpl ≤ old.iopl then f.ie else old.ie }

/-- FLAGS from an image in Real Address Mode: NT and IOPL are not modified (10_state.md R46, R47). -/
def Flags.restoreReal (old : Flags) (w : Word) : Flags := { Flags.ofWord w with nt := old.nt, iopl := old.iopl }

/-- `NullIfInaccessible`, at the new CPL (R577). -/
def nullIfInaccessible (s : State) (r : SegReg) : State :=
  let c := s.seg r
  if c.ar = 0 then s
  else if (isData c.ar || !conforming c.ar) && (decide (dpl c.ar < s.cpl) || decide (dpl c.ar < rpl c.sel)) then
    s.setSeg r { c with sel := 0, ar := 0 }
  else s

/-- The checks on a return's code segment descriptor at the level it returns to (R576, R580). -/
def returnCode (s : State) (sel : Word) : Except Trap (Desc × State) := do
  require (!nullSel sel) trapGp0
  let (c, u) ← fetchOr s sel (trapGp sel)
  afterReads u do
    require (isCode c.ar) (trapGp sel)
    require (conforming c.ar || decide (dpl c.ar = rpl sel)) (trapGp sel)
    require (!conforming c.ar || decide (dpl c.ar ≤ rpl sel)) (trapGp sel)
    require (present c.ar) (trapNp sel)
    .ok (c, u)

/-- The checks on an outward return's stack segment (R576, R580). -/
def returnStack (s : State) (sel : Word) (l : BitVec 2) : Except Trap (Desc × State) := do
  require (!nullSel sel) trapGp0
  let (d, u) ← fetchOr s sel (trapGp sel)
  afterReads u do
    require (decide (rpl sel = l)) (trapGp sel)
    require (writable d.ar) (trapGp sel)
    require (decide (dpl d.ar = l)) (trapGp sel)
    require (present d.ar) (trapSs sel)
    .ok (d, u)

/-- IRET with NT = 1: the switch back to the task of the back link (R580); GDT entry 0 is never used (R108). -/
def iretTask (s : State) : Except Failure State := do
  failIn s (require (s.tssHas 0) (trapSel 10 s.tr.sel false))
  let (t, v) := s.tssWord 0
  failIn v (require (!selTi t) (trapSel 10 t false))
  failIn v (require (!nullSel t) (trapSel 10 t false))
  let (b, w) ← failIn v (fetchOr v t (trapSel 10 t false))
  failIn w (require (isSys b.ar 3) (trapSel 10 t false))
  failIn w (require (present b.ar) (trapNp t))
  let u ← switchTasks w t b .iret s.nextIp false
  checkNewIp u false

/-- IRET to the same level, its CS selector read (R580). -/
def iretSame (s : State) (sel : Word) : Except Trap State := do
  require (canPop s 3) trapSs0
  let (c, u) ← returnCode s sel
  let off := u.stackGet 0
  let image := off.2.stackGet 4
  afterReads image.2 do
    require (decide (off.1.toNat ≤ c.limit.toNat)) trapGp0
    let t := commitCs image.2 sel c off.1 s.cpl
    .ok ({ t with flags := s.flags.restore image.1 s.cpl }.setSp (s.gpr.sp + 6))

/-- IRET to an outer level, its CS selector read: the stack pointer and its segment first, IP and FLAGS once that segment has passed
its checks (R580). -/
def iretOuter (s : State) (sel : Word) : Except Trap State := do
  require (canPop s 5) trapSs0
  let (c, u) ← returnCode s sel
  let nsp := u.stackGet 6
  let nss := nsp.2.stackGet 8
  afterReads nss.2 do
    let (d, v) ← returnStack nss.2 nss.1 (rpl sel)
    let off := v.stackGet 0
    let image := off.2.stackGet 4
    afterReads image.2 do
      require (decide (off.1.toNat ≤ c.limit.toNat)) trapGp0
      let t := { commitCs image.2 sel c off.1 (rpl sel) with flags := s.flags.restore image.1 s.cpl }
      let w := commitSs t nss.1 d nsp.1
      .ok (nullIfInaccessible (nullIfInaccessible w .es) .ds)

/-- IRET with NT = 0 in Protected Mode (R580). -/
def iretStack (s : State) : Except Trap State := do
  require (stackFits s (s.gpr.sp + 2) .read) trapSs0
  let sel := s.stackGet 2
  afterReads sel.2 do
    require (decide (s.cpl ≤ rpl sel.1)) (trapGp sel.1)
    if rpl sel.1 = s.cpl then iretSame sel.2 sel.1 else iretOuter sel.2 sel.1

/-- IRET in Real Address Mode: IP, CS, FLAGS (44_control_transfer.md R489). -/
def iretReal (s : State) : Except Trap State := do
  require (canPop s 3) trapGp0
  let off := s.stackGet 0
  let sel := off.2.stackGet 2
  let image := sel.2.stackGet 4
  .ok ({ image.2 with
    ip := off.1
    cs := realCache sel.1
    flags := s.flags.restoreReal image.1 }.setSp (s.gpr.sp + 6))

/-- The return from an interrupt or exception, whole: a completed IRET also ends the NMI mask (R667, R670). -/
def interruptReturn (s : State) : Except Failure State := do
  let t ←
    if !s.msw.pe then failIn s (iretReal s)
    else if s.flags.nt then iretTask s
    else failIn s (iretStack s)
  .ok { t with nmiMasked := false }

end Sys2Proof.Machine
end

