-- ==== Sys2Proof/Machine/Operands.lean ====
section
/-! DEFINITION. Operands: the general registers and their byte halves (spec/10_state.md R20, R21), effective addresses and the
segment each uses (spec/30_encoding.md R211, R214, R215, R231), and the reading and writing of `eb` and `ew` operands with
their checks (spec/20_memory.md R110 to R119). -/

namespace Sys2Proof.Machine

/-! ### Registers -/

/-- A word register. -/
def Gpr.get (g : Gpr) : Reg16 → Word
  | .ax => g.ax | .cx => g.cx | .dx => g.dx | .bx => g.bx | .sp => g.sp | .bp => g.bp | .si => g.si | .di => g.di

/-- Write a word register. -/
def Gpr.set (g : Gpr) (r : Reg16) (v : Word) : Gpr :=
  match r with
  | .ax => { g with ax := v } | .cx => { g with cx := v } | .dx => { g with dx := v } | .bx => { g with bx := v }
  | .sp => { g with sp := v } | .bp => { g with bp := v } | .si => { g with si := v } | .di => { g with di := v }

/-- The word register a byte register is half of (R21). -/
def reg8Whole : Reg8 → Reg16
  | .al => .ax | .cl => .cx | .dl => .dx | .bl => .bx | .ah => .ax | .ch => .cx | .dh => .dx | .bh => .bx

/-- Whether a byte register is bits 15:8 (R21). -/
def reg8High : Reg8 → Bool
  | .al => false | .cl => false | .dl => false | .bl => false | .ah => true | .ch => true | .dh => true | .bh => true

/-- A word with its low byte replaced. -/
def withLow (w : Word) (b : Byte) : Word := mkWord b (hiByte w)

/-- A word with its high byte replaced. -/
def withHigh (w : Word) (b : Byte) : Word := mkWord (loByte w) b

/-- A word register. -/
def State.reg16 (s : State) (r : Reg16) : Word := s.gpr.get r

/-- Write a word register. -/
def State.setReg16 (s : State) (r : Reg16) (v : Word) : State := { s with gpr := s.gpr.set r v }

/-- A byte register. -/
def State.reg8 (s : State) (r : Reg8) : Byte :=
  if reg8High r then hiByte (s.reg16 (reg8Whole r)) else loByte (s.reg16 (reg8Whole r))

/-- Write a byte register: the other half is unchanged (R21). -/
def State.setReg8 (s : State) (r : Reg8) (v : Byte) : State :=
  s.setReg16 (reg8Whole r) (if reg8High r then withHigh (s.reg16 (reg8Whole r)) v else withLow (s.reg16 (reg8Whole r)) v)

/-! ### Effective addresses -/

/-- The register part of an effective address (R211). -/
def State.baseOffset (s : State) : AddrBase → Word
  | .bxSi => s.gpr.bx + s.gpr.si
  | .bxDi => s.gpr.bx + s.gpr.di
  | .bpSi => s.gpr.bp + s.gpr.si
  | .bpDi => s.gpr.bp + s.gpr.di
  | .si => s.gpr.si
  | .di => s.gpr.di
  | .bp => s.gpr.bp
  | .bx => s.gpr.bx

/-- The displacement, a byte sign-extended (R210). -/
def dispValue : Disp → Word
  | .none => 0
  | .d8 b => sext16 b
  | .d16 w => w

/-- The offset of a memory operand, modulo 2^16 (R211). -/
def State.effOffset (s : State) : MemOp → Word
  | .based b d => s.baseOffset b + dispValue d
  | .direct off => off

/-- The default segment: SS where BP takes part, else DS (R211). -/
def defaultSeg : MemOp → SegReg
  | .based .bpSi _ => .ss
  | .based .bpDi _ => .ss
  | .based .bp _ => .ss
  | .based .bxSi _ => .ds
  | .based .bxDi _ => .ds
  | .based .si _ => .ds
  | .based .di _ => .ds
  | .based .bx _ => .ds
  | .direct _ => .ds

/-- A default segment, or the override prefix in force (R231). -/
def State.overridden (s : State) (r : SegReg) : SegReg := s.pfx.seg.getD r

/-- The segment register a memory operand is reached through. -/
def State.memSeg (s : State) (m : MemOp) : SegReg := s.overridden (defaultSeg m)

/-! ### `eb` and `ew` operands -/

/-- Check an `eb` operand for an access. -/
def checkRm8 (s : State) (e : Rm8) (k : Access) : Except Trap Unit :=
  match e with
  | .reg _ => .ok ()
  | .mem m => segCheck s (s.memSeg m) (s.effOffset m) 1 k

/-- Check an `ew` operand for an access. -/
def checkRm16 (s : State) (e : Rm16) (k : Access) : Except Trap Unit :=
  match e with
  | .reg _ => .ok ()
  | .mem m => segCheck s (s.memSeg m) (s.effOffset m) 2 k

/-- Read a checked `eb` operand: the value, and the state after the read. -/
def State.getRm8 (s : State) (e : Rm8) : Byte × State :=
  match e with
  | .reg r => (s.reg8 r, s)
  | .mem m => s.segGet8 (s.memSeg m) (s.effOffset m)

/-- Read a checked `ew` operand: the value, and the state after the read. -/
def State.getRm16 (s : State) (e : Rm16) : Word × State :=
  match e with
  | .reg r => (s.reg16 r, s)
  | .mem m => s.segGet16 (s.memSeg m) (s.effOffset m)

/-- Check an `eb` operand for an access and read it: the value, and the state after the read. -/
def loadRm8 (s : State) (e : Rm8) (k : Access) : Except Trap (Byte × State) := do
  checkRm8 s e k
  .ok (s.getRm8 e)

/-- Check an `ew` operand for an access and read it: the value, and the state after the read. -/
def loadRm16 (s : State) (e : Rm16) (k : Access) : Except Trap (Word × State) := do
  checkRm16 s e k
  .ok (s.getRm16 e)

/-- Write a checked `eb` operand. -/
def storeRm8 (s : State) (e : Rm8) (v : Byte) : State :=
  match e with
  | .reg r => s.setReg8 r v
  | .mem m => s.segPut8 (s.memSeg m) (s.effOffset m) 0 v

/-- Write a checked `ew` operand. -/
def storeRm16 (s : State) (e : Rm16) (v : Word) : State :=
  match e with
  | .reg r => s.setReg16 r v
  | .mem m => s.segPut16 (s.memSeg m) (s.effOffset m) v

/-- Check for an access that word `k` of a memory operand can be reached; offsets modulo 2^16 (R83). -/
def checkMemWord (s : State) (m : MemOp) (k : Word) (a : Access) : Except Trap Unit := segCheck s (s.memSeg m) (s.effOffset m + k) 2 a

/-- Read checked word `k` of a memory operand: the word, and the state after the read. -/
def State.memWord (s : State) (m : MemOp) (k : Word) : Word × State := s.segGet16 (s.memSeg m) (s.effOffset m + k)

/-- A far pointer read from memory, and the state after the reads. -/
structure Pointer where
  off : Word
  sel : Word
  st : State
deriving DecidableEq, Repr

/-- Check both words of the 4-byte pointer of an `ed` operand, in their order (R113). -/
def checkPointer (s : State) (m : MemOp) : Except Trap Unit := do
  checkMemWord s m 0 .read
  checkMemWord s m 2 .read

/-- Read a checked pointer: offset word, then selector word (R80, R83). -/
def State.getPointer (s : State) (m : MemOp) : Pointer :=
  let off := s.memWord m 0
  let sel := off.2.memWord m 2
  { off := off.1, sel := sel.1, st := sel.2 }

/-- The 4-byte pointer of an `ed` operand, checked before it is read (R113). -/
def loadPointer (s : State) (m : MemOp) : Except Trap Pointer := do
  checkPointer s m
  .ok (s.getPointer m)

/-! ### Free values -/

/-- The `k`-th free flag of this instruction (93_implementation_defined.md U1). -/
def State.freeFlag (s : State) (k : Nat := 0) : Bool := Config.freeBit (s.freeCtr + k)

/-- Advance past `n` free values. -/
def State.drew (s : State) (n : Nat) : State := { s with freeCtr := s.freeCtr + n }

/-- Write FLAGS. -/
def State.setFlags (s : State) (f : Flags) : State := { s with flags := f }

end Sys2Proof.Machine
end

