-- ==== Sys2Proof/Machine/Arithmetic.lean ====
section
/-! DEFINITION. The arithmetic instructions (spec/41_arithmetic.md R320 to R342): ADD, ADC, SUB, SBB, CMP, INC, DEC, NEG, MUL,
IMUL, DIV, IDIV, CBW, CWD, DAA, DAS, AAA, AAS, AAM, AAD, over shared operations that also serve the logical instructions. -/

namespace Sys2Proof.Machine

/-! ### The eight two-operand operations (R321) -/

/-- The two-operand operations, in the order of their group number. -/
inductive AluOp where
  | add | or | adc | sbb | and | sub | xor | cmp
deriving DecidableEq, Repr

/-- CMP reads its destination only; the others write it. -/
def AluOp.access : AluOp → Access
  | .cmp => .read
  | .add => .write | .or => .write | .adc => .write | .sbb => .write | .and => .write | .sub => .write | .xor => .write

/-- A logical result: its flags, with AF free (42_logic_shift.md R380). -/
def logicResult {n : Nat} (s : State) (r : BitVec n) : BitVec n × State :=
  (r, (s.setFlags (s.flags.logic r s.freeFlag)).drew 1)

/-- Result and flags of `d op v` (R322 to R326; 42_logic_shift.md R381 to R383). -/
def aluCompute {n : Nat} (op : AluOp) (s : State) (d v : BitVec n) : BitVec n × State :=
  match op with
  | .add => (d + v, s.setFlags (s.flags.add d v false))
  | .adc => (d + v + bit n s.flags.cf, s.setFlags (s.flags.add d v s.flags.cf))
  | .sub => (d - v, s.setFlags (s.flags.sub d v false))
  | .sbb => (d - v - bit n s.flags.cf, s.setFlags (s.flags.sub d v s.flags.cf))
  | .cmp => (d, s.setFlags (s.flags.sub d v false))
  | .or => logicResult s (d ||| v)
  | .and => logicResult s (d &&& v)
  | .xor => logicResult s (d ^^^ v)

/-- `op E, v` for a byte E: the destination is checked for what the operation does to it before it is read (R321, R119). -/
def aluRm8 (op : AluOp) (e : Rm8) (v : Byte) (s : State) : Except Trap State := do
  let d ← loadRm8 s e op.access
  let r := aluCompute op d.2 d.1 v
  .ok (if op = .cmp then r.2 else storeRm8 r.2 e r.1)

/-- `op E, v` for a word E. -/
def aluRm16 (op : AluOp) (e : Rm16) (v : Word) (s : State) : Except Trap State := do
  let d ← loadRm16 s e op.access
  let r := aluCompute op d.2 d.1 v
  .ok (if op = .cmp then r.2 else storeRm16 r.2 e r.1)

/-- `op G, E` for a byte register G. -/
def aluReg8 (op : AluOp) (g : Reg8) (e : Rm8) (s : State) : Except Trap State := do
  let v ← loadRm8 s e .read
  let r := aluCompute op v.2 (s.reg8 g) v.1
  .ok (r.2.setReg8 g r.1)

/-- `op G, E` for a word register G. -/
def aluReg16 (op : AluOp) (g : Reg16) (e : Rm16) (s : State) : Except Trap State := do
  let v ← loadRm16 s e .read
  let r := aluCompute op v.2 (s.reg16 g) v.1
  .ok (r.2.setReg16 g r.1)

/-- `op eb,rb`. -/
def aluEbRb (op : AluOp) (e : Rm8) (r : Reg8) (s : State) := runInstr s (aluRm8 op e (s.reg8 r) s)

/-- `op ew,rw`. -/
def aluEwRw (op : AluOp) (e : Rm16) (r : Reg16) (s : State) := runInstr s (aluRm16 op e (s.reg16 r) s)

/-- `op rb,eb`. -/
def aluRbEb (op : AluOp) (r : Reg8) (e : Rm8) (s : State) := runInstr s (aluReg8 op r e s)

/-- `op rw,ew`. -/
def aluRwEw (op : AluOp) (r : Reg16) (e : Rm16) (s : State) := runInstr s (aluReg16 op r e s)

/-- `op AL,db`. -/
def aluAlDb (op : AluOp) (imm : Byte) (s : State) := runInstr s (aluRm8 op (.reg .al) imm s)

/-- `op AX,dw`. -/
def aluAxDw (op : AluOp) (imm : Word) (s : State) := runInstr s (aluRm16 op (.reg .ax) imm s)

/-- `op eb,db`. -/
def aluEbDb (op : AluOp) (e : Rm8) (imm : Byte) (s : State) := runInstr s (aluRm8 op e imm s)

/-- `op ew,dw`. -/
def aluEwDw (op : AluOp) (e : Rm16) (imm : Word) (s : State) := runInstr s (aluRm16 op e imm s)

/-- `op ew,db`: the byte is sign-extended (R321). -/
def aluEwDb (op : AluOp) (e : Rm16) (imm : Byte) (s : State) := runInstr s (aluRm16 op e (sext16 imm) s)

/-! ### Unary operations: INC, DEC, NEG, NOT -/

/-- The one-operand read-modify-write operations. -/
inductive UnaryOp where
  | inc | dec | neg | not
deriving DecidableEq, Repr

/-- Result and flags (R327 to R329; 42_logic_shift.md R384: NOT changes no flag; INC and DEC keep CF). -/
def unaryCompute {n : Nat} (op : UnaryOp) (f : Flags) (d : BitVec n) : BitVec n × Flags :=
  match op with
  | .inc => (d + 1, { f.add d 1 false with cf := f.cf })
  | .dec => (d - 1, { f.sub d 1 false with cf := f.cf })
  | .neg => (0 - d, f.sub 0 d false)
  | .not => (~~~d, f)

/-- A unary operation on a byte operand, checked for write before it is read. -/
def unaryRm8 (op : UnaryOp) (e : Rm8) (s : State) : Except Trap State := do
  let d ← loadRm8 s e .write
  let r := unaryCompute op s.flags d.1
  .ok (storeRm8 (d.2.setFlags r.2) e r.1)

/-- A unary operation on a word operand, checked for write before it is read. -/
def unaryRm16 (op : UnaryOp) (e : Rm16) (s : State) : Except Trap State := do
  let d ← loadRm16 s e .write
  let r := unaryCompute op s.flags d.1
  .ok (storeRm16 (d.2.setFlags r.2) e r.1)

/-- `op eb`. -/
def unaryEb (op : UnaryOp) (e : Rm8) (s : State) := runInstr s (unaryRm8 op e s)

/-- `op ew`. -/
def unaryEw (op : UnaryOp) (e : Rm16) (s : State) := runInstr s (unaryRm16 op e s)

/-! ### Multiplication (R330 to R332) -/

/-- CF = OF as the product says; SF, ZF, AF and PF free (U1). -/
def mulFlags (s : State) (big : Bool) : State :=
  (s.setFlags { s.flags with cf := big, ov := big, sf := s.freeFlag 0, zf := s.freeFlag 1, af := s.freeFlag 2, pf := s.freeFlag 3 }).drew 4

/-- A 32-bit product into DX:AX. -/
def State.setDxAx (s : State) (p : BitVec 32) : State :=
  (s.setReg16 .ax (p.extractLsb' 0 16)).setReg16 .dx (p.extractLsb' 16 16)

/-- The unsigned product of two bytes. -/
def mulByte (a b : Byte) : Word := a.zeroExtend 16 * b.zeroExtend 16

/-- The unsigned product of two words. -/
def mulWord (a b : Word) : BitVec 32 := a.zeroExtend 32 * b.zeroExtend 32

/-- The signed product of two bytes. -/
def imulByte (a b : Byte) : Word := a.signExtend 16 * b.signExtend 16

/-- The signed product of two words. -/
def imulWord (a b : Word) : BitVec 32 := a.signExtend 32 * b.signExtend 32

/-- MUL eb: CF = OF = (AH ≠ 0) (R330). -/
def mulRm8 (e : Rm8) (s : State) : Except Trap State := do
  let v ← loadRm8 s e .read
  let p := mulByte (s.reg8 .al) v.1
  .ok ((mulFlags v.2 (decide (hiByte p ≠ 0))).setReg16 .ax p)

/-- MUL ew: CF = OF = (DX ≠ 0) (R330). -/
def mulRm16 (e : Rm16) (s : State) : Except Trap State := do
  let v ← loadRm16 s e .read
  let p := mulWord s.gpr.ax v.1
  .ok ((mulFlags v.2 (decide (p.extractLsb' 16 16 ≠ 0))).setDxAx p)

/-- IMUL eb: CF = OF = (AX is not the sign extension of AL) (R331). -/
def imulRm8 (e : Rm8) (s : State) : Except Trap State := do
  let v ← loadRm8 s e .read
  let p := imulByte (s.reg8 .al) v.1
  .ok ((mulFlags v.2 (decide (p ≠ (loByte p).signExtend 16))).setReg16 .ax p)

/-- IMUL ew: CF = OF = (DX:AX is not the sign extension of AX) (R331). -/
def imulRm16 (e : Rm16) (s : State) : Except Trap State := do
  let v ← loadRm16 s e .read
  let p := imulWord s.gpr.ax v.1
  .ok ((mulFlags v.2 (decide (p ≠ (p.extractLsb' 0 16).signExtend 32))).setDxAx p)

/-- IMUL rw,ew,imm: the low word of the signed product; CF = OF = (the product does not fit a signed word) (R332). -/
def imulImm (r : Reg16) (e : Rm16) (imm : Word) (s : State) : Except Trap State := do
  let v ← loadRm16 s e .read
  let p := imulWord v.1 imm
  .ok ((mulFlags v.2 (decide (p ≠ (p.extractLsb' 0 16).signExtend 32))).setReg16 r (p.extractLsb' 0 16))

/-! ### Division (R333, R334) -/

/-- Vector 0. -/
def trapDivide : Trap := { vector := 0 }

/-- All six status flags free (U1). -/
def divFlags (s : State) : State :=
  (s.setFlags { s.flags with
    ov := s.freeFlag 0, sf := s.freeFlag 1, zf := s.freeFlag 2, af := s.freeFlag 3, pf := s.freeFlag 4, cf := s.freeFlag 5 }).drew 6

/-- DIV eb: AX by the operand; quotient to AL, remainder to AH (R333). -/
def divRm8 (e : Rm8) (s : State) : Except Trap State := do
  let v ← loadRm8 s e .read
  let n := s.gpr.ax.toNat
  afterReads v.2 (require (decide (v.1 ≠ 0) && decide (n / v.1.toNat ≤ 0xFF)) trapDivide)
  .ok ((divFlags v.2).setReg16 .ax (mkWord (BitVec.ofNat 8 (n / v.1.toNat)) (BitVec.ofNat 8 (n % v.1.toNat))))

/-- The 32-bit DX:AX. -/
def State.dxAx (s : State) : BitVec 32 := (s.gpr.dx ++ s.gpr.ax : BitVec (16 + 16))

/-- DIV ew: DX:AX by the operand; quotient to AX, remainder to DX (R333). -/
def divRm16 (e : Rm16) (s : State) : Except Trap State := do
  let v ← loadRm16 s e .read
  let n := s.dxAx.toNat
  afterReads v.2 (require (decide (v.1 ≠ 0) && decide (n / v.1.toNat ≤ 0xFFFF)) trapDivide)
  .ok (((divFlags v.2).setReg16 .ax (BitVec.ofNat 16 (n / v.1.toNat))).setReg16 .dx (BitVec.ofNat 16 (n % v.1.toNat)))

/-- IDIV eb: truncated toward zero, the remainder with the dividend's sign; -128 is a legal quotient (R334). -/
def idivRm8 (e : Rm8) (s : State) : Except Trap State := do
  let v ← loadRm8 s e .read
  let q := s.gpr.ax.toInt.tdiv v.1.toInt
  let r := s.gpr.ax.toInt.tmod v.1.toInt
  afterReads v.2 (require (decide (v.1 ≠ 0) && decide (-128 ≤ q) && decide (q ≤ 127)) trapDivide)
  .ok ((divFlags v.2).setReg16 .ax (mkWord (BitVec.ofInt 8 q) (BitVec.ofInt 8 r)))

/-- IDIV ew: -32768 is a legal quotient (R334). -/
def idivRm16 (e : Rm16) (s : State) : Except Trap State := do
  let v ← loadRm16 s e .read
  let q := s.dxAx.toInt.tdiv v.1.toInt
  let r := s.dxAx.toInt.tmod v.1.toInt
  afterReads v.2 (require (decide (v.1 ≠ 0) && decide (-32768 ≤ q) && decide (q ≤ 32767)) trapDivide)
  .ok (((divFlags v.2).setReg16 .ax (BitVec.ofInt 16 q)).setReg16 .dx (BitVec.ofInt 16 r))

/-! ### Decimal adjustment (R337 to R342) -/

/-- The low digit is above nine, or AF is set. -/
def digitOver (f : Flags) (al : Byte) : Bool := decide (9 < al.toNat % 16) || f.af

/-- DAA and DAS: the adjustments 06H and 60H, added or subtracted (R337, R338).  OF is free. -/
def decimalAdjust (s : State) (subtract : Bool) : State :=
  let al := s.reg8 .al
  let lowAdj := digitOver s.flags al
  let al1 := if lowAdj then (if subtract then al - 0x06 else al + 0x06) else al
  let highAdj := decide (0x9F < al1.toNat) || s.flags.cf
  let al2 := if highAdj then (if subtract then al1 - 0x60 else al1 + 0x60) else al1
  ((s.setFlags { s.flags.ofResult al2 with af := lowAdj, cf := highAdj, ov := s.freeFlag }).drew 1).setReg8 .al al2

/-- AAA and AAS: AL by 6 and AH by 1, added or subtracted, then the upper half of AL cleared (R339, R340).  OF, SF, ZF and PF
are free. -/
def asciiAdjust (s : State) (subtract : Bool) : State :=
  let al := s.reg8 .al
  let ah := s.reg8 .ah
  let adj := digitOver s.flags al
  let al1 := if adj then (if subtract then al - 6 else al + 6) else al
  let ah1 := if adj then (if subtract then ah - 1 else ah + 1) else ah
  ((s.setFlags { s.flags with
    cf := adj, af := adj, ov := s.freeFlag 0, sf := s.freeFlag 1, zf := s.freeFlag 2, pf := s.freeFlag 3 }).drew 4).setReg16 .ax
      (mkWord (al1 &&& 0x0F) ah1)

/-- AAM and AAD write AL and AH; SF, ZF and PF are those of the final AL; OF, AF and CF are free (R341, R342). -/
def asciiScale (s : State) (al ah : Byte) : State :=
  ((s.setFlags { s.flags.ofResult al with ov := s.freeFlag 0, af := s.freeFlag 1, cf := s.freeFlag 2 }).drew 3).setReg16 .ax (mkWord al ah)

/-! ### The instructions -/

/-- ADD eb,rb (R322). -/
def execAddEbRb (e : Rm8) (r : Reg8) (s : State) : Host.Outcome State Fault Refusal := aluEbRb .add e r s

/-- ADD ew,rw (R322). -/
def execAddEwRw (e : Rm16) (r : Reg16) (s : State) : Host.Outcome State Fault Refusal := aluEwRw .add e r s

/-- ADD rb,eb (R322). -/
def execAddRbEb (r : Reg8) (e : Rm8) (s : State) : Host.Outcome State Fault Refusal := aluRbEb .add r e s

/-- ADD rw,ew (R322). -/
def execAddRwEw (r : Reg16) (e : Rm16) (s : State) : Host.Outcome State Fault Refusal := aluRwEw .add r e s

/-- ADD AL,db (R322). -/
def execAddAlDb (imm : Byte) (s : State) : Host.Outcome State Fault Refusal := aluAlDb .add imm s

/-- ADD AX,dw (R322). -/
def execAddAxDw (imm : Word) (s : State) : Host.Outcome State Fault Refusal := aluAxDw .add imm s

/-- ADD eb,db (R322). -/
def execAddEbDb (e : Rm8) (imm : Byte) (s : State) : Host.Outcome State Fault Refusal := aluEbDb .add e imm s

/-- ADD ew,dw (R322). -/
def execAddEwDw (e : Rm16) (imm : Word) (s : State) : Host.Outcome State Fault Refusal := aluEwDw .add e imm s

/-- ADD ew,db (R322). -/
def execAddEwDb (e : Rm16) (imm : Byte) (s : State) : Host.Outcome State Fault Refusal := aluEwDb .add e imm s

/-- ADC eb,rb (R323). -/
def execAdcEbRb (e : Rm8) (r : Reg8) (s : State) : Host.Outcome State Fault Refusal := aluEbRb .adc e r s

/-- ADC ew,rw (R323). -/
def execAdcEwRw (e : Rm16) (r : Reg16) (s : State) : Host.Outcome State Fault Refusal := aluEwRw .adc e r s

/-- ADC rb,eb (R323). -/
def execAdcRbEb (r : Reg8) (e : Rm8) (s : State) : Host.Outcome State Fault Refusal := aluRbEb .adc r e s

/-- ADC rw,ew (R323). -/
def execAdcRwEw (r : Reg16) (e : Rm16) (s : State) : Host.Outcome State Fault Refusal := aluRwEw .adc r e s

/-- ADC AL,db (R323). -/
def execAdcAlDb (imm : Byte) (s : State) : Host.Outcome State Fault Refusal := aluAlDb .adc imm s

/-- ADC AX,dw (R323). -/
def execAdcAxDw (imm : Word) (s : State) : Host.Outcome State Fault Refusal := aluAxDw .adc imm s

/-- ADC eb,db (R323). -/
def execAdcEbDb (e : Rm8) (imm : Byte) (s : State) : Host.Outcome State Fault Refusal := aluEbDb .adc e imm s

/-- ADC ew,dw (R323). -/
def execAdcEwDw (e : Rm16) (imm : Word) (s : State) : Host.Outcome State Fault Refusal := aluEwDw .adc e imm s

/-- ADC ew,db (R323). -/
def execAdcEwDb (e : Rm16) (imm : Byte) (s : State) : Host.Outcome State Fault Refusal := aluEwDb .adc e imm s

/-- SUB eb,rb (R324). -/
def execSubEbRb (e : Rm8) (r : Reg8) (s : State) : Host.Outcome State Fault Refusal := aluEbRb .sub e r s

/-- SUB ew,rw (R324). -/
def execSubEwRw (e : Rm16) (r : Reg16) (s : State) : Host.Outcome State Fault Refusal := aluEwRw .sub e r s

/-- SUB rb,eb (R324). -/
def execSubRbEb (r : Reg8) (e : Rm8) (s : State) : Host.Outcome State Fault Refusal := aluRbEb .sub r e s

/-- SUB rw,ew (R324). -/
def execSubRwEw (r : Reg16) (e : Rm16) (s : State) : Host.Outcome State Fault Refusal := aluRwEw .sub r e s

/-- SUB AL,db (R324). -/
def execSubAlDb (imm : Byte) (s : State) : Host.Outcome State Fault Refusal := aluAlDb .sub imm s

/-- SUB AX,dw (R324). -/
def execSubAxDw (imm : Word) (s : State) : Host.Outcome State Fault Refusal := aluAxDw .sub imm s

/-- SUB eb,db (R324). -/
def execSubEbDb (e : Rm8) (imm : Byte) (s : State) : Host.Outcome State Fault Refusal := aluEbDb .sub e imm s

/-- SUB ew,dw (R324). -/
def execSubEwDw (e : Rm16) (imm : Word) (s : State) : Host.Outcome State Fault Refusal := aluEwDw .sub e imm s

/-- SUB ew,db (R324). -/
def execSubEwDb (e : Rm16) (imm : Byte) (s : State) : Host.Outcome State Fault Refusal := aluEwDb .sub e imm s

/-- SBB eb,rb (R325). -/
def execSbbEbRb (e : Rm8) (r : Reg8) (s : State) : Host.Outcome State Fault Refusal := aluEbRb .sbb e r s

/-- SBB ew,rw (R325). -/
def execSbbEwRw (e : Rm16) (r : Reg16) (s : State) : Host.Outcome State Fault Refusal := aluEwRw .sbb e r s

/-- SBB rb,eb (R325). -/
def execSbbRbEb (r : Reg8) (e : Rm8) (s : State) : Host.Outcome State Fault Refusal := aluRbEb .sbb r e s

/-- SBB rw,ew (R325). -/
def execSbbRwEw (r : Reg16) (e : Rm16) (s : State) : Host.Outcome State Fault Refusal := aluRwEw .sbb r e s

/-- SBB AL,db (R325). -/
def execSbbAlDb (imm : Byte) (s : State) : Host.Outcome State Fault Refusal := aluAlDb .sbb imm s

/-- SBB AX,dw (R325). -/
def execSbbAxDw (imm : Word) (s : State) : Host.Outcome State Fault Refusal := aluAxDw .sbb imm s

/-- SBB eb,db (R325). -/
def execSbbEbDb (e : Rm8) (imm : Byte) (s : State) : Host.Outcome State Fault Refusal := aluEbDb .sbb e imm s

/-- SBB ew,dw (R325). -/
def execSbbEwDw (e : Rm16) (imm : Word) (s : State) : Host.Outcome State Fault Refusal := aluEwDw .sbb e imm s

/-- SBB ew,db (R325). -/
def execSbbEwDb (e : Rm16) (imm : Byte) (s : State) : Host.Outcome State Fault Refusal := aluEwDb .sbb e imm s

/-- CMP eb,rb (R326). -/
def execCmpEbRb (e : Rm8) (r : Reg8) (s : State) : Host.Outcome State Fault Refusal := aluEbRb .cmp e r s

/-- CMP ew,rw (R326). -/
def execCmpEwRw (e : Rm16) (r : Reg16) (s : State) : Host.Outcome State Fault Refusal := aluEwRw .cmp e r s

/-- CMP rb,eb (R326). -/
def execCmpRbEb (r : Reg8) (e : Rm8) (s : State) : Host.Outcome State Fault Refusal := aluRbEb .cmp r e s

/-- CMP rw,ew (R326). -/
def execCmpRwEw (r : Reg16) (e : Rm16) (s : State) : Host.Outcome State Fault Refusal := aluRwEw .cmp r e s

/-- CMP AL,db (R326). -/
def execCmpAlDb (imm : Byte) (s : State) : Host.Outcome State Fault Refusal := aluAlDb .cmp imm s

/-- CMP AX,dw (R326). -/
def execCmpAxDw (imm : Word) (s : State) : Host.Outcome State Fault Refusal := aluAxDw .cmp imm s

/-- CMP eb,db (R326). -/
def execCmpEbDb (e : Rm8) (imm : Byte) (s : State) : Host.Outcome State Fault Refusal := aluEbDb .cmp e imm s

/-- CMP ew,dw (R326). -/
def execCmpEwDw (e : Rm16) (imm : Word) (s : State) : Host.Outcome State Fault Refusal := aluEwDw .cmp e imm s

/-- CMP ew,db (R326). -/
def execCmpEwDb (e : Rm16) (imm : Byte) (s : State) : Host.Outcome State Fault Refusal := aluEwDb .cmp e imm s

/-- INC eb (R327). -/
def execIncEb (e : Rm8) (s : State) : Host.Outcome State Fault Refusal := unaryEb .inc e s

/-- INC ew (R327). -/
def execIncEw (e : Rm16) (s : State) : Host.Outcome State Fault Refusal := unaryEw .inc e s

/-- INC rw (R327). -/
def execIncRw (r : Reg16) (s : State) : Host.Outcome State Fault Refusal := unaryEw .inc (.reg r) s

/-- DEC eb (R328). -/
def execDecEb (e : Rm8) (s : State) : Host.Outcome State Fault Refusal := unaryEb .dec e s

/-- DEC ew (R328). -/
def execDecEw (e : Rm16) (s : State) : Host.Outcome State Fault Refusal := unaryEw .dec e s

/-- DEC rw (R328). -/
def execDecRw (r : Reg16) (s : State) : Host.Outcome State Fault Refusal := unaryEw .dec (.reg r) s

/-- NEG eb (R329). -/
def execNegEb (e : Rm8) (s : State) : Host.Outcome State Fault Refusal := unaryEb .neg e s

/-- NEG ew (R329). -/
def execNegEw (e : Rm16) (s : State) : Host.Outcome State Fault Refusal := unaryEw .neg e s

/-- MUL eb (R330). -/
def execMulEb (e : Rm8) (s : State) : Host.Outcome State Fault Refusal := runInstr s (mulRm8 e s)

/-- MUL ew (R330). -/
def execMulEw (e : Rm16) (s : State) : Host.Outcome State Fault Refusal := runInstr s (mulRm16 e s)

/-- IMUL eb (R331). -/
def execImulEb (e : Rm8) (s : State) : Host.Outcome State Fault Refusal := runInstr s (imulRm8 e s)

/-- IMUL ew (R331). -/
def execImulEw (e : Rm16) (s : State) : Host.Outcome State Fault Refusal := runInstr s (imulRm16 e s)

/-- DIV eb (R333). -/
def execDivEb (e : Rm8) (s : State) : Host.Outcome State Fault Refusal := runInstr s (divRm8 e s)

/-- DIV ew (R333). -/
def execDivEw (e : Rm16) (s : State) : Host.Outcome State Fault Refusal := runInstr s (divRm16 e s)

/-- IDIV eb (R334). -/
def execIdivEb (e : Rm8) (s : State) : Host.Outcome State Fault Refusal := runInstr s (idivRm8 e s)

/-- IDIV ew (R334). -/
def execIdivEw (e : Rm16) (s : State) : Host.Outcome State Fault Refusal := runInstr s (idivRm16 e s)

/-- IMUL rw,ew,dw (R332). -/
def execImulRwEwDw (r : Reg16) (e : Rm16) (imm : Word) (s : State) : Host.Outcome State Fault Refusal := runInstr s (imulImm r e imm s)

/-- IMUL rw,ew,db (R332). -/
def execImulRwEwDb (r : Reg16) (e : Rm16) (imm : Byte) (s : State) : Host.Outcome State Fault Refusal := runInstr s (imulImm r e (sext16 imm) s)

/-- CBW (R335). -/
def execCbw (s : State) : Host.Outcome State Fault Refusal := runInstr s (.ok (s.setReg16 .ax (sext16 (s.reg8 .al))))

/-- CWD (R336). -/
def execCwd (s : State) : Host.Outcome State Fault Refusal := runInstr s (.ok (s.setReg16 .dx (if s.gpr.ax.msb then 0xFFFF else 0)))

/-- DAA (R337). -/
def execDaa (s : State) : Host.Outcome State Fault Refusal := runInstr s (.ok (decimalAdjust s false))

/-- DAS (R338). -/
def execDas (s : State) : Host.Outcome State Fault Refusal := runInstr s (.ok (decimalAdjust s true))

/-- AAA (R339). -/
def execAaa (s : State) : Host.Outcome State Fault Refusal := runInstr s (.ok (asciiAdjust s false))

/-- AAS (R340). -/
def execAas (s : State) : Host.Outcome State Fault Refusal := runInstr s (.ok (asciiAdjust s true))

/-- AAM (R341). -/
def execAam (s : State) : Host.Outcome State Fault Refusal := runInstr s (.ok (asciiScale s (s.reg8 .al % 10) (s.reg8 .al / 10)))

/-- AAD (R342). -/
def execAad (s : State) : Host.Outcome State Fault Refusal := runInstr s (.ok (asciiScale s (s.reg8 .al + 10 * s.reg8 .ah) 0))

end Sys2Proof.Machine
end

