-- ==== Sys2Proof/Machine/DataTransfer.lean ====
section
/-! DEFINITION. The data transfer instructions (spec/40_data_transfer.md R261 to R283): MOV, XCHG, PUSH, POP, PUSHA, POPA, PUSHF,
POPF, LAHF, SAHF, XLAT, LEA, LDS, LES, IN, OUT. -/

namespace Sys2Proof.Machine

/-! ### MOV and XCHG (R261 to R265) -/

/-- `E <- v`, a byte. -/
def movToRm8 (e : Rm8) (v : Byte) (s : State) : Except Trap State := do
  checkRm8 s e .write
  .ok (storeRm8 s e v)

/-- `E <- v`, a word. -/
def movToRm16 (e : Rm16) (v : Word) (s : State) : Except Trap State := do
  checkRm16 s e .write
  .ok (storeRm16 s e v)

/-- `G <- E`, a byte. -/
def movToReg8 (r : Reg8) (e : Rm8) (s : State) : Except Trap State := do
  let v ← loadRm8 s e .read
  .ok (v.2.setReg8 r v.1)

/-- `G <- E`, a word. -/
def movToReg16 (r : Reg16) (e : Rm16) (s : State) : Except Trap State := do
  let v ← loadRm16 s e .read
  .ok (v.2.setReg16 r v.1)

/-- The next instruction's boundary takes no interrupt (10_state.md R54, R65). -/
def State.inhibit (s : State) : State := { s with inhibitNext := true }

/-- MOV DS/ES,ew (R263). -/
def movToSeg (r : SegReg) (e : Rm16) (s : State) : Except Trap State := do
  let sel ← loadRm16 s e .read
  afterReads sel.2 (loadDataSeg sel.2 r sel.1)

/-- MOV SS,ew: interrupts are inhibited until after the next instruction (R263). -/
def movToSs (e : Rm16) (s : State) : Except Trap State := do
  let sel ← loadRm16 s e .read
  let t ← afterReads sel.2 (loadSs sel.2 sel.1)
  .ok t.inhibit

/-- XCHG of bytes: the memory operand is checked for write before it is read (R265); the bus is locked from the read to the write,
LOCK prefix or none (20_memory.md R142). -/
def xchgRm8 (e : Rm8) (r : Reg8) : State → Except Trap State := locked fun s => do
  let v ← loadRm8 s e .write
  .ok ((storeRm8 v.2 e (s.reg8 r)).setReg8 r v.1)

/-- XCHG of words. -/
def xchgRm16 (e : Rm16) (r : Reg16) : State → Except Trap State := locked fun s => do
  let v ← loadRm16 s e .write
  .ok ((storeRm16 v.2 e (s.reg16 r)).setReg16 r v.1)

/-! ### The stack (R266 to R276) -/

/-- POP rw: the popped value is written after SP is incremented (R270). -/
def popReg (r : Reg16) (s : State) : Except Trap State := do
  let p ← pop16 s
  .ok (p.2.setReg16 r p.1)

/-- POP mw: the check of the stack word, then that of the destination, then the read, the write and SP (R271; 20_memory.md R113). -/
def popRm (e : Rm16) (s : State) : Except Trap State := do
  require (stackFits s s.gpr.sp .read) (stackTrap s)
  checkRm16 s e .write
  let v := s.stackGet 0
  .ok (storeRm16 (v.2.setSp (s.gpr.sp + 2)) e v.1)

/-- PUSH mw: the check of the source, then that of the push, then the read and the write (R267; 20_memory.md R113). -/
def pushRm (e : Rm16) (s : State) : Except Trap State := do
  checkRm16 s e .read
  require (canPush s 1) (stackTrap s)
  let v := s.getRm16 e
  push16 v.2 v.1

/-- POP DS and POP ES (R272). -/
def popSeg (r : SegReg) (s : State) : Except Trap State := do
  let sel ← stackTop s
  let t ← afterReads sel.2 (loadDataSeg sel.2 r sel.1)
  .ok (t.setSp (s.gpr.sp + 2))

/-- POP SS (R272). -/
def popStackSeg (s : State) : Except Trap State := do
  let sel ← stackTop s
  let t ← afterReads sel.2 (loadSs sel.2 sel.1)
  .ok ((t.setSp (s.gpr.sp + 2)).inhibit)

/-- The eight words PUSHA pushes, SP as it was (R273). -/
def pushaWords (s : State) : List Word :=
  [s.gpr.ax, s.gpr.cx, s.gpr.dx, s.gpr.bx, s.gpr.sp, s.gpr.bp, s.gpr.si, s.gpr.di]

/-- PUSHA: all eight writes are checked before any is made (R273). -/
def pushaAll (s : State) : Except Trap State := do
  require (canPush s 8) (stackTrap s)
  pushAll s (pushaWords s)

/-- POPA: all eight reads are checked before any register changes; the word for SP is discarded (R274). -/
def popaAll (s : State) : Except Trap State := do
  require (canPop s 8) (stackTrap s)
  let di := s.stackGet 0
  let si := di.2.stackGet 2
  let bp := si.2.stackGet 4
  let dropped := bp.2.stackGet 6
  let bx := dropped.2.stackGet 8
  let dx := bx.2.stackGet 10
  let cx := dx.2.stackGet 12
  let ax := cx.2.stackGet 14
  .ok { ax.2 with gpr := {
    di := di.1, si := si.1, bp := bp.1, sp := s.gpr.sp + 16, bx := bx.1, dx := dx.1, cx := cx.1, ax := ax.1 } }

/-- POPF: as IRET loads FLAGS, at the current CPL (R276). -/
def popFlags (s : State) : Except Trap State := do
  let p ← pop16 s
  .ok (p.2.setFlags (if s.msw.pe then s.flags.restore p.1 s.cpl else s.flags.restoreReal p.1))

/-! ### Flag bytes (R277, R278) -/

/-- SAHF: SF, ZF, AF, PF and CF from AH. -/
def Flags.ofAh (f : Flags) (ah : Byte) : Flags :=
  { f with sf := ah.getLsbD 7, zf := ah.getLsbD 6, af := ah.getLsbD 4, pf := ah.getLsbD 2, cf := ah.getLsbD 0 }

/-! ### XLAT, LEA, LDS, LES (R279 to R281) -/

/-- XLAT: AL from the byte at BX + AL. -/
def xlatByte (s : State) : Except Trap State := do
  let v ← segRead8 s (s.overridden .ds) (s.gpr.bx + zext16 (s.reg8 .al))
  .ok (v.2.setReg8 .al v.1)

/-- LDS and LES: both words are read, the segment register loaded, then the offset register (R281). -/
def loadFarPointer (r : Reg16) (m : MemOp) (sr : SegReg) (s : State) : Except Trap State := do
  let p ← loadPointer s m
  let t ← afterReads p.st (loadDataSeg p.st sr p.sel)
  .ok (t.setReg16 r p.off)

/-! ### IN and OUT (R282, R283) -/

/-- IN AL from a port. -/
def inByte (p : Word) (s : State) : Except Trap State := do
  ioplGuard s
  .ok ((s.portRead8 p).2.setReg8 .al (s.portRead8 p).1)

/-- IN AX from a port. -/
def inWord (p : Word) (s : State) : Except Trap State := do
  ioplGuard s
  .ok ((s.portRead16 p).2.setReg16 .ax (s.portRead16 p).1)

/-- OUT of AL to a port. -/
def outByte (p : Word) (s : State) : Except Trap State := do
  ioplGuard s
  .ok (s.portWrite8 p (s.reg8 .al))

/-- OUT of AX to a port. -/
def outWord (p : Word) (s : State) : Except Trap State := do
  ioplGuard s
  .ok (s.portWrite16 p s.gpr.ax)

/-! ### The instructions -/

/-- MOV eb,rb (R261). -/
def execMovEbRb (e : Rm8) (r : Reg8) (s : State) : Host.Outcome State Fault Refusal :=
  runInstr s (movToRm8 e (s.reg8 r) s)

/-- MOV ew,rw (R261). -/
def execMovEwRw (e : Rm16) (r : Reg16) (s : State) : Host.Outcome State Fault Refusal :=
  runInstr s (movToRm16 e (s.reg16 r) s)

/-- MOV rb,eb (R261). -/
def execMovRbEb (r : Reg8) (e : Rm8) (s : State) : Host.Outcome State Fault Refusal := runInstr s (movToReg8 r e s)

/-- MOV rw,ew (R261). -/
def execMovRwEw (r : Reg16) (e : Rm16) (s : State) : Host.Outcome State Fault Refusal := runInstr s (movToReg16 r e s)

/-- MOV rb,db (R262). -/
def execMovRbDb (r : Reg8) (imm : Byte) (s : State) : Host.Outcome State Fault Refusal :=
  runInstr s (.ok (s.setReg8 r imm))

/-- MOV rw,dw (R262). -/
def execMovRwDw (r : Reg16) (imm : Word) (s : State) : Host.Outcome State Fault Refusal :=
  runInstr s (.ok (s.setReg16 r imm))

/-- MOV eb,db (R262). -/
def execMovEbDb (e : Rm8) (imm : Byte) (s : State) : Host.Outcome State Fault Refusal := runInstr s (movToRm8 e imm s)

/-- MOV ew,dw (R262). -/
def execMovEwDw (e : Rm16) (imm : Word) (s : State) : Host.Outcome State Fault Refusal :=
  runInstr s (movToRm16 e imm s)

/-- MOV AL,xb (R262). -/
def execMovAlXb (off : Word) (s : State) : Host.Outcome State Fault Refusal :=
  runInstr s (movToReg8 .al (.mem (.direct off)) s)

/-- MOV AX,xw (R262). -/
def execMovAxXw (off : Word) (s : State) : Host.Outcome State Fault Refusal :=
  runInstr s (movToReg16 .ax (.mem (.direct off)) s)

/-- MOV xb,AL (R262). -/
def execMovXbAl (off : Word) (s : State) : Host.Outcome State Fault Refusal :=
  runInstr s (movToRm8 (.mem (.direct off)) (s.reg8 .al) s)

/-- MOV xw,AX (R262). -/
def execMovXwAx (off : Word) (s : State) : Host.Outcome State Fault Refusal :=
  runInstr s (movToRm16 (.mem (.direct off)) s.gpr.ax s)

/-- MOV ew,ES (R264). -/
def execMovEwEs (e : Rm16) (s : State) : Host.Outcome State Fault Refusal := runInstr s (movToRm16 e s.es.sel s)

/-- MOV ew,CS (R264). -/
def execMovEwCs (e : Rm16) (s : State) : Host.Outcome State Fault Refusal := runInstr s (movToRm16 e s.cs.sel s)

/-- MOV ew,SS (R264). -/
def execMovEwSs (e : Rm16) (s : State) : Host.Outcome State Fault Refusal := runInstr s (movToRm16 e s.ss.sel s)

/-- MOV ew,DS (R264). -/
def execMovEwDs (e : Rm16) (s : State) : Host.Outcome State Fault Refusal := runInstr s (movToRm16 e s.ds.sel s)

/-- MOV ES,ew (R263). -/
def execMovEsEw (e : Rm16) (s : State) : Host.Outcome State Fault Refusal := runInstr s (movToSeg .es e s)

/-- MOV DS,ew (R263). -/
def execMovDsEw (e : Rm16) (s : State) : Host.Outcome State Fault Refusal := runInstr s (movToSeg .ds e s)

/-- MOV SS,ew (R263). -/
def execMovSsEw (e : Rm16) (s : State) : Host.Outcome State Fault Refusal := runInstr s (movToSs e s)

/-- XCHG eb,rb (R265). -/
def execXchgEbRb (e : Rm8) (r : Reg8) (s : State) : Host.Outcome State Fault Refusal := runInstr s (xchgRm8 e r s)

/-- XCHG ew,rw (R265). -/
def execXchgEwRw (e : Rm16) (r : Reg16) (s : State) : Host.Outcome State Fault Refusal := runInstr s (xchgRm16 e r s)

/-- XCHG AX,rw (R265). -/
def execXchgAxRw (r : Reg16) (s : State) : Host.Outcome State Fault Refusal := runInstr s (xchgRm16 (.reg r) .ax s)

/-- PUSH rw (R266). -/
def execPushRw (r : Reg16) (s : State) : Host.Outcome State Fault Refusal := runInstr s (push16 s (s.reg16 r))

/-- PUSH mw (R267). -/
def execPushMw (e : Rm16) (s : State) : Host.Outcome State Fault Refusal :=
  runInstr s (pushRm e s)

/-- PUSH dw (R268). -/
def execPushDw (imm : Word) (s : State) : Host.Outcome State Fault Refusal := runInstr s (push16 s imm)

/-- PUSH db (R268). -/
def execPushDb (imm : Byte) (s : State) : Host.Outcome State Fault Refusal := runInstr s (push16 s (sext16 imm))

/-- PUSH ES (R269). -/
def execPushEs (s : State) : Host.Outcome State Fault Refusal := runInstr s (push16 s s.es.sel)

/-- PUSH CS (R269). -/
def execPushCs (s : State) : Host.Outcome State Fault Refusal := runInstr s (push16 s s.cs.sel)

/-- PUSH SS (R269). -/
def execPushSs (s : State) : Host.Outcome State Fault Refusal := runInstr s (push16 s s.ss.sel)

/-- PUSH DS (R269). -/
def execPushDs (s : State) : Host.Outcome State Fault Refusal := runInstr s (push16 s s.ds.sel)

/-- POP rw (R270). -/
def execPopRw (r : Reg16) (s : State) : Host.Outcome State Fault Refusal := runInstr s (popReg r s)

/-- POP mw (R271). -/
def execPopMw (e : Rm16) (s : State) : Host.Outcome State Fault Refusal := runInstr s (popRm e s)

/-- POP ES (R272). -/
def execPopEs (s : State) : Host.Outcome State Fault Refusal := runInstr s (popSeg .es s)

/-- POP DS (R272). -/
def execPopDs (s : State) : Host.Outcome State Fault Refusal := runInstr s (popSeg .ds s)

/-- POP SS (R272). -/
def execPopSs (s : State) : Host.Outcome State Fault Refusal := runInstr s (popStackSeg s)

/-- PUSHA (R273). -/
def execPusha (s : State) : Host.Outcome State Fault Refusal := runInstr s (pushaAll s)

/-- POPA (R274). -/
def execPopa (s : State) : Host.Outcome State Fault Refusal := runInstr s (popaAll s)

/-- PUSHF (R275). -/
def execPushf (s : State) : Host.Outcome State Fault Refusal := runInstr s (push16 s s.flags.toWord)

/-- POPF (R276). -/
def execPopf (s : State) : Host.Outcome State Fault Refusal := runInstr s (popFlags s)

/-- LAHF (R277). -/
def execLahf (s : State) : Host.Outcome State Fault Refusal := runInstr s (.ok (s.setReg8 .ah (loByte s.flags.toWord)))

/-- SAHF (R278). -/
def execSahf (s : State) : Host.Outcome State Fault Refusal :=
  runInstr s (.ok (s.setFlags (s.flags.ofAh (s.reg8 .ah))))

/-- XLAT_XLATB (R279). -/
def execXlat (s : State) : Host.Outcome State Fault Refusal := runInstr s (xlatByte s)

/-- LEA rw,m (R280). -/
def execLea (r : Reg16) (e : Rm16) (s : State) : Host.Outcome State Fault Refusal :=
  match e with
  | .reg _ => undefinedOpcode s
  | .mem m => runInstr s (.ok (s.setReg16 r (s.effOffset m)))

/-- LDS rw,ed (R281). -/
def execLds (r : Reg16) (e : Rm16) (s : State) : Host.Outcome State Fault Refusal :=
  match e with
  | .reg _ => undefinedOpcode s
  | .mem m => runInstr s (loadFarPointer r m .ds s)

/-- LES rw,ed (R281). -/
def execLes (r : Reg16) (e : Rm16) (s : State) : Host.Outcome State Fault Refusal :=
  match e with
  | .reg _ => undefinedOpcode s
  | .mem m => runInstr s (loadFarPointer r m .es s)

/-- IN AL,db (R282). -/
def execInAlDb (imm : Byte) (s : State) : Host.Outcome State Fault Refusal := runInstr s (inByte (zext16 imm) s)

/-- IN AX,db (R282). -/
def execInAxDb (imm : Byte) (s : State) : Host.Outcome State Fault Refusal := runInstr s (inWord (zext16 imm) s)

/-- IN AL,DX (R282). -/
def execInAlDx (s : State) : Host.Outcome State Fault Refusal := runInstr s (inByte s.gpr.dx s)

/-- IN AX,DX (R282). -/
def execInAxDx (s : State) : Host.Outcome State Fault Refusal := runInstr s (inWord s.gpr.dx s)

/-- OUT db,AL (R283). -/
def execOutDbAl (imm : Byte) (s : State) : Host.Outcome State Fault Refusal := runInstr s (outByte (zext16 imm) s)

/-- OUT db,AX (R283). -/
def execOutDbAx (imm : Byte) (s : State) : Host.Outcome State Fault Refusal := runInstr s (outWord (zext16 imm) s)

/-- OUT DX,AL (R283). -/
def execOutDxAl (s : State) : Host.Outcome State Fault Refusal := runInstr s (outByte s.gpr.dx s)

/-- OUT DX,AX (R283). -/
def execOutDxAx (s : State) : Host.Outcome State Fault Refusal := runInstr s (outWord s.gpr.dx s)

end Sys2Proof.Machine
end

