-- ==== Sys2Proof/Machine/Control.lean ====
section
/-! DEFINITION. The control transfer instructions (spec/44_control_transfer.md R450 to R491) and, for their far forms in Protected
Mode, the procedures of spec/46_protected_transfer.md R553 to R588. -/

namespace Sys2Proof.Machine

/-! ### Near transfers (R451) -/

/-- `NearTarget`: in Protected Mode the target must not lie above the CS limit; then IP (R451). -/
def nearTo (s : State) (t : Word) : Except Trap State := do
  require (!(s.msw.pe && decide (s.cs.limit.toNat < t.toNat))) trapGp0
  .ok { s with ip := t }

/-- The target of a byte displacement (R450). -/
def State.relTarget (s : State) (disp : Byte) : Word := s.nextIp + sext16 disp

/-- A taken relative jump, or the next instruction: a jump not taken makes no check of its target (R451, R465). -/
def jumpIf (c : Bool) (disp : Byte) (s : State) : Host.Outcome State Fault Refusal :=
  if c then runJump s (nearTo s (s.relTarget disp)) else runInstr s (.ok s)

/-- Write CX. -/
def State.setCx (s : State) (v : Word) : State := { s with gpr := { s.gpr with cx := v } }

/-- LOOP, LOOPE, LOOPNE: CX less one, and a jump while it is not zero and the condition holds (R483 to R485). -/
def loopIf (c : Bool) (disp : Byte) (s : State) : Host.Outcome State Fault Refusal :=
  if decide (s.gpr.cx - 1 ≠ 0) && c then
    runJump s (do let t ← nearTo s (s.relTarget disp); .ok (t.setCx (s.gpr.cx - 1)))
  else runInstr s (.ok (s.setCx (s.gpr.cx - 1)))

/-- CALL near: the push is checked, then the target; then the push is made (R457, R458). -/
def nearCall (s : State) (t : Word) : Except Trap State := do
  require (canPush s 1) (stackTrap s)
  let u ← nearTo s t
  push16 u s.nextIp

/-- CALL near through an operand: the check of the operand, then that of the push, then the read; the target's check needs the value
read, and the push comes last (R458; 20_memory.md R113). -/
def nearCallRm (s : State) (e : Rm16) : Except Trap State := do
  checkRm16 s e .read
  require (canPush s 1) (stackTrap s)
  let t := s.getRm16 e
  afterReads t.2 (nearCall t.2 t.1)

/-- RET near, releasing bytes (R461, R462). -/
def nearRet (s : State) (release : Word) : Except Trap State := do
  let p ← pop16 s
  let t ← afterReads p.2 (nearTo p.2 p.1)
  .ok (t.setSp (t.gpr.sp + release))

/-! ### Conditions (R466 to R481) -/

/-- Below or equal (R472). -/
def Flags.condBe (f : Flags) : Bool := f.cf || f.zf

/-- Less (R478). -/
def Flags.condL (f : Flags) : Bool := f.sf != f.ov

/-- Less or equal (R480). -/
def Flags.condLe (f : Flags) : Bool := f.zf || f.condL

/-! ### Far transfers: what JMP and CALL share -/

/-- `CheckCodeTarget` (R553). -/
def checkCodeTarget (s : State) (sel : Word) (d : Desc) : Except Trap Unit := do
  require (isCode d.ar) (trapGp sel)
  if conforming d.ar then require (decide (dpl d.ar ≤ s.cpl)) (trapGp sel)
  else do
    require (decide (rpl sel ≤ s.cpl)) (trapGp sel)
    require (decide (dpl d.ar = s.cpl)) (trapGp sel)
  require (present d.ar) (trapNp sel)

/-- The privilege and presence of a gate or TSS named by a selector: the data-access rule (R552). -/
def gateAccess (s : State) (sel : Word) (ar : Byte) : Except Trap Unit := do
  require (decide (s.cpl ≤ dpl ar) && decide (rpl sel ≤ dpl ar)) (trapGp sel)
  require (present ar) (trapNp sel)

/-- `TaskGateTarget` (R588): a null TSS selector raises #GP(0). -/
def taskGateTarget (s : State) (gsel : Word) (g : Desc) : Except Trap (Desc × State) := do
  gateAccess s gsel g.ar
  let t := g.gateSel
  require (!selTi t) (trapGp t)
  require (!nullSel t) (trapGp t)
  let (b, u) ← fetchOr s t (trapGp t)
  afterReads u do
    require (isSys b.ar 1) (trapGp t)
    require (present b.ar) (trapNp t)
    .ok (b, u)

/-- A TSS named directly: privilege, available, in the GDT, present (R570, R572, R130). -/
def tssTarget (s : State) (sel : Word) (d : Desc) : Except Trap Unit := do
  require (decide (s.cpl ≤ dpl d.ar) && decide (rpl sel ≤ dpl d.ar)) (trapGp sel)
  require (isSys d.ar 1 && !selTi sel) (trapGp sel)
  require (present d.ar) (trapNp sel)

/-- A task switch made by an instruction, with the incoming IP checked (R590). -/
def switchTo (s : State) (t : Word) (b : Desc) (kind : SwitchKind) : Except Failure State := do
  let u ← switchTasks s t b kind s.nextIp false
  checkNewIp u false

/-! ### Far JMP -/

/-- A direct jump to a code segment (R570). -/
def jumpCode (s : State) (sel : Word) (d : Desc) (off : Word) : Except Trap State := do
  checkCodeTarget s sel d
  require (decide (off.toNat ≤ d.limit.toNat)) trapGp0
  .ok (commitCs s sel d off s.cpl)

/-- `JumpGate` (R571). -/
def jumpGate (s : State) (gsel : Word) (g : Desc) : Except Trap State := do
  gateAccess s gsel g.ar
  let csel := g.gateSel
  require (!nullSel csel) trapGp0
  let (c, u) ← fetchOr s csel (trapGp csel)
  afterReads u do
    require (isCode c.ar) (trapGp csel)
    require (conforming c.ar || decide (dpl c.ar = s.cpl)) (trapGp csel)
    require (!conforming c.ar || decide (dpl c.ar ≤ s.cpl)) (trapGp csel)
    require (present c.ar) (trapNp csel)
    require (decide (g.gateOff.toNat ≤ c.limit.toNat)) trapGp0
    .ok (commitCs u csel c g.gateOff s.cpl)

/-- A far JMP: the real-mode load of CS and IP (R455), or `FarJump` (R570). -/
def farJump (s : State) (sel off : Word) : Except Failure State :=
  if !s.msw.pe then .ok { s with cs := realCache sel, ip := off }
  else do
    failIn s (require (!nullSel sel) trapGp0)
    let (d, u) ← failIn s (fetchOr s sel (trapGp sel))
    if isCode d.ar then failIn u (jumpCode u sel d off)
    else if isSys d.ar 4 then failIn u (jumpGate u sel d)
    else if isSys d.ar 5 then do
      let (b, v) ← failIn u (taskGateTarget u sel d)
      switchTo v d.gateSel b .jump
    else if isSys d.ar 1 || isSys d.ar 3 then do
      failIn u (tssTarget u sel d)
      switchTo u sel d .jump
    else failIn u (.error (trapGp sel))

/-! ### Far CALL -/

/-- The return link on the current stack: CS, then the next IP (R459, R572). -/
def pushReturn (s : State) : Except Trap State := do
  require (canPush s 2) (stackTrap s)
  pushAll s [s.cs.sel, s.nextIp]

/-- A call at the same level of a checked code segment: room for the return link, the offset, the link, CS (R572, R573). -/
def callSame (s : State) (sel : Word) (d : Desc) (off : Word) : Except Trap State := do
  require (canPush s 2) (stackTrap s)
  require (decide (off.toNat ≤ d.limit.toNat)) trapGp0
  let t ← pushReturn s
  .ok (commitCs t sel d off s.cpl)

/-- A direct call of a code segment (R572). -/
def callCode (s : State) (sel : Word) (d : Desc) (off : Word) : Except Trap State := do
  checkCodeTarget s sel d
  callSame s sel d off

/-- The `n` parameter words at SS:SP + k, SS:SP + k + 2, … read in order, and the state after the reads (R573). -/
def paramWords (s : State) (k : Nat) : Nat → List Word × State
  | 0 => ([], s)
  | n + 1 =>
    let w := s.stackGet k
    let rest := paramWords w.2 (k + 2) n
    (w.1 :: rest.1, rest.2)

/-- A call gate to more privilege (R573). -/
def callGateInner (s : State) (csel : Word) (c : Desc) (off : Word) (wc : Nat) : Except Trap State := do
  let k ← innerStack s (dpl c.ar) false
  afterReads k.st do
    require (k.hasRoom (2 * wc + 8)) trapSs0
    require (decide (off.toNat ≤ c.limit.toNat)) trapGp0
    require (canPop s wc) trapSs0
    let ps := paramWords k.st 0 wc
    pushAll (commitCs (commitSs ps.2 k.sel k.desc k.sp) csel c off (dpl c.ar))
      ([s.ss.sel, s.gpr.sp] ++ ps.1.reverse ++ [s.cs.sel, s.nextIp])

/-- `CallGate` (R573). -/
def callGate (s : State) (gsel : Word) (g : Desc) : Except Trap State := do
  gateAccess s gsel g.ar
  let csel := g.gateSel
  require (!nullSel csel) trapGp0
  let (c, u) ← fetchOr s csel (trapGp csel)
  afterReads u do
    require (isCode c.ar) (trapGp csel)
    require (decide (dpl c.ar ≤ s.cpl)) (trapGp csel)
    require (present c.ar) (trapNp csel)
    if !conforming c.ar && decide (dpl c.ar < s.cpl) then callGateInner u csel c g.gateOff g.gateWords
    else callSame u csel c g.gateOff

/-- A far CALL: in Real Address Mode two pushes and the load of CS and IP (R459), else `FarCall` (R572). -/
def farCall (s : State) (sel off : Word) : Except Failure State :=
  if !s.msw.pe then do
    let t ← failIn s (pushReturn s)
    .ok { t with cs := realCache sel, ip := off }
  else do
    failIn s (require (!nullSel sel) trapGp0)
    let (d, u) ← failIn s (fetchOr s sel (trapGp sel))
    if isCode d.ar then failIn u (callCode u sel d off)
    else if isSys d.ar 4 then failIn u (callGate u sel d)
    else if isSys d.ar 5 then do
      let (b, v) ← failIn u (taskGateTarget u sel d)
      switchTo v d.gateSel b .nest
    else if isSys d.ar 1 || isSys d.ar 3 then do
      failIn u (tssTarget u sel d)
      switchTo u sel d .nest
    else failIn u (.error (trapGp sel))

/-! ### Far RET -/

/-- A far return to the same level, its CS selector read (R576). -/
def retSame (s : State) (sel release : Word) : Except Trap State := do
  let (c, u) ← returnCode s sel
  afterReads u do
    require (canPop s 1) trapSs0
    let off := u.stackGet 0
    afterReads off.2 do
      require (decide (off.1.toNat ≤ c.limit.toNat)) trapGp0
      .ok ((commitCs off.2 sel c off.1 s.cpl).setSp (s.gpr.sp + 4 + release))

/-- A far return to an outer level, its CS selector read: the whole block of 8 + release bytes must lie within the stack; the stack
pointer and its segment are read first, IP once that segment has passed its checks (R576). -/
def retOuter (s : State) (sel release : Word) : Except Trap State := do
  require (match segCheck s .ss s.gpr.sp (8 + release.toNat) .read with | .ok _ => true | .error _ => false) trapSs0
  let (c, u) ← returnCode s sel
  let nsp := u.stackGet (4 + release.toNat)
  let nss := nsp.2.stackGet (6 + release.toNat)
  afterReads nss.2 do
    let (d, v) ← returnStack nss.2 nss.1 (rpl sel)
    let off := v.stackGet 0
    afterReads off.2 do
      require (decide (off.1.toNat ≤ c.limit.toNat)) trapGp0
      let t := commitSs (commitCs off.2 sel c off.1 (rpl sel)) nss.1 d (nsp.1 + release)
      .ok (nullIfInaccessible (nullIfInaccessible t .es) .ds)

/-- `FarReturn` (R576). -/
def farReturnProtected (s : State) (release : Word) : Except Trap State := do
  require (stackFits s (s.gpr.sp + 2) .read) trapSs0
  let sel := s.stackGet 2
  afterReads sel.2 do
    require (decide (s.cpl ≤ rpl sel.1)) (trapGp sel.1)
    if rpl sel.1 = s.cpl then retSame sel.2 sel.1 release else retOuter sel.2 sel.1 release

/-- A far return in Real Address Mode (R463, R464). -/
def farReturnReal (s : State) (release : Word) : Except Trap State := do
  require (canPop s 2) trapGp0
  let off := s.stackGet 0
  let sel := off.2.stackGet 2
  .ok ({ sel.2 with ip := off.1, cs := realCache sel.1 }.setSp (s.gpr.sp + 4 + release))

/-- A far return, in either mode. -/
def farReturn (s : State) (release : Word) : Except Failure State :=
  failIn s (if s.msw.pe then farReturnProtected s release else farReturnReal s release)

/-- A far JMP through the pointer of an `ed` operand (R456). -/
def farJumpIndirect (s : State) (m : MemOp) : Except Failure State := do
  let p ← failIn s (loadPointer s m)
  farJump p.st p.sel p.off

/-- A far CALL through the pointer of an `ed` operand: in Real Address Mode, where the return link goes on the current stack whatever the
pointer says, the pushes too are checked before it is read (R460; 20_memory.md R113). -/
def farCallIndirect (s : State) (m : MemOp) : Except Failure State := do
  failIn s (checkPointer s m)
  failIn s (require (s.msw.pe || canPush s 2) (stackTrap s))
  let p := s.getPointer m
  farCall p.st p.sel p.off

/-! ### INT -/

/-- A software interrupt, with the LOCK check of a prefix first (R486). -/
def runInt (v : Byte) (s : State) : Host.Outcome State Fault Refusal :=
  match lockGuard s with
  | .ok _ => .next (softwareInterrupt s v)
  | .error t => .next (raiseAt s t)

/-! ### The instructions -/

/-- JMP cb (R452). -/
def execJmpCb (disp : Byte) (s : State) : Host.Outcome State Fault Refusal := runJump s (nearTo s (s.relTarget disp))

/-- JMP cw (R453). -/
def execJmpCw (disp : Word) (s : State) : Host.Outcome State Fault Refusal := runJump s (nearTo s (s.nextIp + disp))

/-- JMP ew (R454). -/
def execJmpEw (e : Rm16) (s : State) : Host.Outcome State Fault Refusal :=
  runJump s (do let t ← loadRm16 s e .read; afterReads t.2 (nearTo t.2 t.1))

/-- JMP cd (R455). -/
def execJmpCd (off : Word) (sel : Word) (s : State) : Host.Outcome State Fault Refusal := runFar s (farJump s sel off)

/-- JMP ed (R456). -/
def execJmpEd (e : Rm16) (s : State) : Host.Outcome State Fault Refusal :=
  match e with
  | .reg _ => undefinedOpcode s
  | .mem m => runFar s (farJumpIndirect s m)

/-- CALL cw (R457). -/
def execCallCw (disp : Word) (s : State) : Host.Outcome State Fault Refusal := runJump s (nearCall s (s.nextIp + disp))

/-- CALL ew (R458). -/
def execCallEw (e : Rm16) (s : State) : Host.Outcome State Fault Refusal :=
  runJump s (nearCallRm s e)

/-- CALL cd (R459). -/
def execCallCd (off : Word) (sel : Word) (s : State) : Host.Outcome State Fault Refusal := runFar s (farCall s sel off)

/-- CALL ed (R460). -/
def execCallEd (e : Rm16) (s : State) : Host.Outcome State Fault Refusal :=
  match e with
  | .reg _ => undefinedOpcode s
  | .mem m => runFar s (farCallIndirect s m)

/-- RET (R461). -/
def execRet (s : State) : Host.Outcome State Fault Refusal := runJump s (nearRet s 0)

/-- RET dw (R462). -/
def execRetDw (imm : Word) (s : State) : Host.Outcome State Fault Refusal := runJump s (nearRet s imm)

/-- RET (R463). -/
def execRetf (s : State) : Host.Outcome State Fault Refusal := runFar s (farReturn s 0)

/-- RET dw (R464). -/
def execRetfDw (imm : Word) (s : State) : Host.Outcome State Fault Refusal := runFar s (farReturn s imm)

/-- JO cb (R466). -/
def execJo (disp : Byte) (s : State) : Host.Outcome State Fault Refusal := jumpIf s.flags.ov disp s

/-- JNO cb (R467). -/
def execJno (disp : Byte) (s : State) : Host.Outcome State Fault Refusal := jumpIf (!s.flags.ov) disp s

/-- JB_JC_JNAE cb (R468). -/
def execJb (disp : Byte) (s : State) : Host.Outcome State Fault Refusal := jumpIf s.flags.cf disp s

/-- JAE_JNB_JNC cb (R469). -/
def execJae (disp : Byte) (s : State) : Host.Outcome State Fault Refusal := jumpIf (!s.flags.cf) disp s

/-- JE_JZ cb (R470). -/
def execJe (disp : Byte) (s : State) : Host.Outcome State Fault Refusal := jumpIf s.flags.zf disp s

/-- JNE_JNZ cb (R471). -/
def execJne (disp : Byte) (s : State) : Host.Outcome State Fault Refusal := jumpIf (!s.flags.zf) disp s

/-- JBE_JNA cb (R472). -/
def execJbe (disp : Byte) (s : State) : Host.Outcome State Fault Refusal := jumpIf s.flags.condBe disp s

/-- JA_JNBE cb (R473). -/
def execJa (disp : Byte) (s : State) : Host.Outcome State Fault Refusal := jumpIf (!s.flags.condBe) disp s

/-- JS cb (R474). -/
def execJs (disp : Byte) (s : State) : Host.Outcome State Fault Refusal := jumpIf s.flags.sf disp s

/-- JNS cb (R475). -/
def execJns (disp : Byte) (s : State) : Host.Outcome State Fault Refusal := jumpIf (!s.flags.sf) disp s

/-- JP_JPE cb (R476). -/
def execJp (disp : Byte) (s : State) : Host.Outcome State Fault Refusal := jumpIf s.flags.pf disp s

/-- JNP_JPO cb (R477). -/
def execJnp (disp : Byte) (s : State) : Host.Outcome State Fault Refusal := jumpIf (!s.flags.pf) disp s

/-- JL_JNGE cb (R478). -/
def execJl (disp : Byte) (s : State) : Host.Outcome State Fault Refusal := jumpIf s.flags.condL disp s

/-- JGE_JNL cb (R479). -/
def execJge (disp : Byte) (s : State) : Host.Outcome State Fault Refusal := jumpIf (!s.flags.condL) disp s

/-- JLE_JNG cb (R480). -/
def execJle (disp : Byte) (s : State) : Host.Outcome State Fault Refusal := jumpIf s.flags.condLe disp s

/-- JG_JNLE cb (R481). -/
def execJg (disp : Byte) (s : State) : Host.Outcome State Fault Refusal := jumpIf (!s.flags.condLe) disp s

/-- JCXZ cb (R482). -/
def execJcxz (disp : Byte) (s : State) : Host.Outcome State Fault Refusal := jumpIf (decide (s.gpr.cx = 0)) disp s

/-- LOOP cb (R483). -/
def execLoop (disp : Byte) (s : State) : Host.Outcome State Fault Refusal := loopIf true disp s

/-- LOOPE_LOOPZ cb (R484). -/
def execLoope (disp : Byte) (s : State) : Host.Outcome State Fault Refusal := loopIf s.flags.zf disp s

/-- LOOPNE_LOOPNZ cb (R485). -/
def execLoopne (disp : Byte) (s : State) : Host.Outcome State Fault Refusal := loopIf (!s.flags.zf) disp s

/-- INT db (R486). -/
def execIntDb (imm : Byte) (s : State) : Host.Outcome State Fault Refusal := runInt imm s

/-- INT_3 (R487). -/
def execInt3 (s : State) : Host.Outcome State Fault Refusal := runInt 3 s

/-- INTO (R488). -/
def execInto (s : State) : Host.Outcome State Fault Refusal := if s.flags.ov then runInt 4 s else runInstr s (.ok s)

/-- IRET (R489). -/
def execIret (s : State) : Host.Outcome State Fault Refusal := runFar s (interruptReturn s)

end Sys2Proof.Machine
end

