-- ==== Sys2Proof/Machine/FlagMisc.lean ====
section
/-! DEFINITION. Flag control, NOP, ENTER, LEAVE, BOUND, HLT, WAIT, ESC and the prefix bytes (spec/45_flag_misc.md R510 to R533;
spec/30_encoding.md R230 to R233). -/

namespace Sys2Proof.Machine

/-! ### Flag control (R510 to R518) -/

/-- Set or clear CF. -/
def Flags.withCf (f : Flags) (b : Bool) : Flags := { f with cf := b }

/-- Set or clear DF. -/
def Flags.withDf (f : Flags) (b : Bool) : Flags := { f with df := b }

/-- Set or clear IF. -/
def Flags.withIf (f : Flags) (b : Bool) : Flags := { f with ie := b }

/-- CLI: the IOPL check, then IF cleared (R516). -/
def clearIf (s : State) : Except Trap State := do
  ioplGuard s
  .ok (s.setFlags (s.flags.withIf false))

/-- STI: the IOPL check, then IF set; with the platform's `stiDelay`, INTR is not taken at the boundary that ends an STI that
changed IF (R518, D36). -/
def setIf (s : State) : Except Trap State := do
  ioplGuard s
  .ok { s with flags := s.flags.withIf true, stiShadow := s.platform.stiDelay && !s.flags.ie }

/-! ### ENTER, LEAVE, BOUND (R525 to R528) -/

/-- The words ENTER pushes: the old BP, and above level 0 the display's (R525). -/
def enterWords (l : Nat) : Nat := if l = 0 then 1 else l + 1

/-- The `n` display words below SS:BP can be read (R525). -/
def displayFits (s : State) (bp : Word) : Nat → Except Trap Unit
  | 0 => .ok ()
  | n + 1 => do
    segCheck s .ss (bp - 2) 2 .read
    displayFits s (bp - 2) n

/-- Copy display words: `n` times BP less two, and the word at SS:BP pushed (R525). -/
def copyDisplay (s : State) (bp : Word) : Nat → Except Trap State
  | 0 => .ok s
  | n + 1 => do
    let w ← segRead16 s .ss (bp - 2)
    let t ← push16 w.2 w.1
    copyDisplay t (bp - 2) n

/-- The display of a level above 0: the words copied from the caller's, then the frame pointer (R525). -/
def pushDisplay (s : State) (bp fp : Word) : Nat → Except Trap State
  | 0 => .ok s
  | n + 1 => do
    let t ← copyDisplay s bp n
    push16 t fp

/-- The test of the final SP, in Protected Mode and only when storage is allocated (R525, D38). -/
def enterRoom (s : State) (size sp : Word) : Except Trap Unit :=
  if s.msw.pe && decide (size ≠ 0) then
    require (stackFits s sp .write) trapSs0
  else .ok ()

/-- ENTER: level modulo 32; every check precedes every write, and BP and SP change once, at the end (R525; 20_memory.md R119). -/
def enterFrame (size : Word) (level : Byte) (s : State) : Except Trap State := do
  let l := level.toNat % 32
  require (canPush s (enterWords l)) (stackTrap s)
  displayFits s s.gpr.bp (l - 1)
  enterRoom s size (s.gpr.sp - BitVec.ofNat 16 (2 * enterWords l) - size)
  let t ← push16 s s.gpr.bp
  let u ← pushDisplay t s.gpr.bp t.gpr.sp l
  .ok { u with gpr := { u.gpr with bp := t.gpr.sp, sp := u.gpr.sp - size } }

/-- LEAVE (R527). -/
def leaveFrame (s : State) : Except Trap State := do
  require (stackFits s s.gpr.bp .read) (stackTrap s)
  let v := s.segGet16 .ss s.gpr.bp
  .ok { v.2 with gpr := { s.gpr with bp := v.1, sp := s.gpr.bp + 2 } }

/-- BOUND: its operand is checked as one 4-byte unit, in either mode; interrupt 5 unless the register lies within the signed
bounds (R528). -/
def boundCheck (r : Reg16) (m : MemOp) (s : State) : Except Trap State := do
  segCheck s (s.memSeg m) (s.effOffset m) 4 .read
  let lo := s.segGet16 (s.memSeg m) (s.effOffset m)
  let hi := lo.2.segGet16 (s.memSeg m) (s.effOffset m + 2)
  afterReads hi.2 (require (decide (lo.1.toInt ≤ (s.reg16 r).toInt) && decide ((s.reg16 r).toInt ≤ hi.1.toInt)) { vector := 5 })
  .ok hi.2

/-! ### HLT, WAIT, ESC (R530 to R533) -/

/-- HLT: privileged; the run state becomes halted (R530). -/
def haltMachine (s : State) : Except Trap State := do
  privilegeGuard s
  .ok { s with run := .halted }

/-- Exception 7, #NM. -/
def trapNm : Trap := { vector := 7 }

/-- Exception 16, #MF. -/
def trapMf : Trap := { vector := 16 }

/-- WAIT and ESC while BUSY is active: IP stays at the instruction, and interrupts are taken at this boundary (D15). -/
def State.busyWait (s : State) : State := { s with pfx := {}, tfAtStart := false }

/-- What follows the #NM test of WAIT and ESC: BUSY, ERROR, then the LOCK check of a prefix and the effect (R531, R532, R654). -/
def afterBusy (s : State) (waits testError : Bool) (effect : Except Trap State) : Host.Outcome State Fault Refusal :=
  if s.pins.busy && waits then .next s.busyWait
  else if s.pins.error && testError then .next (raiseAt s trapMf)
  else runInstr s effect

/-- The type check of an ESC's memory operand: a segment that is neither readable nor writable fails for either direction; where
only one of the two is allowed, the opcode's direction decides, which no source gives (R112, R532; DESIGN CHOICE of the form,
notes/assumptions/23.md). -/
def escAllowed (opcode : BitVec 6) (ar : Byte) : Bool :=
  if readable ar then writable ar || !Config.escStores opcode
  else writable ar && Config.escStores opcode

/-- The checks of the first word of an ESC's memory operand: validity, type, limit; the end of the segment in Real Address Mode
(R110, R532, D37). -/
def escCheck (s : State) (opcode : BitVec 6) (r : SegReg) (off : Word) : Except Trap Unit :=
  if s.msw.pe then
    if (s.seg r).ar = 0 then .error (segTrap r)
    else if !escAllowed opcode (s.seg r).ar then .error trapGp0
    else if !withinLimit (s.seg r) off 2 then .error (segTrap r)
    else .ok ()
  else if off.toNat + 2 ≤ 0x10000 then .ok () else .error trapGp0

/-- The escape opcode: three bits of the opcode byte and the reg field (30_encoding.md R243). -/
def escOpcode (op ext : BitVec 3) : BitVec 6 := (op ++ ext : BitVec (3 + 3))

/-- The opcode bytes of an ESC, the ModRM byte the second (30_encoding.md R243). -/
def escBytes (op ext : BitVec 3) (e : RM (BitVec 3)) : Byte × Byte :=
  match encode (.esc op ext e) with
  | b :: m :: _ => (b, m)
  | _ => (0, 0)

/-- What of an operand tells escape opcodes apart besides the six bits: the r/m field of a register form. -/
def escForm : RM (BitVec 3) → Option (BitVec 3)
  | .reg r => some r
  | .mem _ => none

/-- Hand an ESC to the processor extension, by a bus cycle of its own: the log records it, and the environment may answer in AX, as
FSTSW AX does (R532, D37; 70_reset_and_hazards.md R742 step 7; DESIGN CHOICE of the form, notes/assumptions/46.md). -/
def State.escape (s : State) (ev : EscEvent) : State :=
  if s.cycle.dead then s.cycle
  else { s.cycle with
    escLog := s.escLog ++ [ev]
    npxReplies := s.npxReplies.tail
    gpr := { s.gpr with ax := (s.npxReplies.head?.join).getD s.gpr.ax } }

/-- ESC once neither EM nor TS is set and BUSY and ERROR are out of the way (R532). -/
def escSend (op ext : BitVec 3) (e : RM (BitVec 3)) (s : State) : Except Trap State :=
  match e with
  | .reg _ => .ok (s.escape (.escape (escBytes op ext e).1 (escBytes op ext e).2 none))
  | .mem m => do
    escCheck s (escOpcode op ext) (s.memSeg m) (s.effOffset m)
    .ok (s.escape (.escape (escBytes op ext e).1 (escBytes op ext e).2 (some (s.memSeg m, s.effOffset m))))

/-! ### Prefix bytes (30_encoding.md R230 to R233) -/

/-- A prefix has been read: IP stays at the first byte of the whole instruction. -/
def State.withPrefix (s : State) (p : Prefixes) : Host.Outcome State Fault Refusal :=
  .next { s with pfx := { p with count := s.pfx.count + 1 } }

/-! ### The instructions -/

/-- CLC (R511). -/
def execClc (s : State) : Host.Outcome State Fault Refusal := runInstr s (.ok (s.setFlags (s.flags.withCf false)))

/-- STC (R512). -/
def execStc (s : State) : Host.Outcome State Fault Refusal := runInstr s (.ok (s.setFlags (s.flags.withCf true)))

/-- CMC (R513). -/
def execCmc (s : State) : Host.Outcome State Fault Refusal :=
  runInstr s (.ok (s.setFlags (s.flags.withCf (!s.flags.cf))))

/-- CLD (R514). -/
def execCld (s : State) : Host.Outcome State Fault Refusal := runInstr s (.ok (s.setFlags (s.flags.withDf false)))

/-- STD (R515). -/
def execStd (s : State) : Host.Outcome State Fault Refusal := runInstr s (.ok (s.setFlags (s.flags.withDf true)))

/-- CLI (R516). -/
def execCli (s : State) : Host.Outcome State Fault Refusal := runInstr s (clearIf s)

/-- STI (R518). -/
def execSti (s : State) : Host.Outcome State Fault Refusal := runInstr s (setIf s)

/-- NOP (R520). -/
def execNop (s : State) : Host.Outcome State Fault Refusal := runInstr s (.ok s)

/-- ENTER dw,db (R525). -/
def execEnter (size : Word) (level : Byte) (s : State) : Host.Outcome State Fault Refusal :=
  runInstr s (enterFrame size level s)

/-- LEAVE (R527). -/
def execLeave (s : State) : Host.Outcome State Fault Refusal := runInstr s (leaveFrame s)

/-- BOUND rw,md (R528). -/
def execBound (r : Reg16) (e : Rm16) (s : State) : Host.Outcome State Fault Refusal :=
  match e with
  | .reg _ => undefinedOpcode s
  | .mem m => runInstr s (boundCheck r m s)

/-- HLT (R530). -/
def execHlt (s : State) : Host.Outcome State Fault Refusal := runInstr s (haltMachine s)

/-- WAIT (R531). -/
def execWait (s : State) : Host.Outcome State Fault Refusal :=
  if s.msw.mp && s.msw.ts then .next (raiseAt s trapNm)
  else afterBusy s true (!s.msw.em) (.ok s)

/-- ESC (R532).  Which ESC instructions neither test ERROR nor wait for BUSY the spec names by mnemonic, and their encodings are in
no source (R69, R532, R689): an opaque constant of Config says it of each (DESIGN CHOICE of the form, notes/assumptions/45.md). -/
def execEsc (op : BitVec 3) (ext : BitVec 3) (e : RM (BitVec 3)) (s : State) : Host.Outcome State Fault Refusal :=
  if s.msw.em || s.msw.ts then .next (raiseAt s trapNm)
  else afterBusy s (!Config.escSkipsBusy (escOpcode op ext) (escForm e)) (!Config.escSkipsError (escOpcode op ext) (escForm e))
    (escSend op ext e s)

/-- ES: (R231). -/
def execSegEs (s : State) : Host.Outcome State Fault Refusal := s.withPrefix { s.pfx with seg := some .es }

/-- CS: (R231). -/
def execSegCs (s : State) : Host.Outcome State Fault Refusal := s.withPrefix { s.pfx with seg := some .cs }

/-- SS: (R231). -/
def execSegSs (s : State) : Host.Outcome State Fault Refusal := s.withPrefix { s.pfx with seg := some .ss }

/-- DS: (R231). -/
def execSegDs (s : State) : Host.Outcome State Fault Refusal := s.withPrefix { s.pfx with seg := some .ds }

/-- LOCK (R521). -/
def execLock (s : State) : Host.Outcome State Fault Refusal := s.withPrefix { s.pfx with lock := true }

/-- REPNE_REPNZ (R431). -/
def execRepne (s : State) : Host.Outcome State Fault Refusal := s.withPrefix { s.pfx with rep := some .repne }

/-- REP_REPE_REPZ (R431). -/
def execRep (s : State) : Host.Outcome State Fault Refusal := s.withPrefix { s.pfx with rep := some .repe }

end Sys2Proof.Machine
end

