-- ==== Sys2Proof/Machine/Logic.lean ====
section
/-! DEFINITION. The logical, shift and rotate instructions (spec/42_logic_shift.md R380 to R396): AND, OR, XOR, NOT, TEST, SAL/SHL,
SHR, SAR, ROL, ROR, RCL, RCR. -/

namespace Sys2Proof.Machine

/-! ### TEST (R385) -/

/-- The flags of `a and b`; nothing else is written. -/
def testCompute {n : Nat} (s : State) (a b : BitVec n) : State := (logicResult s (a &&& b)).2

/-- TEST of a byte operand, read only. -/
def testRm8 (e : Rm8) (v : Byte) (s : State) : Except Trap State := do
  let a ← loadRm8 s e .read
  .ok (testCompute a.2 a.1 v)

/-- TEST of a word operand, read only. -/
def testRm16 (e : Rm16) (v : Word) (s : State) : Except Trap State := do
  let a ← loadRm16 s e .read
  .ok (testCompute a.2 a.1 v)

/-! ### Shifts and rotates (R386 to R396) -/

/-- The seven operations of the shift group. -/
inductive ShiftOp where
  | rol | ror | rcl | rcr | shl | shr | sar
deriving DecidableEq, Repr

/-- One one-bit step: the operand and CF (R389 to R396). -/
def shiftStep {n : Nat} (op : ShiftOp) (x : BitVec n) (cf : Bool) : BitVec n × Bool :=
  match op with
  | .rol => ((x <<< 1) ||| bit n x.msb, x.msb)
  | .ror => ((x >>> 1) ||| (bit n (x.getLsbD 0) <<< (n - 1)), x.getLsbD 0)
  | .rcl => ((x <<< 1) ||| bit n cf, x.msb)
  | .rcr => ((x >>> 1) ||| (bit n cf <<< (n - 1)), x.getLsbD 0)
  | .shl => (x <<< 1, x.msb)
  | .shr => (x >>> 1, x.getLsbD 0)
  | .sar => (x.sshiftRight 1, x.getLsbD 0)

/-- `c` repetitions of the one-bit step (R386). -/
def shiftTimes {n : Nat} (op : ShiftOp) : Nat → BitVec n → Bool → BitVec n × Bool
  | 0, x, cf => (x, cf)
  | c + 1, x, cf => shiftTimes op c (shiftStep op x cf).1 (shiftStep op x cf).2

/-- The operations that shift left (R388). -/
def ShiftOp.left : ShiftOp → Bool
  | .rol => true | .rcl => true | .shl => true | .ror => false | .rcr => false | .shr => false | .sar => false

/-- The operations that change only CF and OF (R392). -/
def ShiftOp.rotates : ShiftOp → Bool
  | .rol => true | .ror => true | .rcl => true | .rcr => true | .shl => false | .shr => false | .sar => false

/-- OF after a single-bit operation: left, result msb xor CF; right, the two top bits of the result (R388). -/
def shiftOverflow {n : Nat} (op : ShiftOp) (r : BitVec n) (cf : Bool) : Bool :=
  if op.left then r.msb ^^ cf else r.getLsbD (n - 1) ^^ r.getLsbD (n - 2)

/-- The count is masked to five bits, not reduced modulo the width (R386). -/
def maskCount (raw : Byte) : Nat := raw.toNat % 32

/-- Result and state after a shift or rotate by a raw count.  Count 0 changes no flag (R387); OF is free for a count above 1
(R388); AF is free after a shift (R389 to R391) and unchanged after a rotate (R392). -/
def shiftCompute {n : Nat} (op : ShiftOp) (s : State) (x : BitVec n) (raw : Byte) : BitVec n × State :=
  let c := maskCount raw
  if c = 0 then (x, s)
  else
    let r := shiftTimes op c x s.flags.cf
    let ov := if c = 1 then shiftOverflow op r.1 r.2 else s.freeFlag 0
    let f := if op.rotates then { s.flags with cf := r.2, ov := ov }
      else { s.flags.ofResult r.1 with cf := r.2, ov := ov, af := s.freeFlag 1 }
    (r.1, (s.setFlags f).drew 2)

/-- A shift or rotate of a byte operand: checked for write, read, written (R386, R387). -/
def shiftRm8 (op : ShiftOp) (e : Rm8) (raw : Byte) (s : State) : Except Trap State := do
  let x ← loadRm8 s e .write
  let r := shiftCompute op x.2 x.1 raw
  .ok (storeRm8 r.2 e r.1)

/-- A shift or rotate of a word operand. -/
def shiftRm16 (op : ShiftOp) (e : Rm16) (raw : Byte) (s : State) : Except Trap State := do
  let x ← loadRm16 s e .write
  let r := shiftCompute op x.2 x.1 raw
  .ok (storeRm16 r.2 e r.1)

/-- `op eb,db`. -/
def shiftEbDb (op : ShiftOp) (e : Rm8) (imm : Byte) (s : State) := runInstr s (shiftRm8 op e imm s)

/-- `op ew,db`. -/
def shiftEwDb (op : ShiftOp) (e : Rm16) (imm : Byte) (s : State) := runInstr s (shiftRm16 op e imm s)

/-- `op eb,1`. -/
def shiftEb1 (op : ShiftOp) (e : Rm8) (s : State) := runInstr s (shiftRm8 op e 1 s)

/-- `op ew,1`. -/
def shiftEw1 (op : ShiftOp) (e : Rm16) (s : State) := runInstr s (shiftRm16 op e 1 s)

/-- `op eb,CL`: the count is read before the operand is written. -/
def shiftEbCl (op : ShiftOp) (e : Rm8) (s : State) := runInstr s (shiftRm8 op e (s.reg8 .cl) s)

/-- `op ew,CL`. -/
def shiftEwCl (op : ShiftOp) (e : Rm16) (s : State) := runInstr s (shiftRm16 op e (s.reg8 .cl) s)

/-! ### The instructions -/

/-- AND eb,rb (R381). -/
def execAndEbRb (e : Rm8) (r : Reg8) (s : State) : Host.Outcome State Fault Refusal := aluEbRb .and e r s

/-- AND ew,rw (R381). -/
def execAndEwRw (e : Rm16) (r : Reg16) (s : State) : Host.Outcome State Fault Refusal := aluEwRw .and e r s

/-- AND rb,eb (R381). -/
def execAndRbEb (r : Reg8) (e : Rm8) (s : State) : Host.Outcome State Fault Refusal := aluRbEb .and r e s

/-- AND rw,ew (R381). -/
def execAndRwEw (r : Reg16) (e : Rm16) (s : State) : Host.Outcome State Fault Refusal := aluRwEw .and r e s

/-- AND AL,db (R381). -/
def execAndAlDb (imm : Byte) (s : State) : Host.Outcome State Fault Refusal := aluAlDb .and imm s

/-- AND AX,dw (R381). -/
def execAndAxDw (imm : Word) (s : State) : Host.Outcome State Fault Refusal := aluAxDw .and imm s

/-- AND eb,db (R381). -/
def execAndEbDb (e : Rm8) (imm : Byte) (s : State) : Host.Outcome State Fault Refusal := aluEbDb .and e imm s

/-- AND ew,dw (R381). -/
def execAndEwDw (e : Rm16) (imm : Word) (s : State) : Host.Outcome State Fault Refusal := aluEwDw .and e imm s

/-- OR eb,rb (R382). -/
def execOrEbRb (e : Rm8) (r : Reg8) (s : State) : Host.Outcome State Fault Refusal := aluEbRb .or e r s

/-- OR ew,rw (R382). -/
def execOrEwRw (e : Rm16) (r : Reg16) (s : State) : Host.Outcome State Fault Refusal := aluEwRw .or e r s

/-- OR rb,eb (R382). -/
def execOrRbEb (r : Reg8) (e : Rm8) (s : State) : Host.Outcome State Fault Refusal := aluRbEb .or r e s

/-- OR rw,ew (R382). -/
def execOrRwEw (r : Reg16) (e : Rm16) (s : State) : Host.Outcome State Fault Refusal := aluRwEw .or r e s

/-- OR AL,db (R382). -/
def execOrAlDb (imm : Byte) (s : State) : Host.Outcome State Fault Refusal := aluAlDb .or imm s

/-- OR AX,dw (R382). -/
def execOrAxDw (imm : Word) (s : State) : Host.Outcome State Fault Refusal := aluAxDw .or imm s

/-- OR eb,db (R382). -/
def execOrEbDb (e : Rm8) (imm : Byte) (s : State) : Host.Outcome State Fault Refusal := aluEbDb .or e imm s

/-- OR ew,dw (R382). -/
def execOrEwDw (e : Rm16) (imm : Word) (s : State) : Host.Outcome State Fault Refusal := aluEwDw .or e imm s

/-- XOR eb,rb (R383). -/
def execXorEbRb (e : Rm8) (r : Reg8) (s : State) : Host.Outcome State Fault Refusal := aluEbRb .xor e r s

/-- XOR ew,rw (R383). -/
def execXorEwRw (e : Rm16) (r : Reg16) (s : State) : Host.Outcome State Fault Refusal := aluEwRw .xor e r s

/-- XOR rb,eb (R383). -/
def execXorRbEb (r : Reg8) (e : Rm8) (s : State) : Host.Outcome State Fault Refusal := aluRbEb .xor r e s

/-- XOR rw,ew (R383). -/
def execXorRwEw (r : Reg16) (e : Rm16) (s : State) : Host.Outcome State Fault Refusal := aluRwEw .xor r e s

/-- XOR AL,db (R383). -/
def execXorAlDb (imm : Byte) (s : State) : Host.Outcome State Fault Refusal := aluAlDb .xor imm s

/-- XOR AX,dw (R383). -/
def execXorAxDw (imm : Word) (s : State) : Host.Outcome State Fault Refusal := aluAxDw .xor imm s

/-- XOR eb,db (R383). -/
def execXorEbDb (e : Rm8) (imm : Byte) (s : State) : Host.Outcome State Fault Refusal := aluEbDb .xor e imm s

/-- XOR ew,dw (R383). -/
def execXorEwDw (e : Rm16) (imm : Word) (s : State) : Host.Outcome State Fault Refusal := aluEwDw .xor e imm s

/-- NOT eb (R384). -/
def execNotEb (e : Rm8) (s : State) : Host.Outcome State Fault Refusal := unaryEb .not e s

/-- NOT ew (R384). -/
def execNotEw (e : Rm16) (s : State) : Host.Outcome State Fault Refusal := unaryEw .not e s

/-- TEST eb,rb (R385). -/
def execTestEbRb (e : Rm8) (r : Reg8) (s : State) : Host.Outcome State Fault Refusal :=
  runInstr s (testRm8 e (s.reg8 r) s)

/-- TEST ew,rw (R385). -/
def execTestEwRw (e : Rm16) (r : Reg16) (s : State) : Host.Outcome State Fault Refusal :=
  runInstr s (testRm16 e (s.reg16 r) s)

/-- TEST AL,db (R385). -/
def execTestAlDb (imm : Byte) (s : State) : Host.Outcome State Fault Refusal := runInstr s (testRm8 (.reg .al) imm s)

/-- TEST AX,dw (R385). -/
def execTestAxDw (imm : Word) (s : State) : Host.Outcome State Fault Refusal := runInstr s (testRm16 (.reg .ax) imm s)

/-- TEST eb,db (R385). -/
def execTestEbDb (e : Rm8) (imm : Byte) (s : State) : Host.Outcome State Fault Refusal := runInstr s (testRm8 e imm s)

/-- TEST ew,dw (R385). -/
def execTestEwDw (e : Rm16) (imm : Word) (s : State) : Host.Outcome State Fault Refusal :=
  runInstr s (testRm16 e imm s)

/-- ROL eb,db (R393). -/
def execRolEbDb (e : Rm8) (imm : Byte) (s : State) : Host.Outcome State Fault Refusal := shiftEbDb .rol e imm s

/-- ROL ew,db (R393). -/
def execRolEwDb (e : Rm16) (imm : Byte) (s : State) : Host.Outcome State Fault Refusal := shiftEwDb .rol e imm s

/-- ROL eb,1 (R393). -/
def execRolEb1 (e : Rm8) (s : State) : Host.Outcome State Fault Refusal := shiftEb1 .rol e s

/-- ROL ew,1 (R393). -/
def execRolEw1 (e : Rm16) (s : State) : Host.Outcome State Fault Refusal := shiftEw1 .rol e s

/-- ROL eb,CL (R393). -/
def execRolEbCl (e : Rm8) (s : State) : Host.Outcome State Fault Refusal := shiftEbCl .rol e s

/-- ROL ew,CL (R393). -/
def execRolEwCl (e : Rm16) (s : State) : Host.Outcome State Fault Refusal := shiftEwCl .rol e s

/-- ROR eb,db (R394). -/
def execRorEbDb (e : Rm8) (imm : Byte) (s : State) : Host.Outcome State Fault Refusal := shiftEbDb .ror e imm s

/-- ROR ew,db (R394). -/
def execRorEwDb (e : Rm16) (imm : Byte) (s : State) : Host.Outcome State Fault Refusal := shiftEwDb .ror e imm s

/-- ROR eb,1 (R394). -/
def execRorEb1 (e : Rm8) (s : State) : Host.Outcome State Fault Refusal := shiftEb1 .ror e s

/-- ROR ew,1 (R394). -/
def execRorEw1 (e : Rm16) (s : State) : Host.Outcome State Fault Refusal := shiftEw1 .ror e s

/-- ROR eb,CL (R394). -/
def execRorEbCl (e : Rm8) (s : State) : Host.Outcome State Fault Refusal := shiftEbCl .ror e s

/-- ROR ew,CL (R394). -/
def execRorEwCl (e : Rm16) (s : State) : Host.Outcome State Fault Refusal := shiftEwCl .ror e s

/-- RCL eb,db (R395). -/
def execRclEbDb (e : Rm8) (imm : Byte) (s : State) : Host.Outcome State Fault Refusal := shiftEbDb .rcl e imm s

/-- RCL ew,db (R395). -/
def execRclEwDb (e : Rm16) (imm : Byte) (s : State) : Host.Outcome State Fault Refusal := shiftEwDb .rcl e imm s

/-- RCL eb,1 (R395). -/
def execRclEb1 (e : Rm8) (s : State) : Host.Outcome State Fault Refusal := shiftEb1 .rcl e s

/-- RCL ew,1 (R395). -/
def execRclEw1 (e : Rm16) (s : State) : Host.Outcome State Fault Refusal := shiftEw1 .rcl e s

/-- RCL eb,CL (R395). -/
def execRclEbCl (e : Rm8) (s : State) : Host.Outcome State Fault Refusal := shiftEbCl .rcl e s

/-- RCL ew,CL (R395). -/
def execRclEwCl (e : Rm16) (s : State) : Host.Outcome State Fault Refusal := shiftEwCl .rcl e s

/-- RCR eb,db (R396). -/
def execRcrEbDb (e : Rm8) (imm : Byte) (s : State) : Host.Outcome State Fault Refusal := shiftEbDb .rcr e imm s

/-- RCR ew,db (R396). -/
def execRcrEwDb (e : Rm16) (imm : Byte) (s : State) : Host.Outcome State Fault Refusal := shiftEwDb .rcr e imm s

/-- RCR eb,1 (R396). -/
def execRcrEb1 (e : Rm8) (s : State) : Host.Outcome State Fault Refusal := shiftEb1 .rcr e s

/-- RCR ew,1 (R396). -/
def execRcrEw1 (e : Rm16) (s : State) : Host.Outcome State Fault Refusal := shiftEw1 .rcr e s

/-- RCR eb,CL (R396). -/
def execRcrEbCl (e : Rm8) (s : State) : Host.Outcome State Fault Refusal := shiftEbCl .rcr e s

/-- RCR ew,CL (R396). -/
def execRcrEwCl (e : Rm16) (s : State) : Host.Outcome State Fault Refusal := shiftEwCl .rcr e s

/-- SAL_SHL eb,db (R389). -/
def execShlEbDb (e : Rm8) (imm : Byte) (s : State) : Host.Outcome State Fault Refusal := shiftEbDb .shl e imm s

/-- SAL_SHL ew,db (R389). -/
def execShlEwDb (e : Rm16) (imm : Byte) (s : State) : Host.Outcome State Fault Refusal := shiftEwDb .shl e imm s

/-- SAL_SHL eb,1 (R389). -/
def execShlEb1 (e : Rm8) (s : State) : Host.Outcome State Fault Refusal := shiftEb1 .shl e s

/-- SAL_SHL ew,1 (R389). -/
def execShlEw1 (e : Rm16) (s : State) : Host.Outcome State Fault Refusal := shiftEw1 .shl e s

/-- SAL_SHL eb,CL (R389). -/
def execShlEbCl (e : Rm8) (s : State) : Host.Outcome State Fault Refusal := shiftEbCl .shl e s

/-- SAL_SHL ew,CL (R389). -/
def execShlEwCl (e : Rm16) (s : State) : Host.Outcome State Fault Refusal := shiftEwCl .shl e s

/-- SHR eb,db (R390). -/
def execShrEbDb (e : Rm8) (imm : Byte) (s : State) : Host.Outcome State Fault Refusal := shiftEbDb .shr e imm s

/-- SHR ew,db (R390). -/
def execShrEwDb (e : Rm16) (imm : Byte) (s : State) : Host.Outcome State Fault Refusal := shiftEwDb .shr e imm s

/-- SHR eb,1 (R390). -/
def execShrEb1 (e : Rm8) (s : State) : Host.Outcome State Fault Refusal := shiftEb1 .shr e s

/-- SHR ew,1 (R390). -/
def execShrEw1 (e : Rm16) (s : State) : Host.Outcome State Fault Refusal := shiftEw1 .shr e s

/-- SHR eb,CL (R390). -/
def execShrEbCl (e : Rm8) (s : State) : Host.Outcome State Fault Refusal := shiftEbCl .shr e s

/-- SHR ew,CL (R390). -/
def execShrEwCl (e : Rm16) (s : State) : Host.Outcome State Fault Refusal := shiftEwCl .shr e s

/-- SAR eb,db (R391). -/
def execSarEbDb (e : Rm8) (imm : Byte) (s : State) : Host.Outcome State Fault Refusal := shiftEbDb .sar e imm s

/-- SAR ew,db (R391). -/
def execSarEwDb (e : Rm16) (imm : Byte) (s : State) : Host.Outcome State Fault Refusal := shiftEwDb .sar e imm s

/-- SAR eb,1 (R391). -/
def execSarEb1 (e : Rm8) (s : State) : Host.Outcome State Fault Refusal := shiftEb1 .sar e s

/-- SAR ew,1 (R391). -/
def execSarEw1 (e : Rm16) (s : State) : Host.Outcome State Fault Refusal := shiftEw1 .sar e s

/-- SAR eb,CL (R391). -/
def execSarEbCl (e : Rm8) (s : State) : Host.Outcome State Fault Refusal := shiftEbCl .sar e s

/-- SAR ew,CL (R391). -/
def execSarEwCl (e : Rm16) (s : State) : Host.Outcome State Fault Refusal := shiftEwCl .sar e s

end Sys2Proof.Machine
end

