-- ==== Sys2Proof/Machine/Strings.lean ====
section
/-! DEFINITION. The string instructions and their repetition (spec/43_string.md R420 to R445): MOVS, CMPS, SCAS, LODS, STOS, INS,
OUTS.  One step performs one iteration; a repetition that goes on leaves IP at the first prefix byte, so every iteration ends
at an instruction boundary (R440). -/

namespace Sys2Proof.Machine

/-! ### Elements and pointers (R420) -/

/-- The size of a string element. -/
inductive Elem where
  | byte | word
deriving DecidableEq, Repr

/-- Its number of bytes. -/
def Elem.size : Elem → Nat
  | .byte => 1
  | .word => 2

/-- Its port access: the value read, zero-extended, and the state after. -/
def Elem.portRead (w : Elem) (s : State) : Word × State :=
  match w with
  | .byte => (zext16 (s.portRead8 s.gpr.dx).1, (s.portRead8 s.gpr.dx).2)
  | .word => s.portRead16 s.gpr.dx

/-- The port write of an element. -/
def Elem.portWrite (w : Elem) (s : State) (v : Word) : State :=
  match w with
  | .byte => s.portWrite8 s.gpr.dx (loByte v)
  | .word => s.portWrite16 s.gpr.dx v

/-- Read the element at a checked offset, a byte zero-extended: the element, and the state after the read. -/
def Elem.get (w : Elem) (s : State) (r : SegReg) (off : Word) : Word × State :=
  match w with
  | .byte => (zext16 (s.segGet8 r off).1, (s.segGet8 r off).2)
  | .word => s.segGet16 r off

/-- Store an element at a checked offset. -/
def Elem.put (w : Elem) (s : State) (r : SegReg) (off v : Word) : State :=
  match w with
  | .byte => s.segPut8 r off 0 (loByte v)
  | .word => s.segPut16 r off v

/-- AL or AX. -/
def Elem.acc (w : Elem) (s : State) : Word :=
  match w with
  | .byte => zext16 (s.reg8 .al)
  | .word => s.gpr.ax

/-- Write AL or AX; AH is unchanged by a byte (R424). -/
def Elem.setAcc (w : Elem) (s : State) (v : Word) : State :=
  match w with
  | .byte => s.setReg8 .al (loByte v)
  | .word => s.setReg16 .ax v

/-- The flags of the subtraction of two elements (R422, R423). -/
def Elem.compare (w : Elem) (f : Flags) (a b : Word) : Flags :=
  match w with
  | .byte => f.sub (loByte a) (loByte b) false
  | .word => f.sub a b false

/-- `delta`: +n with DF = 0, -n with DF = 1. -/
def Elem.delta (w : Elem) (s : State) : Word :=
  if s.flags.df then 0 - BitVec.ofNat 16 w.size else BitVec.ofNat 16 w.size

/-- Advance SI by one element. -/
def State.stepSi (s : State) (w : Elem) : State := { s with gpr := { s.gpr with si := s.gpr.si + w.delta s } }

/-- Advance DI by one element. -/
def State.stepDi (s : State) (w : Elem) : State := { s with gpr := { s.gpr with di := s.gpr.di + w.delta s } }

/-- Check the source element, at srcseg:SI (DS, or the override). -/
def srcCheck (w : Elem) (s : State) : Except Trap Unit := segCheck s (s.overridden .ds) s.gpr.si w.size .read

/-- Check the destination element, at ES:DI. -/
def dstCheck (w : Elem) (s : State) (k : Access) : Except Trap Unit := segCheck s .es s.gpr.di w.size k

/-- Read the checked source element. -/
def srcGet (w : Elem) (s : State) : Word × State := w.get s (s.overridden .ds) s.gpr.si

/-- Read the checked destination element. -/
def dstGet (w : Elem) (s : State) : Word × State := w.get s .es s.gpr.di

/-! ### The primitives (R421 to R427): every check precedes every read and every effect (20_memory.md R113) -/

/-- MOVS. -/
def movsOnce (w : Elem) (s : State) : Except Trap State := do
  srcCheck w s
  dstCheck w s .write
  let v := srcGet w s
  .ok (((w.put v.2 .es s.gpr.di v.1).stepSi w).stepDi w)

/-- CMPS: the ES:DI element is subtracted from the source element. -/
def cmpsOnce (w : Elem) (s : State) : Except Trap State := do
  srcCheck w s
  dstCheck w s .read
  let a := srcGet w s
  let b := dstGet w a.2
  .ok (((b.2.setFlags (w.compare s.flags a.1 b.1)).stepSi w).stepDi w)

/-- SCAS: the ES:DI element is subtracted from AL or AX. -/
def scasOnce (w : Elem) (s : State) : Except Trap State := do
  dstCheck w s .read
  let b := dstGet w s
  .ok ((b.2.setFlags (w.compare s.flags (w.acc s) b.1)).stepDi w)

/-- LODS. -/
def lodsOnce (w : Elem) (s : State) : Except Trap State := do
  srcCheck w s
  let v := srcGet w s
  .ok ((w.setAcc v.2 v.1).stepSi w)

/-- STOS. -/
def stosOnce (w : Elem) (s : State) : Except Trap State := do
  dstCheck w s .write
  .ok ((w.put s .es s.gpr.di (w.acc s)).stepDi w)

/-- INS: privilege, then the destination, then the port is read (R426). -/
def insOnce (w : Elem) (s : State) : Except Trap State := do
  ioplGuard s
  dstCheck w s .write
  .ok ((w.put (w.portRead s).2 .es s.gpr.di (w.portRead s).1).stepDi w)

/-- OUTS: privilege, then the source, then the port is written (R427). -/
def outsOnce (w : Elem) (s : State) : Except Trap State := do
  ioplGuard s
  srcCheck w s
  let v := srcGet w s
  .ok ((w.portWrite v.2 v.1).stepSi w)

/-! ### Repetition (R430, R431, R441) -/

/-- The condition on ZF that ends a repeated comparison (R431 step 5). -/
def repStops : RepKind → Bool → Bool
  | .repe, zf => !zf
  | .repne, zf => zf

/-- CX less one; no flags. -/
def State.decCx (s : State) : State := { s with gpr := { s.gpr with cx := s.gpr.cx - 1 } }

/-- A repetition goes on: IP stays at the first prefix byte and the instruction is read again, the bus locked meanwhile if it was for
this iteration (R440, R444). -/
def State.again (s : State) (locks : Bool) : State :=
  { if locks then s.withLock .kept else s with pfx := {} }

/-- One iteration has completed: the repetition ends when CX is 0 or a comparison says so (R431). -/
def State.endIteration (s : State) (k : RepKind) (compares locks : Bool) : State :=
  if decide (s.gpr.cx = 0) || (compares && repStops k s.flags.zf) then s.retire else s.again locks

/-- A string instruction: once without a repeat prefix; with one, nothing when CX is 0, else one iteration (R431); with the bus
locked or not (R444). -/
def stringOp (compares locks : Bool) (once : State → Except Trap State) (s : State) : Except Trap State :=
  match s.pfx.rep with
  | none => do
    let t ← if locks then locked once s else once s
    .ok t.retire
  | some k =>
    if s.gpr.cx = 0 then .ok s.retire
    else do
      let t ← if locks then locked once s else once s
      .ok (t.decCx.endIteration k compares locks)

/-- Run a string instruction: the LOCK check of a prefix first, an exception delivered with IP at the first prefix byte.  `lockable`:
a LOCK prefix locks the bus, as it does for MOVS, INS and OUTS (R444, 20_memory.md R142). -/
def runString (compares lockable : Bool) (once : State → Except Trap State) (s : State) : Host.Outcome State Fault Refusal :=
  match (do lockGuard s; stringOp compares (lockable && s.pfx.lock) once s) with
  | .ok t => .next t
  | .error e => .next (raiseAt s e)

/-! ### The instructions -/

/-- MOVSB (R421). -/
def execMovsb (s : State) : Host.Outcome State Fault Refusal := runString false true (movsOnce .byte) s

/-- MOVSW (R421). -/
def execMovsw (s : State) : Host.Outcome State Fault Refusal := runString false true (movsOnce .word) s

/-- CMPSB (R422). -/
def execCmpsb (s : State) : Host.Outcome State Fault Refusal := runString true false (cmpsOnce .byte) s

/-- CMPSW (R422). -/
def execCmpsw (s : State) : Host.Outcome State Fault Refusal := runString true false (cmpsOnce .word) s

/-- SCASB (R423). -/
def execScasb (s : State) : Host.Outcome State Fault Refusal := runString true false (scasOnce .byte) s

/-- SCASW (R423). -/
def execScasw (s : State) : Host.Outcome State Fault Refusal := runString true false (scasOnce .word) s

/-- LODSB (R424). -/
def execLodsb (s : State) : Host.Outcome State Fault Refusal := runString false false (lodsOnce .byte) s

/-- LODSW (R424). -/
def execLodsw (s : State) : Host.Outcome State Fault Refusal := runString false false (lodsOnce .word) s

/-- STOSB (R425). -/
def execStosb (s : State) : Host.Outcome State Fault Refusal := runString false false (stosOnce .byte) s

/-- STOSW (R425). -/
def execStosw (s : State) : Host.Outcome State Fault Refusal := runString false false (stosOnce .word) s

/-- INSB eb,DX (R426). -/
def execInsb (s : State) : Host.Outcome State Fault Refusal := runString false true (insOnce .byte) s

/-- INSW ew,DX (R426). -/
def execInsw (s : State) : Host.Outcome State Fault Refusal := runString false true (insOnce .word) s

/-- OUTSB DX,eb (R427). -/
def execOutsb (s : State) : Host.Outcome State Fault Refusal := runString false true (outsOnce .byte) s

/-- OUTSW DX,ew (R427). -/
def execOutsw (s : State) : Host.Outcome State Fault Refusal := runString false true (outsOnce .word) s

end Sys2Proof.Machine
end

