-- ==== Sys2Proof/Machine/System.lean ====
section
/-! DEFINITION. System control and selector tests (spec/47_system.md R610 to R640): SGDT, SIDT, LGDT, LIDT, SLDT, LLDT, STR, LTR,
SMSW, LMSW, CLTS, ARPL, LAR, LSL, VERR, VERW.  The order of checks is #UD, privilege, memory operand, selector (D43). -/

namespace Sys2Proof.Machine

/-- An instruction of Protected Mode alone: #UD in Real Address Mode (R610). -/
def runProtected (s : State) (r : Except Trap State) : Host.Outcome State Fault Refusal :=
  if s.msw.pe then runInstr s r else undefinedOpcode s

/-! ### Descriptor table registers (R611 to R618) -/

/-- Check the three words of a table register in memory, in their order (R611, R613; 20_memory.md R113). -/
def checkTable (s : State) (m : MemOp) (k : Access) : Except Trap Unit := do
  checkMemWord s m 0 k
  checkMemWord s m 2 k
  checkMemWord s m 4 k

/-- SGDT and SIDT: all three words are checked, then written; the sixth byte is a free value (R611, U3). -/
def storeTable (m : MemOp) (t : TableReg) (s : State) : Except Trap State := do
  let r := s.memSeg m
  let off := s.effOffset m
  checkTable s m .write
  .ok ((((s.segPut16 r off t.limit).segPut16 r (off + 2) (t.base.setWidth 16)).segPut16 r (off + 4)
    (mkWord (t.base.extractLsb' 16 8) (Config.freeByte s.freeCtr))).drew 1)

/-- The table register LGDT and LIDT read once all three words are checked, and the state after the reads: limit, base; the sixth byte
is discarded (R613). -/
def loadTable (m : MemOp) (s : State) : Except Trap (TableReg × State) := do
  checkTable s m .read
  let limit := s.memWord m 0
  let lo := limit.2.memWord m 2
  let hi := lo.2.memWord m 4
  .ok ({ base := (loByte hi.1 ++ lo.1 : BitVec (8 + 16)), limit := limit.1 }, hi.2)

/-- LGDT (R613). -/
def loadGdtr (m : MemOp) (s : State) : Except Trap State := do
  privilegeGuard s
  let t ← loadTable m s
  .ok { t.2 with gdtr := t.1 }

/-- LIDT (R614). -/
def loadIdtr (m : MemOp) (s : State) : Except Trap State := do
  privilegeGuard s
  let t ← loadTable m s
  .ok { t.2 with idtr := t.1 }

/-- LLDT: a null selector leaves LDTR invalid (R616). -/
def loadLdtr (e : Rm16) (s : State) : Except Trap State := do
  privilegeGuard s
  let v ← loadRm16 s e .read
  let sel := v.1
  if nullSel sel then .ok { v.2 with ldtr := { s.ldtr with sel := sel, valid := false } }
  else afterReads v.2 do
    require (!selTi sel) (trapGp sel)
    let (d, u) ← fetchOr v.2 sel (trapGp sel)
    afterReads u do
      require (isSys d.ar 2) (trapGp sel)
      require (present d.ar) (trapNp sel)
      .ok { u with ldtr := { sel := sel, base := d.base, limit := d.limit, valid := true } }

/-- LTR: the TSS descriptor is marked busy (R618). -/
def loadTr (e : Rm16) (s : State) : Except Trap State := do
  privilegeGuard s
  let v ← loadRm16 s e .read
  let sel := v.1
  afterReads v.2 do
    require (!nullSel sel) trapGp0
    require (!selTi sel) (trapGp sel)
    let (d, u) ← fetchOr v.2 sel (trapGp sel)
    afterReads u do
      require (isSys d.ar 1) (trapGp sel)
      require (present d.ar) (trapNp sel)
      .ok { u.setBusy sel with tr := { sel := sel, base := d.base, limit := d.limit, valid := true } }

/-! ### The machine status word (R620 to R622) -/

/-- LMSW: PE can be set, never cleared; bits 15:4 are ignored (R621). -/
def Msw.load (m : Msw) (v : Word) : Msw where
  pe := m.pe || v.getLsbD 0
  mp := v.getLsbD 1
  em := v.getLsbD 2
  ts := v.getLsbD 3

/-- Setting PE awaits the jump of R750. -/
def State.loadMsw (s : State) (v : Word) : State :=
  { s with msw := s.msw.load v, lmsw := if !s.msw.pe && v.getLsbD 0 then .justSet else s.lmsw }

/-- LMSW once its operand is read.  A switch to Protected Mode with CS bits 1:0 not zero is refused (R621, D42, U13), but where a RESET
falls into the step: it comes with the switch if it has not come before (DESIGN CHOICE, notes/assumptions/24.md), and leaves R731's
state (70_reset_and_hazards.md R730). -/
def finishLmsw (s : State) (r : Except Trap (Word × State)) : Host.Outcome State Fault Refusal :=
  match r with
  | .error t => .next (raiseAt s t)
  | .ok v =>
    if !s.msw.pe && v.1.getLsbD 0 && decide (rpl s.cs.sel ≠ 0) then
      if s.bus.reset = .quiet then .refused .protectedEntryWithNonzeroRpl else .next v.2.resetNow.retire
    else .next (v.2.loadMsw v.1).retire

/-- CLTS (R622). -/
def clearTs (s : State) : Except Trap State := do
  privilegeGuard s
  .ok { s with msw := { s.msw with ts := false } }

/-! ### Selector tests (R624 to R629) -/

/-- Write ZF. -/
def State.setZf (s : State) (b : Bool) : State := { s with flags := { s.flags with zf := b } }

/-- ARPL: the write check is made whether or not the operand changes (R625, D33). -/
def adjustRpl (e : Rm16) (r : Reg16) (s : State) : Except Trap State := do
  let d ← loadRm16 s e .write
  if decide (rpl d.1 < rpl (s.reg16 r)) then .ok ((storeRm16 d.2 e (withRpl d.1 (rpl (s.reg16 r)))).setZf true)
  else .ok (d.2.setZf false)

/-- `Look`: the descriptor a selector names, if any, and the state after it is read (R624). -/
def look (s : State) (sel : Word) : Option (Desc × State) := if nullSel sel then none else s.readTable sel

/-- Visible to a selector test: a conforming code segment always, else DPL ≥ CPL and DPL ≥ RPL (R624, R626). -/
def visible (s : State) (sel : Word) (d : Desc) : Bool := dataPrivilege d.ar s.cpl sel

/-- Mark a code or data segment accessed when a test succeeds on it (R624, D31). -/
def State.touch (s : State) (d : Desc) : State := if isSeg d.ar then s.setAccessed d else s

/-- A selector test: success writes `G` if a value is given, sets ZF and marks the segment; failure clears ZF (R624). -/
def selectorTest (s : State) (sel : Word) (ok : Desc → Bool) (result : State → Desc → State) : State :=
  match look s sel with
  | none => s.setZf false
  | some (d, u) => if ok d then (result (u.touch d) d).setZf true else u.setZf false

/-- LAR: any descriptor; the access byte as read, in the high byte (R626, D44). -/
def loadAccess (r : Reg16) (e : Rm16) (s : State) : Except Trap State := do
  let sel ← loadRm16 s e .read
  .ok (selectorTest sel.2 sel.1 (visible s sel.1) fun t d => t.setReg16 r (mkWord 0 d.ar))

/-- The descriptors LSL answers for: segments, TSS and LDT (R627). -/
def hasLimit (ar : Byte) : Bool := isSeg ar || isSys ar 1 || isSys ar 2 || isSys ar 3

/-- LSL (R627, D45). -/
def loadLimit (r : Reg16) (e : Rm16) (s : State) : Except Trap State := do
  let sel ← loadRm16 s e .read
  .ok (selectorTest sel.2 sel.1 (fun d => hasLimit d.ar && visible s sel.1 d) fun t d => t.setReg16 r d.limit)

/-- VERR (R628). -/
def verifyRead (e : Rm16) (s : State) : Except Trap State := do
  let sel ← loadRm16 s e .read
  .ok (selectorTest sel.2 sel.1 (fun d => readable d.ar && visible s sel.1 d) fun t _ => t)

/-- VERW (R629). -/
def verifyWrite (e : Rm16) (s : State) : Except Trap State := do
  let sel ← loadRm16 s e .read
  .ok (selectorTest sel.2 sel.1 (fun d => writable d.ar && visible s sel.1 d) fun t _ => t)

/-! ### The instructions -/

/-- SGDT m (R611). -/
def execSgdt (e : Rm16) (s : State) : Host.Outcome State Fault Refusal :=
  match e with
  | .reg _ => undefinedOpcode s
  | .mem m => runInstr s (storeTable m s.gdtr s)

/-- SIDT m (R612). -/
def execSidt (e : Rm16) (s : State) : Host.Outcome State Fault Refusal :=
  match e with
  | .reg _ => undefinedOpcode s
  | .mem m => runInstr s (storeTable m s.idtr s)

/-- LGDT m (R613). -/
def execLgdt (e : Rm16) (s : State) : Host.Outcome State Fault Refusal :=
  match e with
  | .reg _ => undefinedOpcode s
  | .mem m => runInstr s (loadGdtr m s)

/-- LIDT m (R614). -/
def execLidt (e : Rm16) (s : State) : Host.Outcome State Fault Refusal :=
  match e with
  | .reg _ => undefinedOpcode s
  | .mem m => runInstr s (loadIdtr m s)

/-- SLDT ew (R615): the selector last loaded.  LDTR can be invalid with a selector that is not null, after a task switch that failed at its
LDT check (46_protected_transfer.md R590 steps 7 and 10, R592) or after the RESET input: that the loaded selector is stored then too,
where R615's parenthesis says the null value, is the model's choice (DESIGN CHOICE, unsafe; notes/assumptions/49.md). -/
def execSldt (e : Rm16) (s : State) : Host.Outcome State Fault Refusal := runProtected s (movToRm16 e s.ldtr.sel s)

/-- LLDT ew (R616). -/
def execLldt (e : Rm16) (s : State) : Host.Outcome State Fault Refusal := runProtected s (loadLdtr e s)

/-- STR ew (R617). -/
def execStr (e : Rm16) (s : State) : Host.Outcome State Fault Refusal := runProtected s (movToRm16 e s.tr.sel s)

/-- LTR ew (R618). -/
def execLtr (e : Rm16) (s : State) : Host.Outcome State Fault Refusal := runProtected s (loadTr e s)

/-- SMSW ew (R620). -/
def execSmsw (e : Rm16) (s : State) : Host.Outcome State Fault Refusal := runInstr s (movToRm16 e s.msw.toWord s)

/-- LMSW ew (R621). -/
def execLmsw (e : Rm16) (s : State) : Host.Outcome State Fault Refusal :=
  finishLmsw s (do lockGuard s; privilegeGuard s; loadRm16 s e .read)

/-- CLTS (R622). -/
def execClts (s : State) : Host.Outcome State Fault Refusal := runInstr s (clearTs s)

/-- ARPL ew,rw (R625). -/
def execArpl (e : Rm16) (r : Reg16) (s : State) : Host.Outcome State Fault Refusal := runProtected s (adjustRpl e r s)

/-- LAR rw,ew (R626). -/
def execLar (r : Reg16) (e : Rm16) (s : State) : Host.Outcome State Fault Refusal := runProtected s (loadAccess r e s)

/-- LSL rw,ew (R627). -/
def execLsl (r : Reg16) (e : Rm16) (s : State) : Host.Outcome State Fault Refusal := runProtected s (loadLimit r e s)

/-- VERR ew (R628). -/
def execVerr (e : Rm16) (s : State) : Host.Outcome State Fault Refusal := runProtected s (verifyRead e s)

/-- VERW ew (R629). -/
def execVerw (e : Rm16) (s : State) : Host.Outcome State Fault Refusal := runProtected s (verifyWrite e s)

end Sys2Proof.Machine
end

