-- ==== Sys2Proof/Machine/Undefined.lean ====
section
/-! DEFINITION. The undefined opcodes (spec/30_encoding.md R245 to R248): each takes exception 6, #UD, with the saved IP at the
first byte of the instruction, prefixes included, whatever its ModRM byte (R235, R247). -/

namespace Sys2Proof.Machine

/-! ### The instructions -/

/-- Undefined opcode 83 08 (R247). -/
def execUndef83x1 (s : State) : Host.Outcome State Fault Refusal := undefinedOpcode s

/-- Undefined opcode 83 20 (R247). -/
def execUndef83x4 (s : State) : Host.Outcome State Fault Refusal := undefinedOpcode s

/-- Undefined opcode 83 30 (R247). -/
def execUndef83x6 (s : State) : Host.Outcome State Fault Refusal := undefinedOpcode s

/-- Undefined opcode 64 (R245). -/
def execUndef64 (s : State) : Host.Outcome State Fault Refusal := undefinedOpcode s

/-- Undefined opcode 65 (R245). -/
def execUndef65 (s : State) : Host.Outcome State Fault Refusal := undefinedOpcode s

/-- Undefined opcode 66 (R245). -/
def execUndef66 (s : State) : Host.Outcome State Fault Refusal := undefinedOpcode s

/-- Undefined opcode 67 (R245). -/
def execUndef67 (s : State) : Host.Outcome State Fault Refusal := undefinedOpcode s

/-- Undefined opcode 82 (R245). -/
def execUndef82 (s : State) : Host.Outcome State Fault Refusal := undefinedOpcode s

/-- Undefined opcode 8C 20 (R247). -/
def execUndef8Cx4to7 (s : State) : Host.Outcome State Fault Refusal := undefinedOpcode s

/-- Undefined opcode 8E 08 (R248). -/
def execUndef8Ex1 (s : State) : Host.Outcome State Fault Refusal := undefinedOpcode s

/-- Undefined opcode 8E 20 (R247). -/
def execUndef8Ex4to7 (s : State) : Host.Outcome State Fault Refusal := undefinedOpcode s

/-- Undefined opcode 8F 08 (R247). -/
def execUndef8Fx1 (s : State) : Host.Outcome State Fault Refusal := undefinedOpcode s

/-- Undefined opcode 8F 10 (R247). -/
def execUndef8Fx2 (s : State) : Host.Outcome State Fault Refusal := undefinedOpcode s

/-- Undefined opcode 8F 18 (R247). -/
def execUndef8Fx3 (s : State) : Host.Outcome State Fault Refusal := undefinedOpcode s

/-- Undefined opcode 8F 20 (R247). -/
def execUndef8Fx4 (s : State) : Host.Outcome State Fault Refusal := undefinedOpcode s

/-- Undefined opcode 8F 28 (R247). -/
def execUndef8Fx5 (s : State) : Host.Outcome State Fault Refusal := undefinedOpcode s

/-- Undefined opcode 8F 30 (R247). -/
def execUndef8Fx6 (s : State) : Host.Outcome State Fault Refusal := undefinedOpcode s

/-- Undefined opcode 8F 38 (R247). -/
def execUndef8Fx7 (s : State) : Host.Outcome State Fault Refusal := undefinedOpcode s

/-- Undefined opcode C0 30 (R247). -/
def execUndefC0x6 (s : State) : Host.Outcome State Fault Refusal := undefinedOpcode s

/-- Undefined opcode C1 30 (R247). -/
def execUndefC1x6 (s : State) : Host.Outcome State Fault Refusal := undefinedOpcode s

/-- Undefined opcode C6 08 (R247). -/
def execUndefC6x1 (s : State) : Host.Outcome State Fault Refusal := undefinedOpcode s

/-- Undefined opcode C6 10 (R247). -/
def execUndefC6x2 (s : State) : Host.Outcome State Fault Refusal := undefinedOpcode s

/-- Undefined opcode C6 18 (R247). -/
def execUndefC6x3 (s : State) : Host.Outcome State Fault Refusal := undefinedOpcode s

/-- Undefined opcode C6 20 (R247). -/
def execUndefC6x4 (s : State) : Host.Outcome State Fault Refusal := undefinedOpcode s

/-- Undefined opcode C6 28 (R247). -/
def execUndefC6x5 (s : State) : Host.Outcome State Fault Refusal := undefinedOpcode s

/-- Undefined opcode C6 30 (R247). -/
def execUndefC6x6 (s : State) : Host.Outcome State Fault Refusal := undefinedOpcode s

/-- Undefined opcode C6 38 (R247). -/
def execUndefC6x7 (s : State) : Host.Outcome State Fault Refusal := undefinedOpcode s

/-- Undefined opcode C7 08 (R247). -/
def execUndefC7x1 (s : State) : Host.Outcome State Fault Refusal := undefinedOpcode s

/-- Undefined opcode C7 10 (R247). -/
def execUndefC7x2 (s : State) : Host.Outcome State Fault Refusal := undefinedOpcode s

/-- Undefined opcode C7 18 (R247). -/
def execUndefC7x3 (s : State) : Host.Outcome State Fault Refusal := undefinedOpcode s

/-- Undefined opcode C7 20 (R247). -/
def execUndefC7x4 (s : State) : Host.Outcome State Fault Refusal := undefinedOpcode s

/-- Undefined opcode C7 28 (R247). -/
def execUndefC7x5 (s : State) : Host.Outcome State Fault Refusal := undefinedOpcode s

/-- Undefined opcode C7 30 (R247). -/
def execUndefC7x6 (s : State) : Host.Outcome State Fault Refusal := undefinedOpcode s

/-- Undefined opcode C7 38 (R247). -/
def execUndefC7x7 (s : State) : Host.Outcome State Fault Refusal := undefinedOpcode s

/-- Undefined opcode D0 30 (R247). -/
def execUndefD0x6 (s : State) : Host.Outcome State Fault Refusal := undefinedOpcode s

/-- Undefined opcode D1 30 (R247). -/
def execUndefD1x6 (s : State) : Host.Outcome State Fault Refusal := undefinedOpcode s

/-- Undefined opcode D2 30 (R247). -/
def execUndefD2x6 (s : State) : Host.Outcome State Fault Refusal := undefinedOpcode s

/-- Undefined opcode D3 30 (R247). -/
def execUndefD3x6 (s : State) : Host.Outcome State Fault Refusal := undefinedOpcode s

/-- Undefined opcode D4 00 (R341). -/
def execUndefD4 (_aad : Bool) (_second : Byte) (s : State) : Host.Outcome State Fault Refusal := undefinedOpcode s

/-- Undefined opcode D6 (R245). -/
def execUndefD6 (s : State) : Host.Outcome State Fault Refusal := undefinedOpcode s

/-- Undefined opcode F1 (R245). -/
def execUndefF1 (s : State) : Host.Outcome State Fault Refusal := undefinedOpcode s

/-- Undefined opcode F6 08 (R247). -/
def execUndefF6x1 (s : State) : Host.Outcome State Fault Refusal := undefinedOpcode s

/-- Undefined opcode F7 08 (R247). -/
def execUndefF7x1 (s : State) : Host.Outcome State Fault Refusal := undefinedOpcode s

/-- Undefined opcode FE 10 (R247). -/
def execUndefFEx2 (s : State) : Host.Outcome State Fault Refusal := undefinedOpcode s

/-- Undefined opcode FE 18 (R247). -/
def execUndefFEx3 (s : State) : Host.Outcome State Fault Refusal := undefinedOpcode s

/-- Undefined opcode FE 20 (R247). -/
def execUndefFEx4 (s : State) : Host.Outcome State Fault Refusal := undefinedOpcode s

/-- Undefined opcode FE 28 (R247). -/
def execUndefFEx5 (s : State) : Host.Outcome State Fault Refusal := undefinedOpcode s

/-- Undefined opcode FE 30 (R247). -/
def execUndefFEx6 (s : State) : Host.Outcome State Fault Refusal := undefinedOpcode s

/-- Undefined opcode FE 38 (R247). -/
def execUndefFEx7 (s : State) : Host.Outcome State Fault Refusal := undefinedOpcode s

/-- Undefined opcode FF 38 (R247). -/
def execUndefFFx7 (s : State) : Host.Outcome State Fault Refusal := undefinedOpcode s

/-- Undefined opcode 0F 00 30 (R247). -/
def execUndef0F00x6to7 (s : State) : Host.Outcome State Fault Refusal := undefinedOpcode s

/-- Undefined opcode 0F 01 28 (R247). -/
def execUndef0F01x5 (s : State) : Host.Outcome State Fault Refusal := undefinedOpcode s

/-- Undefined opcode 0F 01 38 (R247). -/
def execUndef0F01x7 (s : State) : Host.Outcome State Fault Refusal := undefinedOpcode s

/-- Undefined opcode 0F 00 (R246). -/
def execUndef0F (_second : Byte) (s : State) : Host.Outcome State Fault Refusal := undefinedOpcode s

end Sys2Proof.Machine
end

