-- ==== Sys2Proof/Machine/Dispatch.lean ====
section
/-! DEFINITION. The instruction dispatch: one arm per constructor of `Instr`, each one direct call of that instruction's own
meaning. -/

namespace Sys2Proof.Machine

def exec (i : Instr) (s : State) : Host.Outcome State Fault Refusal :=
  match i with
  | .addEbRb e r => Sys2Proof.Machine.execAddEbRb e r s
  | .addEwRw e r => Sys2Proof.Machine.execAddEwRw e r s
  | .addRbEb r e => Sys2Proof.Machine.execAddRbEb r e s
  | .addRwEw r e => Sys2Proof.Machine.execAddRwEw r e s
  | .addAlDb imm => Sys2Proof.Machine.execAddAlDb imm s
  | .addAxDw imm => Sys2Proof.Machine.execAddAxDw imm s
  | .orEbRb e r => Sys2Proof.Machine.execOrEbRb e r s
  | .orEwRw e r => Sys2Proof.Machine.execOrEwRw e r s
  | .orRbEb r e => Sys2Proof.Machine.execOrRbEb r e s
  | .orRwEw r e => Sys2Proof.Machine.execOrRwEw r e s
  | .orAlDb imm => Sys2Proof.Machine.execOrAlDb imm s
  | .orAxDw imm => Sys2Proof.Machine.execOrAxDw imm s
  | .adcEbRb e r => Sys2Proof.Machine.execAdcEbRb e r s
  | .adcEwRw e r => Sys2Proof.Machine.execAdcEwRw e r s
  | .adcRbEb r e => Sys2Proof.Machine.execAdcRbEb r e s
  | .adcRwEw r e => Sys2Proof.Machine.execAdcRwEw r e s
  | .adcAlDb imm => Sys2Proof.Machine.execAdcAlDb imm s
  | .adcAxDw imm => Sys2Proof.Machine.execAdcAxDw imm s
  | .sbbEbRb e r => Sys2Proof.Machine.execSbbEbRb e r s
  | .sbbEwRw e r => Sys2Proof.Machine.execSbbEwRw e r s
  | .sbbRbEb r e => Sys2Proof.Machine.execSbbRbEb r e s
  | .sbbRwEw r e => Sys2Proof.Machine.execSbbRwEw r e s
  | .sbbAlDb imm => Sys2Proof.Machine.execSbbAlDb imm s
  | .sbbAxDw imm => Sys2Proof.Machine.execSbbAxDw imm s
  | .andEbRb e r => Sys2Proof.Machine.execAndEbRb e r s
  | .andEwRw e r => Sys2Proof.Machine.execAndEwRw e r s
  | .andRbEb r e => Sys2Proof.Machine.execAndRbEb r e s
  | .andRwEw r e => Sys2Proof.Machine.execAndRwEw r e s
  | .andAlDb imm => Sys2Proof.Machine.execAndAlDb imm s
  | .andAxDw imm => Sys2Proof.Machine.execAndAxDw imm s
  | .subEbRb e r => Sys2Proof.Machine.execSubEbRb e r s
  | .subEwRw e r => Sys2Proof.Machine.execSubEwRw e r s
  | .subRbEb r e => Sys2Proof.Machine.execSubRbEb r e s
  | .subRwEw r e => Sys2Proof.Machine.execSubRwEw r e s
  | .subAlDb imm => Sys2Proof.Machine.execSubAlDb imm s
  | .subAxDw imm => Sys2Proof.Machine.execSubAxDw imm s
  | .xorEbRb e r => Sys2Proof.Machine.execXorEbRb e r s
  | .xorEwRw e r => Sys2Proof.Machine.execXorEwRw e r s
  | .xorRbEb r e => Sys2Proof.Machine.execXorRbEb r e s
  | .xorRwEw r e => Sys2Proof.Machine.execXorRwEw r e s
  | .xorAlDb imm => Sys2Proof.Machine.execXorAlDb imm s
  | .xorAxDw imm => Sys2Proof.Machine.execXorAxDw imm s
  | .cmpEbRb e r => Sys2Proof.Machine.execCmpEbRb e r s
  | .cmpEwRw e r => Sys2Proof.Machine.execCmpEwRw e r s
  | .cmpRbEb r e => Sys2Proof.Machine.execCmpRbEb r e s
  | .cmpRwEw r e => Sys2Proof.Machine.execCmpRwEw r e s
  | .cmpAlDb imm => Sys2Proof.Machine.execCmpAlDb imm s
  | .cmpAxDw imm => Sys2Proof.Machine.execCmpAxDw imm s
  | .addEbDb e imm => Sys2Proof.Machine.execAddEbDb e imm s
  | .orEbDb e imm => Sys2Proof.Machine.execOrEbDb e imm s
  | .adcEbDb e imm => Sys2Proof.Machine.execAdcEbDb e imm s
  | .sbbEbDb e imm => Sys2Proof.Machine.execSbbEbDb e imm s
  | .andEbDb e imm => Sys2Proof.Machine.execAndEbDb e imm s
  | .subEbDb e imm => Sys2Proof.Machine.execSubEbDb e imm s
  | .xorEbDb e imm => Sys2Proof.Machine.execXorEbDb e imm s
  | .cmpEbDb e imm => Sys2Proof.Machine.execCmpEbDb e imm s
  | .addEwDw e imm => Sys2Proof.Machine.execAddEwDw e imm s
  | .orEwDw e imm => Sys2Proof.Machine.execOrEwDw e imm s
  | .adcEwDw e imm => Sys2Proof.Machine.execAdcEwDw e imm s
  | .sbbEwDw e imm => Sys2Proof.Machine.execSbbEwDw e imm s
  | .andEwDw e imm => Sys2Proof.Machine.execAndEwDw e imm s
  | .subEwDw e imm => Sys2Proof.Machine.execSubEwDw e imm s
  | .xorEwDw e imm => Sys2Proof.Machine.execXorEwDw e imm s
  | .cmpEwDw e imm => Sys2Proof.Machine.execCmpEwDw e imm s
  | .addEwDb e imm => Sys2Proof.Machine.execAddEwDb e imm s
  | .adcEwDb e imm => Sys2Proof.Machine.execAdcEwDb e imm s
  | .sbbEwDb e imm => Sys2Proof.Machine.execSbbEwDb e imm s
  | .subEwDb e imm => Sys2Proof.Machine.execSubEwDb e imm s
  | .cmpEwDb e imm => Sys2Proof.Machine.execCmpEwDb e imm s
  | .incRw r => Sys2Proof.Machine.execIncRw r s
  | .decRw r => Sys2Proof.Machine.execDecRw r s
  | .pushRw r => Sys2Proof.Machine.execPushRw r s
  | .popRw r => Sys2Proof.Machine.execPopRw r s
  | .bound r e => Sys2Proof.Machine.execBound r e s
  | .arpl e r => Sys2Proof.Machine.execArpl e r s
  | .pushDw imm => Sys2Proof.Machine.execPushDw imm s
  | .imulRwEwDw r e imm => Sys2Proof.Machine.execImulRwEwDw r e imm s
  | .pushDb imm => Sys2Proof.Machine.execPushDb imm s
  | .imulRwEwDb r e imm => Sys2Proof.Machine.execImulRwEwDb r e imm s
  | .jo disp => Sys2Proof.Machine.execJo disp s
  | .jno disp => Sys2Proof.Machine.execJno disp s
  | .jb disp => Sys2Proof.Machine.execJb disp s
  | .jae disp => Sys2Proof.Machine.execJae disp s
  | .je disp => Sys2Proof.Machine.execJe disp s
  | .jne disp => Sys2Proof.Machine.execJne disp s
  | .jbe disp => Sys2Proof.Machine.execJbe disp s
  | .ja disp => Sys2Proof.Machine.execJa disp s
  | .js disp => Sys2Proof.Machine.execJs disp s
  | .jns disp => Sys2Proof.Machine.execJns disp s
  | .jp disp => Sys2Proof.Machine.execJp disp s
  | .jnp disp => Sys2Proof.Machine.execJnp disp s
  | .jl disp => Sys2Proof.Machine.execJl disp s
  | .jge disp => Sys2Proof.Machine.execJge disp s
  | .jle disp => Sys2Proof.Machine.execJle disp s
  | .jg disp => Sys2Proof.Machine.execJg disp s
  | .testEbRb e r => Sys2Proof.Machine.execTestEbRb e r s
  | .testEwRw e r => Sys2Proof.Machine.execTestEwRw e r s
  | .xchgEbRb e r => Sys2Proof.Machine.execXchgEbRb e r s
  | .xchgEwRw e r => Sys2Proof.Machine.execXchgEwRw e r s
  | .movEbRb e r => Sys2Proof.Machine.execMovEbRb e r s
  | .movEwRw e r => Sys2Proof.Machine.execMovEwRw e r s
  | .movRbEb r e => Sys2Proof.Machine.execMovRbEb r e s
  | .movRwEw r e => Sys2Proof.Machine.execMovRwEw r e s
  | .movEwEs e => Sys2Proof.Machine.execMovEwEs e s
  | .movEwCs e => Sys2Proof.Machine.execMovEwCs e s
  | .movEwSs e => Sys2Proof.Machine.execMovEwSs e s
  | .movEwDs e => Sys2Proof.Machine.execMovEwDs e s
  | .lea r e => Sys2Proof.Machine.execLea r e s
  | .movEsEw e => Sys2Proof.Machine.execMovEsEw e s
  | .movSsEw e => Sys2Proof.Machine.execMovSsEw e s
  | .movDsEw e => Sys2Proof.Machine.execMovDsEw e s
  | .popMw e => Sys2Proof.Machine.execPopMw e s
  | .xchgAxRw r => Sys2Proof.Machine.execXchgAxRw r s
  | .callCd off sel => Sys2Proof.Machine.execCallCd off sel s
  | .movAlXb off => Sys2Proof.Machine.execMovAlXb off s
  | .movAxXw off => Sys2Proof.Machine.execMovAxXw off s
  | .movXbAl off => Sys2Proof.Machine.execMovXbAl off s
  | .movXwAx off => Sys2Proof.Machine.execMovXwAx off s
  | .testAlDb imm => Sys2Proof.Machine.execTestAlDb imm s
  | .testAxDw imm => Sys2Proof.Machine.execTestAxDw imm s
  | .movRbDb r imm => Sys2Proof.Machine.execMovRbDb r imm s
  | .movRwDw r imm => Sys2Proof.Machine.execMovRwDw r imm s
  | .rolEbDb e imm => Sys2Proof.Machine.execRolEbDb e imm s
  | .rorEbDb e imm => Sys2Proof.Machine.execRorEbDb e imm s
  | .rclEbDb e imm => Sys2Proof.Machine.execRclEbDb e imm s
  | .rcrEbDb e imm => Sys2Proof.Machine.execRcrEbDb e imm s
  | .shlEbDb e imm => Sys2Proof.Machine.execShlEbDb e imm s
  | .shrEbDb e imm => Sys2Proof.Machine.execShrEbDb e imm s
  | .sarEbDb e imm => Sys2Proof.Machine.execSarEbDb e imm s
  | .rolEwDb e imm => Sys2Proof.Machine.execRolEwDb e imm s
  | .rorEwDb e imm => Sys2Proof.Machine.execRorEwDb e imm s
  | .rclEwDb e imm => Sys2Proof.Machine.execRclEwDb e imm s
  | .rcrEwDb e imm => Sys2Proof.Machine.execRcrEwDb e imm s
  | .shlEwDb e imm => Sys2Proof.Machine.execShlEwDb e imm s
  | .shrEwDb e imm => Sys2Proof.Machine.execShrEwDb e imm s
  | .sarEwDb e imm => Sys2Proof.Machine.execSarEwDb e imm s
  | .retDw imm => Sys2Proof.Machine.execRetDw imm s
  | .les r e => Sys2Proof.Machine.execLes r e s
  | .lds r e => Sys2Proof.Machine.execLds r e s
  | .movEbDb e imm => Sys2Proof.Machine.execMovEbDb e imm s
  | .movEwDw e imm => Sys2Proof.Machine.execMovEwDw e imm s
  | .enter size level => Sys2Proof.Machine.execEnter size level s
  | .retfDw imm => Sys2Proof.Machine.execRetfDw imm s
  | .intDb imm => Sys2Proof.Machine.execIntDb imm s
  | .rolEb1 e => Sys2Proof.Machine.execRolEb1 e s
  | .rorEb1 e => Sys2Proof.Machine.execRorEb1 e s
  | .rclEb1 e => Sys2Proof.Machine.execRclEb1 e s
  | .rcrEb1 e => Sys2Proof.Machine.execRcrEb1 e s
  | .shlEb1 e => Sys2Proof.Machine.execShlEb1 e s
  | .shrEb1 e => Sys2Proof.Machine.execShrEb1 e s
  | .sarEb1 e => Sys2Proof.Machine.execSarEb1 e s
  | .rolEw1 e => Sys2Proof.Machine.execRolEw1 e s
  | .rorEw1 e => Sys2Proof.Machine.execRorEw1 e s
  | .rclEw1 e => Sys2Proof.Machine.execRclEw1 e s
  | .rcrEw1 e => Sys2Proof.Machine.execRcrEw1 e s
  | .shlEw1 e => Sys2Proof.Machine.execShlEw1 e s
  | .shrEw1 e => Sys2Proof.Machine.execShrEw1 e s
  | .sarEw1 e => Sys2Proof.Machine.execSarEw1 e s
  | .rolEbCl e => Sys2Proof.Machine.execRolEbCl e s
  | .rorEbCl e => Sys2Proof.Machine.execRorEbCl e s
  | .rclEbCl e => Sys2Proof.Machine.execRclEbCl e s
  | .rcrEbCl e => Sys2Proof.Machine.execRcrEbCl e s
  | .shlEbCl e => Sys2Proof.Machine.execShlEbCl e s
  | .shrEbCl e => Sys2Proof.Machine.execShrEbCl e s
  | .sarEbCl e => Sys2Proof.Machine.execSarEbCl e s
  | .rolEwCl e => Sys2Proof.Machine.execRolEwCl e s
  | .rorEwCl e => Sys2Proof.Machine.execRorEwCl e s
  | .rclEwCl e => Sys2Proof.Machine.execRclEwCl e s
  | .rcrEwCl e => Sys2Proof.Machine.execRcrEwCl e s
  | .shlEwCl e => Sys2Proof.Machine.execShlEwCl e s
  | .shrEwCl e => Sys2Proof.Machine.execShrEwCl e s
  | .sarEwCl e => Sys2Proof.Machine.execSarEwCl e s
  | .undefD4 aad second => Sys2Proof.Machine.execUndefD4 aad second s
  | .esc op ext e => Sys2Proof.Machine.execEsc op ext e s
  | .loopne disp => Sys2Proof.Machine.execLoopne disp s
  | .loope disp => Sys2Proof.Machine.execLoope disp s
  | .loop disp => Sys2Proof.Machine.execLoop disp s
  | .jcxz disp => Sys2Proof.Machine.execJcxz disp s
  | .inAlDb imm => Sys2Proof.Machine.execInAlDb imm s
  | .inAxDb imm => Sys2Proof.Machine.execInAxDb imm s
  | .outDbAl imm => Sys2Proof.Machine.execOutDbAl imm s
  | .outDbAx imm => Sys2Proof.Machine.execOutDbAx imm s
  | .callCw disp => Sys2Proof.Machine.execCallCw disp s
  | .jmpCw disp => Sys2Proof.Machine.execJmpCw disp s
  | .jmpCd off sel => Sys2Proof.Machine.execJmpCd off sel s
  | .jmpCb disp => Sys2Proof.Machine.execJmpCb disp s
  | .testEbDb e imm => Sys2Proof.Machine.execTestEbDb e imm s
  | .notEb e => Sys2Proof.Machine.execNotEb e s
  | .negEb e => Sys2Proof.Machine.execNegEb e s
  | .mulEb e => Sys2Proof.Machine.execMulEb e s
  | .imulEb e => Sys2Proof.Machine.execImulEb e s
  | .divEb e => Sys2Proof.Machine.execDivEb e s
  | .idivEb e => Sys2Proof.Machine.execIdivEb e s
  | .testEwDw e imm => Sys2Proof.Machine.execTestEwDw e imm s
  | .notEw e => Sys2Proof.Machine.execNotEw e s
  | .negEw e => Sys2Proof.Machine.execNegEw e s
  | .mulEw e => Sys2Proof.Machine.execMulEw e s
  | .imulEw e => Sys2Proof.Machine.execImulEw e s
  | .divEw e => Sys2Proof.Machine.execDivEw e s
  | .idivEw e => Sys2Proof.Machine.execIdivEw e s
  | .incEb e => Sys2Proof.Machine.execIncEb e s
  | .decEb e => Sys2Proof.Machine.execDecEb e s
  | .incEw e => Sys2Proof.Machine.execIncEw e s
  | .decEw e => Sys2Proof.Machine.execDecEw e s
  | .callEw e => Sys2Proof.Machine.execCallEw e s
  | .callEd e => Sys2Proof.Machine.execCallEd e s
  | .jmpEw e => Sys2Proof.Machine.execJmpEw e s
  | .jmpEd e => Sys2Proof.Machine.execJmpEd e s
  | .pushMw e => Sys2Proof.Machine.execPushMw e s
  | .sldt e => Sys2Proof.Machine.execSldt e s
  | .str e => Sys2Proof.Machine.execStr e s
  | .lldt e => Sys2Proof.Machine.execLldt e s
  | .ltr e => Sys2Proof.Machine.execLtr e s
  | .verr e => Sys2Proof.Machine.execVerr e s
  | .verw e => Sys2Proof.Machine.execVerw e s
  | .sgdt e => Sys2Proof.Machine.execSgdt e s
  | .sidt e => Sys2Proof.Machine.execSidt e s
  | .lgdt e => Sys2Proof.Machine.execLgdt e s
  | .lidt e => Sys2Proof.Machine.execLidt e s
  | .smsw e => Sys2Proof.Machine.execSmsw e s
  | .lmsw e => Sys2Proof.Machine.execLmsw e s
  | .lar r e => Sys2Proof.Machine.execLar r e s
  | .lsl r e => Sys2Proof.Machine.execLsl r e s
  | .undef0F second => Sys2Proof.Machine.execUndef0F second s
  | .undef83x1 => Sys2Proof.Machine.execUndef83x1 s
  | .undef83x4 => Sys2Proof.Machine.execUndef83x4 s
  | .undef83x6 => Sys2Proof.Machine.execUndef83x6 s
  | .pushEs => Sys2Proof.Machine.execPushEs s
  | .popEs => Sys2Proof.Machine.execPopEs s
  | .pushCs => Sys2Proof.Machine.execPushCs s
  | .pushSs => Sys2Proof.Machine.execPushSs s
  | .popSs => Sys2Proof.Machine.execPopSs s
  | .pushDs => Sys2Proof.Machine.execPushDs s
  | .popDs => Sys2Proof.Machine.execPopDs s
  | .segEs => Sys2Proof.Machine.execSegEs s
  | .segCs => Sys2Proof.Machine.execSegCs s
  | .segSs => Sys2Proof.Machine.execSegSs s
  | .segDs => Sys2Proof.Machine.execSegDs s
  | .lock => Sys2Proof.Machine.execLock s
  | .repne => Sys2Proof.Machine.execRepne s
  | .rep => Sys2Proof.Machine.execRep s
  | .daa => Sys2Proof.Machine.execDaa s
  | .das => Sys2Proof.Machine.execDas s
  | .aaa => Sys2Proof.Machine.execAaa s
  | .aas => Sys2Proof.Machine.execAas s
  | .pusha => Sys2Proof.Machine.execPusha s
  | .popa => Sys2Proof.Machine.execPopa s
  | .undef64 => Sys2Proof.Machine.execUndef64 s
  | .undef65 => Sys2Proof.Machine.execUndef65 s
  | .undef66 => Sys2Proof.Machine.execUndef66 s
  | .undef67 => Sys2Proof.Machine.execUndef67 s
  | .insb => Sys2Proof.Machine.execInsb s
  | .insw => Sys2Proof.Machine.execInsw s
  | .outsb => Sys2Proof.Machine.execOutsb s
  | .outsw => Sys2Proof.Machine.execOutsw s
  | .undef82 => Sys2Proof.Machine.execUndef82 s
  | .undef8Cx4to7 => Sys2Proof.Machine.execUndef8Cx4to7 s
  | .undef8Ex1 => Sys2Proof.Machine.execUndef8Ex1 s
  | .undef8Ex4to7 => Sys2Proof.Machine.execUndef8Ex4to7 s
  | .undef8Fx1 => Sys2Proof.Machine.execUndef8Fx1 s
  | .undef8Fx2 => Sys2Proof.Machine.execUndef8Fx2 s
  | .undef8Fx3 => Sys2Proof.Machine.execUndef8Fx3 s
  | .undef8Fx4 => Sys2Proof.Machine.execUndef8Fx4 s
  | .undef8Fx5 => Sys2Proof.Machine.execUndef8Fx5 s
  | .undef8Fx6 => Sys2Proof.Machine.execUndef8Fx6 s
  | .undef8Fx7 => Sys2Proof.Machine.execUndef8Fx7 s
  | .nop => Sys2Proof.Machine.execNop s
  | .cbw => Sys2Proof.Machine.execCbw s
  | .cwd => Sys2Proof.Machine.execCwd s
  | .wait => Sys2Proof.Machine.execWait s
  | .pushf => Sys2Proof.Machine.execPushf s
  | .popf => Sys2Proof.Machine.execPopf s
  | .sahf => Sys2Proof.Machine.execSahf s
  | .lahf => Sys2Proof.Machine.execLahf s
  | .movsb => Sys2Proof.Machine.execMovsb s
  | .movsw => Sys2Proof.Machine.execMovsw s
  | .cmpsb => Sys2Proof.Machine.execCmpsb s
  | .cmpsw => Sys2Proof.Machine.execCmpsw s
  | .stosb => Sys2Proof.Machine.execStosb s
  | .stosw => Sys2Proof.Machine.execStosw s
  | .lodsb => Sys2Proof.Machine.execLodsb s
  | .lodsw => Sys2Proof.Machine.execLodsw s
  | .scasb => Sys2Proof.Machine.execScasb s
  | .scasw => Sys2Proof.Machine.execScasw s
  | .undefC0x6 => Sys2Proof.Machine.execUndefC0x6 s
  | .undefC1x6 => Sys2Proof.Machine.execUndefC1x6 s
  | .ret => Sys2Proof.Machine.execRet s
  | .undefC6x1 => Sys2Proof.Machine.execUndefC6x1 s
  | .undefC6x2 => Sys2Proof.Machine.execUndefC6x2 s
  | .undefC6x3 => Sys2Proof.Machine.execUndefC6x3 s
  | .undefC6x4 => Sys2Proof.Machine.execUndefC6x4 s
  | .undefC6x5 => Sys2Proof.Machine.execUndefC6x5 s
  | .undefC6x6 => Sys2Proof.Machine.execUndefC6x6 s
  | .undefC6x7 => Sys2Proof.Machine.execUndefC6x7 s
  | .undefC7x1 => Sys2Proof.Machine.execUndefC7x1 s
  | .undefC7x2 => Sys2Proof.Machine.execUndefC7x2 s
  | .undefC7x3 => Sys2Proof.Machine.execUndefC7x3 s
  | .undefC7x4 => Sys2Proof.Machine.execUndefC7x4 s
  | .undefC7x5 => Sys2Proof.Machine.execUndefC7x5 s
  | .undefC7x6 => Sys2Proof.Machine.execUndefC7x6 s
  | .undefC7x7 => Sys2Proof.Machine.execUndefC7x7 s
  | .leave => Sys2Proof.Machine.execLeave s
  | .retf => Sys2Proof.Machine.execRetf s
  | .int3 => Sys2Proof.Machine.execInt3 s
  | .into => Sys2Proof.Machine.execInto s
  | .iret => Sys2Proof.Machine.execIret s
  | .undefD0x6 => Sys2Proof.Machine.execUndefD0x6 s
  | .undefD1x6 => Sys2Proof.Machine.execUndefD1x6 s
  | .undefD2x6 => Sys2Proof.Machine.execUndefD2x6 s
  | .undefD3x6 => Sys2Proof.Machine.execUndefD3x6 s
  | .aam => Sys2Proof.Machine.execAam s
  | .aad => Sys2Proof.Machine.execAad s
  | .undefD6 => Sys2Proof.Machine.execUndefD6 s
  | .xlat => Sys2Proof.Machine.execXlat s
  | .inAlDx => Sys2Proof.Machine.execInAlDx s
  | .inAxDx => Sys2Proof.Machine.execInAxDx s
  | .outDxAl => Sys2Proof.Machine.execOutDxAl s
  | .outDxAx => Sys2Proof.Machine.execOutDxAx s
  | .undefF1 => Sys2Proof.Machine.execUndefF1 s
  | .hlt => Sys2Proof.Machine.execHlt s
  | .cmc => Sys2Proof.Machine.execCmc s
  | .undefF6x1 => Sys2Proof.Machine.execUndefF6x1 s
  | .undefF7x1 => Sys2Proof.Machine.execUndefF7x1 s
  | .clc => Sys2Proof.Machine.execClc s
  | .stc => Sys2Proof.Machine.execStc s
  | .cli => Sys2Proof.Machine.execCli s
  | .sti => Sys2Proof.Machine.execSti s
  | .cld => Sys2Proof.Machine.execCld s
  | .std => Sys2Proof.Machine.execStd s
  | .undefFEx2 => Sys2Proof.Machine.execUndefFEx2 s
  | .undefFEx3 => Sys2Proof.Machine.execUndefFEx3 s
  | .undefFEx4 => Sys2Proof.Machine.execUndefFEx4 s
  | .undefFEx5 => Sys2Proof.Machine.execUndefFEx5 s
  | .undefFEx6 => Sys2Proof.Machine.execUndefFEx6 s
  | .undefFEx7 => Sys2Proof.Machine.execUndefFEx7 s
  | .undefFFx7 => Sys2Proof.Machine.execUndefFFx7 s
  | .undef0F00x6to7 => Sys2Proof.Machine.execUndef0F00x6to7 s
  | .undef0F01x5 => Sys2Proof.Machine.execUndef0F01x5 s
  | .undef0F01x7 => Sys2Proof.Machine.execUndef0F01x7 s
  | .clts => Sys2Proof.Machine.execClts s

end Sys2Proof.Machine
end

