-- ==== Sys2Proof/Machine/Boundary.lean ====
section
/-! DEFINITION. What surrounds an instruction: the fetch (spec/20_memory.md R116; spec/30_encoding.md R201, R230), the instruction
boundary and its events (spec/60_exceptions.md R652, R653, R670, R672), the halt and shutdown states (R695, R696), and the
RESET input (spec/70_reset_and_hazards.md R730, R731). -/

namespace Sys2Proof.Machine

/-! ### Inputs (00_scope.md R8(c)) -/

/-- The inputs seen before a step: what other agents do, unless the bus is locked (R140, R142, R532); then the levels, which replace
the old ones, and the requests, which are remembered (R652, R670). -/
def State.accept (s : State) (g : Signals) (rest : List Signals) : State :=
  { s.hear g.acts with
    inputs := rest
    pins := g.pins
    nmiPending := s.nmiPending || g.nmi
    int9Pending := s.int9Pending || g.overrun }

/-- The general registers after the RESET input: unspecified, so free values (R731). -/
def freeGpr (n : Nat) : Gpr where
  ax := Config.freeWord n
  cx := Config.freeWord (n + 1)
  dx := Config.freeWord (n + 2)
  bx := Config.freeWord (n + 3)
  sp := Config.freeWord (n + 4)
  bp := Config.freeWord (n + 5)
  si := Config.freeWord (n + 6)
  di := Config.freeWord (n + 7)

/-- LDTR or TR after the RESET input: unspecified and invalid (R731). -/
def freeSysReg (n : Nat) : SysReg :=
  { sel := Config.freeWord n, base := Config.freeBase n, limit := Config.freeWord (n + 1), valid := false }

/-- What RESET makes of the processor, with everything outside it as it stands; every element R731 leaves unspecified is a free
value. -/
def State.afterReset (s : State) : State :=
  { State.reset with
    gpr := freeGpr s.freeCtr
    gdtr := { base := Config.freeBase (s.freeCtr + 8), limit := Config.freeWord (s.freeCtr + 8) }
    ldtr := freeSysReg (s.freeCtr + 9)
    tr := freeSysReg (s.freeCtr + 11)
    mem := s.mem
    bus := s.bus
    portFeed := s.portFeed
    portLog := s.portLog
    escLog := s.escLog
    npxReplies := s.npxReplies
    pins := s.pins
    inputs := s.inputs
    platform := s.platform
    freeCtr := s.freeCtr + 13 }

/-- A RESET falls into the step now beginning, once `n` of its bus cycles have been made (R730). -/
def State.awaitReset (s : State) (n : Nat) : State := { s with bus := { s.bus with reset := .after n } }

/-- The end of a step into which a RESET fell: what the step has done on the bus before it stays, nothing else of the step does (R730).
Where the step has made no more cycles than were to come before the RESET, it comes now. -/
def State.endReset (s : State) : State :=
  State.afterReset { s.release with bus := { s.release.bus with reset := .quiet } }

/-! ### Fetch and decode -/

/-- A byte can be fetched at an offset: a valid CS and the limit in Protected Mode; in both modes no offset above FFFFH
(R116, R111). -/
def fetchOk (s : State) (off : Nat) : Bool :=
  decide (off < 0x10000) && (!s.msw.pe || (decide (s.cs.ar ≠ 0) && decide (off ≤ s.cs.limit.toNat)))

/-- Up to `n` instruction bytes from an offset on, ending before the first that can not be fetched. -/
def fetchBytes (s : State) (off : Nat) : Nat → List Byte
  | 0 => []
  | n + 1 => if fetchOk s off then s.segByte .cs (BitVec.ofNat 16 off) :: fetchBytes s (off + 1) n else []

/-- The offset of the next byte to decode: IP stays at the first prefix while prefixes are read (R230). -/
def State.fetchOffset (s : State) : Nat := s.ip.toNat + s.pfx.count

/-- The bytes available to the decoder: six after the prefixes at most, and no more than ten in all (R201). -/
def State.fetched (s : State) : List Byte := fetchBytes s s.fetchOffset (min 6 (10 - s.pfx.count))

/-- The bytes already show an instruction of Protected Mode alone: #UD in Real Address Mode whatever follows (47_system.md
R610, R640(11)). -/
def protectedOnly : List Byte → Bool
  | 0x63 :: _ => true
  | 0x0F :: 0x02 :: _ => true
  | 0x0F :: 0x03 :: _ => true
  | 0x0F :: 0x00 :: m :: _ => decide ((m.extractLsb' 3 3).toNat < 6)
  | _ => false

/-- What a fetch that runs out of bytes raises: #GP(0), interrupt 13 in Real Address Mode (R116, R201). -/
def fetchTrap (s : State) : Trap := if !s.msw.pe && protectedOnly s.fetched then trapUd else trapGp0

/-- The latches at the start of a step: TF at the first byte of the instruction (R672), the inhibit of the boundary before it
(10_state.md R65), the LMSW marker (R750), the marker that a transfer has discarded the prefetch queue, and a bus lock kept by an
iteration before (43_string.md R444). -/
def State.beginInstr (s : State) : State :=
  { s with
    tfAtStart := if s.pfx.count = 0 then s.flags.tf else s.tfAtStart
    inhibitNext := false
    queueFlushed := false
    bus := if s.pfx.count = 0 ∧ s.bus.lock = .kept then { s.bus with lock := .active } else s.bus
    lmsw := if s.lmsw = .justSet then .armed else s.lmsw }

/-- One of `n` instruction bytes has been stored to since the last control transfer. -/
def staleBytes (s : State) (off : Nat) : Nat → Bool
  | 0 => false
  | n + 1 => decide ((s.segAddr .cs (BitVec.ofNat 16 off)).toNat ∈ s.storedSince) || staleBytes s (off + 1) n

/-- `len` bytes have been read at the fetch offset: where the instruction ends, and the flag of a store into the instruction
stream that the prefetch queue may hide (R753, D8, U15). -/
def State.withNext (s : State) (len : Nat) : State :=
  { s with
    nextIp := BitVec.ofNat 16 (s.fetchOffset + len)
    hazardStaleCode := s.hazardStaleCode || staleBytes s s.fetchOffset len }

/-- Fetch, decode and execute the instruction, or the prefix byte, at CS:IP. -/
def executeNext (s : State) : Host.Outcome State Fault Refusal :=
  match decode s.fetched with
  | .ok (i, rest) => exec i (s.withNext (s.fetched.length - rest.length))
  | .error _ => .next (raiseAt (s.withNext s.fetched.length) (fetchTrap s))

/-! ### The instruction boundary (R653) -/

/-- Order 2: the single-step trap (R672). -/
def singleStep (s : State) : State := if s.tfAtStart then deliver s 1 s.ip .external 0 else s

/-- Order 3: NMI (R670). -/
def takeNmi (s : State) : State :=
  if s.nmiPending && !s.nmiMasked && decide (s.run ≠ .shutdown) then
    deliver { s with nmiPending := false, nmiMasked := true } 2 s.ip .external 0
  else s

/-- Order 4: the processor-extension segment overrun (R652, R684). -/
def takeInt9 (s : State) : State :=
  if s.int9Pending && !s.nmiMasked && decide (s.run ≠ .shutdown) then
    deliver { s with int9Pending := false } 9 s.ip .external 0
  else s

/-- Order 5: INTR; the acknowledge cycle reads the vector and ends the request (R665), unless a RESET has ended bus activity (R730). -/
def takeIntr (s : State) : State :=
  match s.pins.intr with
  | none => s
  | some v =>
    if s.flags.ie && !s.stiShadow && decide (s.run ≠ .shutdown) && !s.dead then
      deliver { s with pins := { s.pins with intr := none } } v s.ip .external 0
    else s

/-- The external events, in order (R653; R696). -/
def takeExternal (s : State) : State := takeIntr (takeInt9 (takeNmi s))

/-- The flag of R750: the instruction after an LMSW that set PE has ended and was no near transfer. -/
def State.flagHazard (s : State) : State := if s.lmsw = .armed then s.missJump else s

/-- The addresses whose bytes differ between two memories. -/
def changedBytes (old new : Memory) : List Nat :=
  ((old ++ new).map Prod.fst).filter fun a => decide (old.read a ≠ new.read a)

/-- Remember which bytes the instruction has changed, for the flag of R753: all of them are forgotten once a transfer has
discarded the prefetch queue. -/
def State.noteStores (s : State) (before : Memory) : State :=
  { s with storedSince := if s.queueFlushed then [] else s.storedSince ++ changedBytes before s.mem }

/-- The events of one boundary: none in shutdown, none after a load of SS (R653, 10_state.md R65). -/
def boundaryEvents (s : State) : State :=
  if decide (s.run = .shutdown) || s.inhibitNext then s else takeExternal (singleStep s)

/-- A bus lock ends with its instruction, unless that is a repetition which goes on (43_string.md R444). -/
def State.endLock (s : State) : State := if s.bus.lock = .kept then s else s.release

/-- The end of a step that began with a given memory: while prefixes are being read there is no boundary. -/
def endInstr (before : Memory) (s : State) : State :=
  if s.pfx.count = 0 then { boundaryEvents (s.noteStores before).endLock.flagHazard with stiShadow := false } else s

/-! ### Run states (R68) -/

/-- Apply the boundary to the outcome of an instruction that began with a given memory. -/
def atBoundary (before : Memory) : Host.Outcome State Fault Refusal → Host.Outcome State Fault Refusal
  | .next t => .next (endInstr before t)
  | .fault f => .fault f
  | .refused r => .refused r

/-- Shutdown: an unmasked NMI alone is taken; a fault of its delivery is shutdown again (R695). -/
def leaveShutdown (s : State) : State :=
  if s.nmiPending && !s.nmiMasked then
    match attempt { s with nmiPending := false, nmiMasked := true } 2 s.ip .external 0 true with
    | .ok t => t.entered
    | .error f => f.st.shutDown
  else s

/-- One step once the inputs are taken in. -/
def runStep (s : State) : Host.Outcome State Fault Refusal :=
  match s.run with
  | .running => atBoundary s.mem (executeNext s.beginInstr)
  | .halted => .next (takeExternal s)
  | .shutdown => .next (leaveShutdown s)

/-- The step into which a RESET falls, after `n` of its bus cycles: before the first it takes the place of the step; later it cuts
short the instruction, the delivery or the task switch then under way (R730).  No step is refused that a RESET falls into: `finishLmsw`. -/
def resetStep (s : State) : Nat → Host.Outcome State Fault Refusal
  | 0 => .next (s.awaitReset 0).endReset
  | n + 1 =>
    match runStep (s.awaitReset (n + 1)) with
    | .next t => .next t.endReset
    | .fault f => .fault f
    | .refused r => .refused r

/-- One step: a RESET ends whatever the machine was doing (R730). -/
def stepMachine (s : State) : Host.Outcome State Fault Refusal :=
  match s.inputs with
  | [] => runStep s
  | g :: rest =>
    match g.reset with
    | none => runStep (s.accept g rest)
    | some n => resetStep (s.accept g rest) n

/-! ### Placing an instruction -/

/-- Put bytes where the next fetch reads them: from outside the machine, so into ROM as well. -/
def State.placeBytes (s : State) (k : Nat) : List Byte → State
  | [] => s
  | b :: bs =>
    State.placeBytes { s with mem := s.mem.write (s.segAddr .cs (BitVec.ofNat 16 s.fetchOffset) k).toNat b } (k + 1) bs

end Sys2Proof.Machine
end

