-- ==== Sys2Proof/Machine/Step.lean ====
section
/-! DEFINITION. One step of the machine, and the placing of one instruction where it fetches next. -/

namespace Sys2Proof.Machine

/-- One step (spec/60_exceptions.md R653): inputs, one instruction or prefix byte or one iteration of a repeated string
instruction, then the instruction boundary. -/
def step (s : State) : Host.Outcome State Fault Refusal := stepMachine s

/-- The instruction of a table word stored where `step` fetches: ten bytes at CS:IP, zero above the word's bits.  A program
is otherwise in memory before the machine runs (notes/assumptions/5.md). -/
def State.withFetchWord (s : State) (nbits w : Nat) : State := s.placeBytes 0 (bytesOfNat 10 (w % 2 ^ nbits))

end Sys2Proof.Machine
end

