-- ==== Sys2Proof/Safety.lean ====
section
/-! DEFINITION. The terms in which claims about the machine are stated: when an operand can be accessed, what a completed
instruction leaves unchanged, and the invariant that every step keeps. -/

namespace Sys2Proof.Machine

/-! ### Conditions on a state -/

/-- The LOCK prefix is allowed: in Protected Mode it needs CPL ≤ IOPL (45_flag_misc.md R521). -/
def LockAllowed (s : State) : Prop := s.pfx.lock = true → s.msw.pe = true → s.cpl ≤ s.flags.iopl

/-- IN, OUT, INS, OUTS, CLI and STI are allowed: in Protected Mode CPL ≤ IOPL (R517). -/
def IoAllowed (s : State) : Prop := s.msw.pe = true → s.cpl ≤ s.flags.iopl

/-- The privileged instructions are allowed: CPL 0, which holds throughout Real Address Mode (R517). -/
def Privileged (s : State) : Prop := s.cpl = 0

/-- All checks of a reference of `n` bytes pass: validity, type and limit in Protected Mode (20_memory.md R110 to R113); in Real
Address Mode the bytes end by offset FFFFH (R118). -/
def Accessible (s : State) (r : SegReg) (off : Word) (n : Nat) (k : Access) : Prop :=
  if s.msw.pe = true then
    (s.seg r).ar ≠ 0 ∧ accessAllowed (s.seg r).ar k = true ∧ withinLimit (s.seg r) off n = true
  else off.toNat + n ≤ 0x10000

/-- No RESET falls into this step after its beginning (70_reset_and_hazards.md R730). -/
abbrev Unreset (s : State) : Prop := s.bus.reset = .quiet

/-- No other agent comes between the bus cycles of this step (20_memory.md R140), and no RESET. -/
def Alone (s : State) : Prop := s.bus.between = [] ∧ Unreset s

/-- `n` bytes at a segment's offset stand in plain memory: RAM, or ROM to be read (20_memory.md R85, R90); and no other agent comes
between (R140). -/
def InMemory (s : State) (r : SegReg) (off : Word) (n : Nat) (k : Access) : Prop :=
  Alone s ∧ ∀ i, i < n → s.kindAt (s.segAddr r off i).toNat = .ram ∨ (k = .read ∧ s.kindAt (s.segAddr r off i).toNat = .rom)

/-- A reference of `n` bytes passes its checks and reaches plain memory. -/
def Reachable (s : State) (r : SegReg) (off : Word) (n : Nat) (k : Access) : Prop :=
  Accessible s r off n k ∧ InMemory s r off n k

/-- An `eb` operand passes its checks and is a register or plain memory. -/
def Rm8Ok (s : State) (e : Rm8) (k : Access) : Prop :=
  match e with
  | .reg _ => True
  | .mem m => Reachable s (s.memSeg m) (s.effOffset m) 1 k

/-- An `ew` operand passes its checks and is a register or plain memory. -/
def Rm16Ok (s : State) (e : Rm16) (k : Access) : Prop :=
  match e with
  | .reg _ => True
  | .mem m => Reachable s (s.memSeg m) (s.effOffset m) 2 k

/-- A word can be reached at a segment's offset. -/
def WordOk (s : State) (r : SegReg) (off : Word) (k : Access) : Prop := Reachable s r off 2 k

/-- Both words of a 4-byte pointer in memory can be read (30_encoding.md R220; 44_control_transfer.md R450). -/
def PointerOk (s : State) (m : MemOp) : Prop :=
  WordOk s (s.memSeg m) (s.effOffset m) .read ∧ WordOk s (s.memSeg m) (s.effOffset m + 2) .read

/-- An `ew` operand passes its checks, whatever answers at its address. -/
def Rm16Open (s : State) (e : Rm16) (k : Access) : Prop :=
  match e with
  | .reg _ => True
  | .mem m => Accessible s (s.memSeg m) (s.effOffset m) 2 k

/-- Both words of a 4-byte pointer in memory pass their checks. -/
def PointerOpen (s : State) (m : MemOp) : Prop :=
  Accessible s (s.memSeg m) (s.effOffset m) 2 .read ∧ Accessible s (s.memSeg m) (s.effOffset m + 2) 2 .read

/-- `n` words can be pushed: those at SP - 2, SP - 4, … (10_state.md R26). -/
def StackRoom (s : State) (n : Nat) : Prop :=
  ∀ i, i < n → WordOk s .ss (s.gpr.sp - BitVec.ofNat 16 (2 * (i + 1))) .write

/-- `n` words can be popped: those at SP, SP + 2, …. -/
def StackHolds (s : State) (n : Nat) : Prop := ∀ i, i < n → WordOk s .ss (s.gpr.sp + BitVec.ofNat 16 (2 * i)) .read

/-- A near transfer may go to an offset (44_control_transfer.md R451). -/
def NearOk (s : State) (t : Word) : Prop := s.msw.pe = true → t.toNat ≤ s.cs.limit.toNat

/-! ### Operands before and after -/

/-- The value of an `eb` operand. -/
def rm8Value (s : State) : Rm8 → Byte
  | .reg r => s.reg8 r
  | .mem m => s.segByte (s.memSeg m) (s.effOffset m)

/-- The value of an `ew` operand. -/
def rm16Value (s : State) : Rm16 → Word
  | .reg r => s.reg16 r
  | .mem m => s.segWord (s.memSeg m) (s.effOffset m)

/-- The two physical addresses of a word at a segment's offset, low byte first (R80, R114). -/
def wordBytes (s : State) (r : SegReg) (off : Word) : List Nat := [(s.segAddr r off 0).toNat, (s.segAddr r off 1).toNat]

/-- The physical addresses an `eb` operand stores to. -/
def rm8Bytes (s : State) : Rm8 → List Nat
  | .reg _ => []
  | .mem m => [(s.segAddr (s.memSeg m) (s.effOffset m) 0).toNat]

/-- The physical addresses an `ew` operand stores to. -/
def rm16Bytes (s : State) : Rm16 → List Nat
  | .reg _ => []
  | .mem m => wordBytes s (s.memSeg m) (s.effOffset m)

/-- The physical addresses of `n` words pushed from SP down. -/
def pushedBytes (s : State) : Nat → List Nat
  | 0 => []
  | n + 1 => pushedBytes s n ++ wordBytes s .ss (s.gpr.sp - BitVec.ofNat 16 (2 * (n + 1)))

/-- What a later state `t` holds in the word at the addresses a segment's offset has in `s`. -/
def wordAfter (s t : State) (r : SegReg) (off : Word) : Word :=
  mkWord (t.mem.read (s.segAddr r off 0).toNat) (t.mem.read (s.segAddr r off 1).toNat)

/-- What a later state `t` holds where `s` places an `eb` operand. -/
def rm8After (s t : State) : Rm8 → Byte
  | .reg r => t.reg8 r
  | .mem m => t.mem.read (s.segAddr (s.memSeg m) (s.effOffset m) 0).toNat

/-- What a later state `t` holds where `s` places an `ew` operand. -/
def rm16After (s t : State) : Rm16 → Word
  | .reg r => t.reg16 r
  | .mem m => wordAfter s t (s.memSeg m) (s.effOffset m)

/-! ### Frames -/

/-- Every byte of memory outside a list of addresses is as it was. -/
def MemSameBut (s t : State) (as : List Nat) : Prop := ∀ a, a ∉ as → t.mem.read a = s.mem.read a

/-- Every byte of memory is as it was. -/
def MemSame (s t : State) : Prop := ∀ a, t.mem.read a = s.mem.read a

/-- Every byte register but the destination, and the registers that have no halves, are as they were. -/
def Regs8SameBut (s t : State) (e : Rm8) : Prop :=
  (∀ r, e ≠ .reg r → t.reg8 r = s.reg8 r) ∧
    t.gpr.sp = s.gpr.sp ∧ t.gpr.bp = s.gpr.bp ∧ t.gpr.si = s.gpr.si ∧ t.gpr.di = s.gpr.di

/-- Every word register but the destination is as it was. -/
def Regs16SameBut (s t : State) (e : Rm16) : Prop := ∀ r, e ≠ .reg r → t.reg16 r = s.reg16 r

/-- A value has been written to an `eb` operand, and to nothing else among registers and memory. -/
def Wrote8 (s t : State) (e : Rm8) (v : Byte) : Prop :=
  rm8After s t e = v ∧ Regs8SameBut s t e ∧ MemSameBut s t (rm8Bytes s e)

/-- A value has been written to an `ew` operand, and to nothing else among registers and memory. -/
def Wrote16 (s t : State) (e : Rm16) (v : Word) : Prop :=
  rm16After s t e = v ∧ Regs16SameBut s t e ∧ MemSameBut s t (rm16Bytes s e)

/-- Nothing among registers and memory has been written. -/
def WroteNothing (s t : State) : Prop := t.gpr = s.gpr ∧ MemSame s t

/-- Only the six status flags may differ. -/
def ControlFlagsSame (s t : State) : Prop :=
  t.flags = { s.flags with
    cf := t.flags.cf, pf := t.flags.pf, af := t.flags.af, zf := t.flags.zf, sf := t.flags.sf, ov := t.flags.ov }

/-- The instruction has ended at the next one, with no prefix left; beyond general registers, FLAGS, memory and the model's
counter of free values, nothing has changed: no segment or system register, no machine status, no pending event, no port. -/
def Ended (s t : State) : Prop :=
  t = { s with gpr := t.gpr, flags := t.flags, mem := t.mem, freeCtr := t.freeCtr, ip := s.nextIp, pfx := {} }

/-- The `i`-th of the words pushed from SP down, as a later state holds it. -/
def pushedWord (s t : State) (i : Nat) : Word := wordAfter s t .ss (s.gpr.sp - BitVec.ofNat 16 (2 * (i + 1)))

/-- Words have been pushed in order: each stands below the one before, and no other byte of memory has changed. -/
def Pushed (s t : State) (ws : List Word) : Prop :=
  (∀ i, (h : i < ws.length) → pushedWord s t i = ws[i]) ∧ MemSameBut s t (pushedBytes s ws.length)

/-- The next instruction, and nothing else: IP past this one, its prefixes ended. -/
def past (s : State) : State := { s with ip := s.nextIp, pfx := {} }

/-- A near transfer to an offset has ended the instruction: it is the jump that R750 asks for after an LMSW, and it discards the
prefetch queue (10_state.md R66). -/
def arrived (s : State) (ip : Word) : State := { s with ip := ip, pfx := {}, lmsw := .clear, queueFlushed := true }

/-- A far transfer to an offset has ended the instruction: it discards the prefetch queue, and is not the jump of R750. -/
def landed (s : State) (ip : Word) : State := { s with ip := ip, pfx := {}, queueFlushed := true }

/-- A handler has been entered: the machine runs, with no prefix and an empty prefetch queue; an LMSW that still awaited its jump has
missed it (60_exceptions.md R663, R664; 10_state.md R66; R750). -/
def inHandler (s : State) : State :=
  { s with
    run := .running
    pfx := {}
    lmsw := .clear
    hazardLmswNoJmp := s.hazardLmswNoJmp || decide (s.lmsw ≠ .clear)
    storedSince := []
    queueFlushed := true }

/-! ### Safe states -/

/-- A Real Address Mode segment register: any access, limit FFFFH, base selector times 16; CS may still have its reset-time
base (20_memory.md R87; 70_reset_and_hazards.md R740). -/
def RealSegment (s : State) (r : SegReg) : Prop :=
  (s.seg r).ar = 0x93 ∧ (s.seg r).limit = 0xFFFF ∧
    ((s.seg r).base = (s.seg r).sel.zeroExtend 24 <<< 4 ∨ (r = .cs ∧ (s.seg r).base = 0xFF0000))

/-- What holds at reset and after every step. -/
structure Invariant (s : State) : Prop where
  /-- memory is in its canonical form -/
  memory : s.mem.wf = true
  /-- in Real Address Mode IOPL is 0 and NT is clear (10_state.md R46, R47) -/
  realFlags : s.msw.pe = false → s.flags.iopl = 0 ∧ s.flags.nt = false
  /-- in Real Address Mode every segment register is as a real-mode load leaves it (R87) -/
  realSegments : s.msw.pe = false → ∀ r, RealSegment s r
  /-- at most ten bytes have been read of one instruction (30_encoding.md R201) -/
  prefixes : s.pfx.count ≤ 10
  /-- between instructions, and while halted or shut down, no prefix is in force -/
  noPrefix : s.pfx.count = 0 ∨ s.run ≠ .running → s.pfx = {}
  /-- only an LMSW that has set PE awaits its jump (70_reset_and_hazards.md R750) -/
  hazard : s.lmsw ≠ .clear → s.msw.pe = true
  /-- a RESET that fell into a step has come with it: none is left to come (R730) -/
  unreset : Unreset s

end Sys2Proof.Machine
end

