-- ==== Sys2Proof/Safety/Forms.lean ====
section
/-! DEFINITION. The instructions grouped as claims name them: the operand forms of the two-operand instructions
(spec/41_arithmetic.md R321), of the moves, pushes and shifts, the string instructions by element, the conditional jumps by
condition, and the undefined opcodes. -/

namespace Sys2Proof.Machine

/-- The memory operand of a ModRM operand, if it is one. -/
def memoryOf {R : Type} : RM R → Option MemOp
  | .reg _ => none
  | .mem m => some m

/-! ### Two-operand forms (R321) -/

/-- The byte forms: `eb,rb`, `rb,eb`, `AL,db`, `eb,db`. -/
inductive Form8 where
  | toRm (e : Rm8) (r : Reg8)
  | toReg (r : Reg8) (e : Rm8)
  | acc (imm : Byte)
  | imm (e : Rm8) (imm : Byte)
deriving DecidableEq, Repr

/-- The word forms: `ew,rw`, `rw,ew`, `AX,dw`, `ew,dw`. -/
inductive Form16 where
  | toRm (e : Rm16) (r : Reg16)
  | toReg (r : Reg16) (e : Rm16)
  | acc (imm : Word)
  | imm (e : Rm16) (imm : Word)
deriving DecidableEq, Repr

/-- The word forms of the arithmetic operations: those, and `ew,db` with the byte sign-extended. -/
inductive ArithForm16 where
  | plain (f : Form16)
  | sext (e : Rm16) (imm : Byte)
deriving DecidableEq, Repr

/-- The destination. -/
def Form8.dest : Form8 → Rm8
  | .toRm e _ => e
  | .toReg r _ => .reg r
  | .acc _ => .reg .al
  | .imm e _ => e

/-- The destination. -/
def Form16.dest : Form16 → Rm16
  | .toRm e _ => e
  | .toReg r _ => .reg r
  | .acc _ => .reg .ax
  | .imm e _ => e

/-- The destination. -/
def ArithForm16.dest : ArithForm16 → Rm16
  | .plain f => f.dest
  | .sext e _ => e

/-- The value of the source. -/
def Form8.source (s : State) : Form8 → Byte
  | .toRm _ r => s.reg8 r
  | .toReg _ e => rm8Value s e
  | .acc v => v
  | .imm _ v => v

/-- The value of the source. -/
def Form16.source (s : State) : Form16 → Word
  | .toRm _ r => s.reg16 r
  | .toReg _ e => rm16Value s e
  | .acc v => v
  | .imm _ v => v

/-- The value of the source. -/
def ArithForm16.source (s : State) : ArithForm16 → Word
  | .plain f => f.source s
  | .sext _ v => v.signExtend 16

/-- The memory operand, if there is one, passes its checks; `k` is what the operation does to its destination. -/
def Form8.Ok (s : State) (k : Access) : Form8 → Prop
  | .toRm e _ => Rm8Ok s e k
  | .toReg _ e => Rm8Ok s e .read
  | .acc _ => True
  | .imm e _ => Rm8Ok s e k

/-- The memory operand, if there is one, passes its checks. -/
def Form16.Ok (s : State) (k : Access) : Form16 → Prop
  | .toRm e _ => Rm16Ok s e k
  | .toReg _ e => Rm16Ok s e .read
  | .acc _ => True
  | .imm e _ => Rm16Ok s e k

/-- The memory operand, if there is one, passes its checks. -/
def ArithForm16.Ok (s : State) (k : Access) : ArithForm16 → Prop
  | .plain f => f.Ok s k
  | .sext e _ => Rm16Ok s e k

/-- The memory operand, if there is one, and what is done to it. -/
def Form8.memory (k : Access) : Form8 → Option (MemOp × Access)
  | .toRm e _ => (memoryOf e).map fun m => (m, k)
  | .toReg _ e => (memoryOf e).map fun m => (m, .read)
  | .acc _ => none
  | .imm e _ => (memoryOf e).map fun m => (m, k)

/-- The memory operand, if there is one, and what is done to it. -/
def Form16.memory (k : Access) : Form16 → Option (MemOp × Access)
  | .toRm e _ => (memoryOf e).map fun m => (m, k)
  | .toReg _ e => (memoryOf e).map fun m => (m, .read)
  | .acc _ => none
  | .imm e _ => (memoryOf e).map fun m => (m, k)

/-- The memory operand, if there is one, and what is done to it. -/
def ArithForm16.memory (k : Access) : ArithForm16 → Option (MemOp × Access)
  | .plain f => f.memory k
  | .sext e _ => (memoryOf e).map fun m => (m, k)

/-- The arithmetic operations. -/
inductive ArithOp where
  | add | adc | sub | sbb | cmp
deriving DecidableEq, Repr

/-- The logical operations. -/
inductive LogicOp where
  | and | or | xor
deriving DecidableEq, Repr

/-- What the operation does to its destination: CMP reads it, the others write it. -/
def ArithOp.access : ArithOp → Access
  | .cmp => .read
  | .add => .write
  | .adc => .write
  | .sub => .write
  | .sbb => .write

/-- The byte instruction of an operation and a form. -/
def ArithOp.instr8 : ArithOp → Form8 → Instr
  | .add, .toRm e r => .addEbRb e r
  | .add, .toReg r e => .addRbEb r e
  | .add, .acc v => .addAlDb v
  | .add, .imm e v => .addEbDb e v
  | .adc, .toRm e r => .adcEbRb e r
  | .adc, .toReg r e => .adcRbEb r e
  | .adc, .acc v => .adcAlDb v
  | .adc, .imm e v => .adcEbDb e v
  | .sub, .toRm e r => .subEbRb e r
  | .sub, .toReg r e => .subRbEb r e
  | .sub, .acc v => .subAlDb v
  | .sub, .imm e v => .subEbDb e v
  | .sbb, .toRm e r => .sbbEbRb e r
  | .sbb, .toReg r e => .sbbRbEb r e
  | .sbb, .acc v => .sbbAlDb v
  | .sbb, .imm e v => .sbbEbDb e v
  | .cmp, .toRm e r => .cmpEbRb e r
  | .cmp, .toReg r e => .cmpRbEb r e
  | .cmp, .acc v => .cmpAlDb v
  | .cmp, .imm e v => .cmpEbDb e v

/-- The word instruction of an operation and a form. -/
def ArithOp.instr16 : ArithOp → ArithForm16 → Instr
  | .add, .plain (.toRm e r) => .addEwRw e r
  | .add, .plain (.toReg r e) => .addRwEw r e
  | .add, .plain (.acc v) => .addAxDw v
  | .add, .plain (.imm e v) => .addEwDw e v
  | .add, .sext e v => .addEwDb e v
  | .adc, .plain (.toRm e r) => .adcEwRw e r
  | .adc, .plain (.toReg r e) => .adcRwEw r e
  | .adc, .plain (.acc v) => .adcAxDw v
  | .adc, .plain (.imm e v) => .adcEwDw e v
  | .adc, .sext e v => .adcEwDb e v
  | .sub, .plain (.toRm e r) => .subEwRw e r
  | .sub, .plain (.toReg r e) => .subRwEw r e
  | .sub, .plain (.acc v) => .subAxDw v
  | .sub, .plain (.imm e v) => .subEwDw e v
  | .sub, .sext e v => .subEwDb e v
  | .sbb, .plain (.toRm e r) => .sbbEwRw e r
  | .sbb, .plain (.toReg r e) => .sbbRwEw r e
  | .sbb, .plain (.acc v) => .sbbAxDw v
  | .sbb, .plain (.imm e v) => .sbbEwDw e v
  | .sbb, .sext e v => .sbbEwDb e v
  | .cmp, .plain (.toRm e r) => .cmpEwRw e r
  | .cmp, .plain (.toReg r e) => .cmpRwEw r e
  | .cmp, .plain (.acc v) => .cmpAxDw v
  | .cmp, .plain (.imm e v) => .cmpEwDw e v
  | .cmp, .sext e v => .cmpEwDb e v

/-- The byte instruction of an operation and a form. -/
def LogicOp.instr8 : LogicOp → Form8 → Instr
  | .and, .toRm e r => .andEbRb e r
  | .and, .toReg r e => .andRbEb r e
  | .and, .acc v => .andAlDb v
  | .and, .imm e v => .andEbDb e v
  | .or, .toRm e r => .orEbRb e r
  | .or, .toReg r e => .orRbEb r e
  | .or, .acc v => .orAlDb v
  | .or, .imm e v => .orEbDb e v
  | .xor, .toRm e r => .xorEbRb e r
  | .xor, .toReg r e => .xorRbEb r e
  | .xor, .acc v => .xorAlDb v
  | .xor, .imm e v => .xorEbDb e v

/-- The word instruction of an operation and a form. -/
def LogicOp.instr16 : LogicOp → Form16 → Instr
  | .and, .toRm e r => .andEwRw e r
  | .and, .toReg r e => .andRwEw r e
  | .and, .acc v => .andAxDw v
  | .and, .imm e v => .andEwDw e v
  | .or, .toRm e r => .orEwRw e r
  | .or, .toReg r e => .orRwEw r e
  | .or, .acc v => .orAxDw v
  | .or, .imm e v => .orEwDw e v
  | .xor, .toRm e r => .xorEwRw e r
  | .xor, .toReg r e => .xorRwEw r e
  | .xor, .acc v => .xorAxDw v
  | .xor, .imm e v => .xorEwDw e v

/-- TEST's byte forms: `eb,rb`, `AL,db`, `eb,db` (42_logic_shift.md R385). -/
inductive TestForm8 where
  | rm (e : Rm8) (r : Reg8)
  | acc (imm : Byte)
  | imm (e : Rm8) (imm : Byte)
deriving DecidableEq, Repr

/-- TEST's word forms. -/
inductive TestForm16 where
  | rm (e : Rm16) (r : Reg16)
  | acc (imm : Word)
  | imm (e : Rm16) (imm : Word)
deriving DecidableEq, Repr

/-- The instruction of a form. -/
def TestForm8.instr : TestForm8 → Instr
  | .rm e r => .testEbRb e r
  | .acc v => .testAlDb v
  | .imm e v => .testEbDb e v

/-- The instruction of a form. -/
def TestForm16.instr : TestForm16 → Instr
  | .rm e r => .testEwRw e r
  | .acc v => .testAxDw v
  | .imm e v => .testEwDw e v

/-- The first operand. -/
def TestForm8.dest : TestForm8 → Rm8
  | .rm e _ => e
  | .acc _ => .reg .al
  | .imm e _ => e

/-- The first operand. -/
def TestForm16.dest : TestForm16 → Rm16
  | .rm e _ => e
  | .acc _ => .reg .ax
  | .imm e _ => e

/-- The value of the second operand. -/
def TestForm8.source (s : State) : TestForm8 → Byte
  | .rm _ r => s.reg8 r
  | .acc v => v
  | .imm _ v => v

/-- The value of the second operand. -/
def TestForm16.source (s : State) : TestForm16 → Word
  | .rm _ r => s.reg16 r
  | .acc v => v
  | .imm _ v => v

/-! ### One-operand forms -/

/-- INC, DEC, NEG and NOT of a byte operand. -/
def UnaryOp.instr8 : UnaryOp → Rm8 → Instr
  | .inc, e => .incEb e
  | .dec, e => .decEb e
  | .neg, e => .negEb e
  | .not, e => .notEb e

/-- A word operand's encoding: the ModRM form, or the one-byte form of INC and DEC with a register. -/
inductive UnaryForm16 where
  | rm (op : UnaryOp) (e : Rm16)
  | incRw (r : Reg16)
  | decRw (r : Reg16)
deriving DecidableEq, Repr

/-- The instruction of a form. -/
def UnaryForm16.instr : UnaryForm16 → Instr
  | .rm .inc e => .incEw e
  | .rm .dec e => .decEw e
  | .rm .neg e => .negEw e
  | .rm .not e => .notEw e
  | .incRw r => .incRw r
  | .decRw r => .decRw r

/-- The operation of a form. -/
def UnaryForm16.op : UnaryForm16 → UnaryOp
  | .rm op _ => op
  | .incRw _ => .inc
  | .decRw _ => .dec

/-- The operand of a form. -/
def UnaryForm16.dest : UnaryForm16 → Rm16
  | .rm _ e => e
  | .incRw r => .reg r
  | .decRw r => .reg r

/-! ### Shifts and rotates (42_logic_shift.md R386) -/

/-- Where the count comes from: an immediate byte, the constant 1, or CL. -/
inductive CountForm where
  | imm (v : Byte)
  | one
  | cl
deriving DecidableEq, Repr

/-- The raw count. -/
def CountForm.raw (s : State) : CountForm → Byte
  | .imm v => v
  | .one => 1
  | .cl => s.reg8 .cl

/-- The instruction of an operation, a count and a byte operand. -/
def ShiftOp.instr8 (e : Rm8) : ShiftOp → CountForm → Instr
  | .rol, .imm v => .rolEbDb e v
  | .rol, .one => .rolEb1 e
  | .rol, .cl => .rolEbCl e
  | .ror, .imm v => .rorEbDb e v
  | .ror, .one => .rorEb1 e
  | .ror, .cl => .rorEbCl e
  | .rcl, .imm v => .rclEbDb e v
  | .rcl, .one => .rclEb1 e
  | .rcl, .cl => .rclEbCl e
  | .rcr, .imm v => .rcrEbDb e v
  | .rcr, .one => .rcrEb1 e
  | .rcr, .cl => .rcrEbCl e
  | .shl, .imm v => .shlEbDb e v
  | .shl, .one => .shlEb1 e
  | .shl, .cl => .shlEbCl e
  | .shr, .imm v => .shrEbDb e v
  | .shr, .one => .shrEb1 e
  | .shr, .cl => .shrEbCl e
  | .sar, .imm v => .sarEbDb e v
  | .sar, .one => .sarEb1 e
  | .sar, .cl => .sarEbCl e

/-- The instruction of an operation, a count and a word operand. -/
def ShiftOp.instr16 (e : Rm16) : ShiftOp → CountForm → Instr
  | .rol, .imm v => .rolEwDb e v
  | .rol, .one => .rolEw1 e
  | .rol, .cl => .rolEwCl e
  | .ror, .imm v => .rorEwDb e v
  | .ror, .one => .rorEw1 e
  | .ror, .cl => .rorEwCl e
  | .rcl, .imm v => .rclEwDb e v
  | .rcl, .one => .rclEw1 e
  | .rcl, .cl => .rclEwCl e
  | .rcr, .imm v => .rcrEwDb e v
  | .rcr, .one => .rcrEw1 e
  | .rcr, .cl => .rcrEwCl e
  | .shl, .imm v => .shlEwDb e v
  | .shl, .one => .shlEw1 e
  | .shl, .cl => .shlEwCl e
  | .shr, .imm v => .shrEwDb e v
  | .shr, .one => .shrEw1 e
  | .shr, .cl => .shrEwCl e
  | .sar, .imm v => .sarEwDb e v
  | .sar, .one => .sarEw1 e
  | .sar, .cl => .sarEwCl e

/-! ### Moves (40_data_transfer.md R261 to R264; 47_system.md R615, R617, R620) -/

/-- The byte moves. -/
inductive MoveForm8 where
  | toRm (e : Rm8) (r : Reg8)
  | toReg (r : Reg8) (e : Rm8)
  | regImm (r : Reg8) (imm : Byte)
  | rmImm (e : Rm8) (imm : Byte)
  | accLoad (off : Word)
  | accStore (off : Word)
deriving DecidableEq, Repr

/-- The word moves, the stores of a segment register's selector and of the MSW among them. -/
inductive MoveForm16 where
  | toRm (e : Rm16) (r : Reg16)
  | toReg (r : Reg16) (e : Rm16)
  | regImm (r : Reg16) (imm : Word)
  | rmImm (e : Rm16) (imm : Word)
  | accLoad (off : Word)
  | accStore (off : Word)
  | seg (e : Rm16) (r : SegReg)
  | msw (e : Rm16)
deriving DecidableEq, Repr

/-- The instruction of a form. -/
def MoveForm8.instr : MoveForm8 → Instr
  | .toRm e r => .movEbRb e r
  | .toReg r e => .movRbEb r e
  | .regImm r v => .movRbDb r v
  | .rmImm e v => .movEbDb e v
  | .accLoad off => .movAlXb off
  | .accStore off => .movXbAl off

/-- The instruction of a form. -/
def MoveForm16.instr : MoveForm16 → Instr
  | .toRm e r => .movEwRw e r
  | .toReg r e => .movRwEw r e
  | .regImm r v => .movRwDw r v
  | .rmImm e v => .movEwDw e v
  | .accLoad off => .movAxXw off
  | .accStore off => .movXwAx off
  | .seg e .es => .movEwEs e
  | .seg e .cs => .movEwCs e
  | .seg e .ss => .movEwSs e
  | .seg e .ds => .movEwDs e
  | .msw e => .smsw e

/-- The destination. -/
def MoveForm8.dest : MoveForm8 → Rm8
  | .toRm e _ => e
  | .toReg r _ => .reg r
  | .regImm r _ => .reg r
  | .rmImm e _ => e
  | .accLoad _ => .reg .al
  | .accStore off => .mem (.direct off)

/-- The destination. -/
def MoveForm16.dest : MoveForm16 → Rm16
  | .toRm e _ => e
  | .toReg r _ => .reg r
  | .regImm r _ => .reg r
  | .rmImm e _ => e
  | .accLoad _ => .reg .ax
  | .accStore off => .mem (.direct off)
  | .seg e _ => e
  | .msw e => e

/-- The value moved. -/
def MoveForm8.source (s : State) : MoveForm8 → Byte
  | .toRm _ r => s.reg8 r
  | .toReg _ e => rm8Value s e
  | .regImm _ v => v
  | .rmImm _ v => v
  | .accLoad off => rm8Value s (.mem (.direct off))
  | .accStore _ => s.reg8 .al

/-- The value moved. -/
def MoveForm16.source (s : State) : MoveForm16 → Word
  | .toRm _ r => s.reg16 r
  | .toReg _ e => rm16Value s e
  | .regImm _ v => v
  | .rmImm _ v => v
  | .accLoad off => rm16Value s (.mem (.direct off))
  | .accStore _ => s.gpr.ax
  | .seg _ r => (s.seg r).sel
  | .msw _ => s.msw.toWord

/-- The memory operand, if there is one, passes its checks. -/
def MoveForm8.Ok (s : State) : MoveForm8 → Prop
  | .toRm e _ => Rm8Ok s e .write
  | .toReg _ e => Rm8Ok s e .read
  | .regImm _ _ => True
  | .rmImm e _ => Rm8Ok s e .write
  | .accLoad off => Rm8Ok s (.mem (.direct off)) .read
  | .accStore off => Rm8Ok s (.mem (.direct off)) .write

/-- The memory operand, if there is one, passes its checks. -/
def MoveForm16.Ok (s : State) : MoveForm16 → Prop
  | .toRm e _ => Rm16Ok s e .write
  | .toReg _ e => Rm16Ok s e .read
  | .regImm _ _ => True
  | .rmImm e _ => Rm16Ok s e .write
  | .accLoad off => Rm16Ok s (.mem (.direct off)) .read
  | .accStore off => Rm16Ok s (.mem (.direct off)) .write
  | .seg e _ => Rm16Ok s e .write
  | .msw e => Rm16Ok s e .write

/-- The memory operand, if there is one, and what is done to it. -/
def MoveForm8.memory : MoveForm8 → Option (MemOp × Access)
  | .toRm e _ => (memoryOf e).map fun m => (m, .write)
  | .toReg _ e => (memoryOf e).map fun m => (m, .read)
  | .regImm _ _ => none
  | .rmImm e _ => (memoryOf e).map fun m => (m, .write)
  | .accLoad off => some (.direct off, .read)
  | .accStore off => some (.direct off, .write)

/-- The memory operand, if there is one, and what is done to it. -/
def MoveForm16.memory : MoveForm16 → Option (MemOp × Access)
  | .toRm e _ => (memoryOf e).map fun m => (m, .write)
  | .toReg _ e => (memoryOf e).map fun m => (m, .read)
  | .regImm _ _ => none
  | .rmImm e _ => (memoryOf e).map fun m => (m, .write)
  | .accLoad off => some (.direct off, .read)
  | .accStore off => some (.direct off, .write)
  | .seg e _ => (memoryOf e).map fun m => (m, .write)
  | .msw e => (memoryOf e).map fun m => (m, .write)

/-! ### Pushes (40_data_transfer.md R266 to R269, R275) -/

/-- The instructions that push one word. -/
inductive PushForm where
  | reg (r : Reg16)
  | rm (e : Rm16)
  | word (imm : Word)
  | byte (imm : Byte)
  | seg (r : SegReg)
  | flags
deriving DecidableEq, Repr

/-- The instruction of a form. -/
def PushForm.instr : PushForm → Instr
  | .reg r => .pushRw r
  | .rm e => .pushMw e
  | .word v => .pushDw v
  | .byte v => .pushDb v
  | .seg .es => .pushEs
  | .seg .cs => .pushCs
  | .seg .ss => .pushSs
  | .seg .ds => .pushDs
  | .flags => .pushf

/-- The word pushed: for PUSH SP the value SP has before, for a byte its sign extension. -/
def PushForm.value (s : State) : PushForm → Word
  | .reg r => s.reg16 r
  | .rm e => rm16Value s e
  | .word v => v
  | .byte v => v.signExtend 16
  | .seg r => (s.seg r).sel
  | .flags => s.flags.toWord

/-- The memory operand, if there is one, can be read. -/
def PushForm.Ok (s : State) : PushForm → Prop
  | .rm e => Rm16Ok s e .read
  | .reg _ => True
  | .word _ => True
  | .byte _ => True
  | .seg _ => True
  | .flags => True

/-- The memory operand, if there is one, passes its checks. -/
def PushForm.Open (s : State) : PushForm → Prop
  | .rm e => Rm16Open s e .read
  | .reg _ => True
  | .word _ => True
  | .byte _ => True
  | .seg _ => True
  | .flags => True

/-! ### Operands that are read alone, and pointers -/

/-- The instructions that read one word operand in memory or a register, and do not write it. -/
inductive ReadForm16 where
  | mul | imul | imulDw (r : Reg16) (v : Word) | imulDb (r : Reg16) (v : Byte) | div | idiv
  | push | jmp | call | movDs | movEs | movSs
  | lldt | ltr | lmsw | lar (r : Reg16) | lsl (r : Reg16) | verr | verw
deriving DecidableEq, Repr

/-- The instruction of a form. -/
def ReadForm16.instr (e : Rm16) : ReadForm16 → Instr
  | .mul => .mulEw e
  | .imul => .imulEw e
  | .imulDw r v => .imulRwEwDw r e v
  | .imulDb r v => .imulRwEwDb r e v
  | .div => .divEw e
  | .idiv => .idivEw e
  | .push => .pushMw e
  | .jmp => .jmpEw e
  | .call => .callEw e
  | .movDs => .movDsEw e
  | .movEs => .movEsEw e
  | .movSs => .movSsEw e
  | .lldt => .lldt e
  | .ltr => .ltr e
  | .lmsw => .lmsw e
  | .lar r => .lar r e
  | .lsl r => .lsl r e
  | .verr => .verr e
  | .verw => .verw e

/-- The instruction comes to its operand: in Protected Mode alone, at CPL 0, as its rule asks (47_system.md R610). -/
def ReadForm16.Allowed (s : State) : ReadForm16 → Prop
  | .lldt => s.msw.pe = true ∧ Privileged s
  | .ltr => s.msw.pe = true ∧ Privileged s
  | .lmsw => Privileged s
  | .lar _ => s.msw.pe = true
  | .lsl _ => s.msw.pe = true
  | .verr => s.msw.pe = true
  | .verw => s.msw.pe = true
  | _ => True

/-- The instructions that read a far pointer. -/
inductive PointerForm where
  | lds (r : Reg16) | les (r : Reg16) | jmp | call
deriving DecidableEq, Repr

/-- The instruction of a form. -/
def PointerForm.instr (m : MemOp) : PointerForm → Instr
  | .lds r => .lds r (.mem m)
  | .les r => .les r (.mem m)
  | .jmp => .jmpEd (.mem m)
  | .call => .callEd (.mem m)

/-! ### Segment register loads -/

/-- The instructions that load DS or ES with a selector: MOV, POP, LDS and LES. -/
inductive SegLoadForm where
  | movDs (e : Rm16)
  | movEs (e : Rm16)
  | popDs
  | popEs
  | lds (r : Reg16) (m : MemOp)
  | les (r : Reg16) (m : MemOp)
deriving DecidableEq, Repr

/-- The instruction of a form. -/
def SegLoadForm.instr : SegLoadForm → Instr
  | .movDs e => .movDsEw e
  | .movEs e => .movEsEw e
  | .popDs => .popDs
  | .popEs => .popEs
  | .lds r m => .lds r (.mem m)
  | .les r m => .les r (.mem m)

/-- The segment register loaded. -/
def SegLoadForm.dest : SegLoadForm → SegReg
  | .movDs _ => .ds
  | .movEs _ => .es
  | .popDs => .ds
  | .popEs => .es
  | .lds _ _ => .ds
  | .les _ _ => .es

/-- The selector loaded: the operand, the word at the top of the stack, or the second word of the pointer. -/
def SegLoadForm.selector (s : State) : SegLoadForm → Word
  | .movDs e => rm16Value s e
  | .movEs e => rm16Value s e
  | .popDs => s.segWord .ss s.gpr.sp
  | .popEs => s.segWord .ss s.gpr.sp
  | .lds _ m => s.segWord (s.memSeg m) (s.effOffset m + 2)
  | .les _ m => s.segWord (s.memSeg m) (s.effOffset m + 2)

/-- The words read can be read. -/
def SegLoadForm.Ok (s : State) : SegLoadForm → Prop
  | .movDs e => Rm16Ok s e .read
  | .movEs e => Rm16Ok s e .read
  | .popDs => WordOk s .ss s.gpr.sp .read
  | .popEs => WordOk s .ss s.gpr.sp .read
  | .lds _ m => PointerOk s m
  | .les _ m => PointerOk s m

/-- What the form does to the general registers: POP adds two to SP, LDS and LES write the offset register. -/
def SegLoadForm.gpr (s : State) : SegLoadForm → Gpr
  | .movDs _ => s.gpr
  | .movEs _ => s.gpr
  | .popDs => { s.gpr with sp := s.gpr.sp + 2 }
  | .popEs => { s.gpr with sp := s.gpr.sp + 2 }
  | .lds r m => s.gpr.set r (s.segWord (s.memSeg m) (s.effOffset m))
  | .les r m => s.gpr.set r (s.segWord (s.memSeg m) (s.effOffset m))

/-- The instructions that load SS. -/
inductive StackLoadForm where
  | mov (e : Rm16)
  | pop
deriving DecidableEq, Repr

/-- The instruction of a form. -/
def StackLoadForm.instr : StackLoadForm → Instr
  | .mov e => .movSsEw e
  | .pop => .popSs

/-- The selector loaded. -/
def StackLoadForm.selector (s : State) : StackLoadForm → Word
  | .mov e => rm16Value s e
  | .pop => s.segWord .ss s.gpr.sp

/-- The word read can be read. -/
def StackLoadForm.Ok (s : State) : StackLoadForm → Prop
  | .mov e => Rm16Ok s e .read
  | .pop => WordOk s .ss s.gpr.sp .read

/-- The general registers after: POP SS adds two to SP. -/
def StackLoadForm.gpr (s : State) : StackLoadForm → Gpr
  | .mov _ => s.gpr
  | .pop => { s.gpr with sp := s.gpr.sp + 2 }

/-! ### Strings (43_string.md R421 to R427) -/

/-- The seven string operations. -/
inductive StringKind where
  | movs | cmps | scas | lods | stos | ins | outs
deriving DecidableEq, Repr

/-- The instruction of an operation and an element size. -/
def StringKind.instr : StringKind → Elem → Instr
  | .movs, .byte => .movsb
  | .movs, .word => .movsw
  | .cmps, .byte => .cmpsb
  | .cmps, .word => .cmpsw
  | .scas, .byte => .scasb
  | .scas, .word => .scasw
  | .lods, .byte => .lodsb
  | .lods, .word => .lodsw
  | .stos, .byte => .stosb
  | .stos, .word => .stosw
  | .ins, .byte => .insb
  | .ins, .word => .insw
  | .outs, .byte => .outsb
  | .outs, .word => .outsw

/-! ### Conditional jumps (44_control_transfer.md R466 to R482) -/

/-- The conditions, named as the first of each row's mnemonics. -/
inductive JumpCond where
  | o | no | b | ae | e | ne | be | a | s | ns | p | np | l | ge | le | g | cxz
deriving DecidableEq, Repr

/-- The instruction of a condition. -/
def JumpCond.instr (disp : Byte) : JumpCond → Instr
  | .o => .jo disp
  | .no => .jno disp
  | .b => .jb disp
  | .ae => .jae disp
  | .e => .je disp
  | .ne => .jne disp
  | .be => .jbe disp
  | .a => .ja disp
  | .s => .js disp
  | .ns => .jns disp
  | .p => .jp disp
  | .np => .jnp disp
  | .l => .jl disp
  | .ge => .jge disp
  | .le => .jle disp
  | .g => .jg disp
  | .cxz => .jcxz disp

/-- When the jump is taken. -/
def JumpCond.Holds (s : State) : JumpCond → Prop
  | .o => s.flags.ov = true
  | .no => s.flags.ov = false
  | .b => s.flags.cf = true
  | .ae => s.flags.cf = false
  | .e => s.flags.zf = true
  | .ne => s.flags.zf = false
  | .be => s.flags.cf = true ∨ s.flags.zf = true
  | .a => s.flags.cf = false ∧ s.flags.zf = false
  | .s => s.flags.sf = true
  | .ns => s.flags.sf = false
  | .p => s.flags.pf = true
  | .np => s.flags.pf = false
  | .l => s.flags.sf ≠ s.flags.ov
  | .ge => s.flags.sf = s.flags.ov
  | .le => s.flags.zf = true ∨ s.flags.sf ≠ s.flags.ov
  | .g => s.flags.zf = false ∧ s.flags.sf = s.flags.ov
  | .cxz => s.gpr.cx = 0

/-! ### Undefined opcodes (30_encoding.md R245 to R248) -/

/-- The rows of the opcode table that are undefined, and the register forms of the instructions whose operand is memory (R213). -/
def undefinedForms : Instr → Bool
  | .undefD4 _ _ => true
  | .undef0F _ => true
  | .undef83x1 => true
  | .undef83x4 => true
  | .undef83x6 => true
  | .undef64 => true
  | .undef65 => true
  | .undef66 => true
  | .undef67 => true
  | .undef82 => true
  | .undef8Cx4to7 => true
  | .undef8Ex1 => true
  | .undef8Ex4to7 => true
  | .undef8Fx1 => true
  | .undef8Fx2 => true
  | .undef8Fx3 => true
  | .undef8Fx4 => true
  | .undef8Fx5 => true
  | .undef8Fx6 => true
  | .undef8Fx7 => true
  | .undefC0x6 => true
  | .undefC1x6 => true
  | .undefC6x1 => true
  | .undefC6x2 => true
  | .undefC6x3 => true
  | .undefC6x4 => true
  | .undefC6x5 => true
  | .undefC6x6 => true
  | .undefC6x7 => true
  | .undefC7x1 => true
  | .undefC7x2 => true
  | .undefC7x3 => true
  | .undefC7x4 => true
  | .undefC7x5 => true
  | .undefC7x6 => true
  | .undefC7x7 => true
  | .undefD0x6 => true
  | .undefD1x6 => true
  | .undefD2x6 => true
  | .undefD3x6 => true
  | .undefD6 => true
  | .undefF1 => true
  | .undefF6x1 => true
  | .undefF7x1 => true
  | .undefFEx2 => true
  | .undefFEx3 => true
  | .undefFEx4 => true
  | .undefFEx5 => true
  | .undefFEx6 => true
  | .undefFEx7 => true
  | .undefFFx7 => true
  | .undef0F00x6to7 => true
  | .undef0F01x5 => true
  | .undef0F01x7 => true
  | .lea _ (.reg _) => true
  | .lds _ (.reg _) => true
  | .les _ (.reg _) => true
  | .bound _ (.reg _) => true
  | .jmpEd (.reg _) => true
  | .callEd (.reg _) => true
  | .sgdt (.reg _) => true
  | .sidt (.reg _) => true
  | .lgdt (.reg _) => true
  | .lidt (.reg _) => true
  | _ => false

/-- The instructions of Protected Mode alone (47_system.md R610). -/
def protectedOnlyForms : Instr → Bool
  | .sldt _ => true
  | .str _ => true
  | .lldt _ => true
  | .ltr _ => true
  | .verr _ => true
  | .verw _ => true
  | .arpl _ _ => true
  | .lar _ _ => true
  | .lsl _ _ => true
  | _ => false

/-! ### The LOCK prefix (45_flag_misc.md R521) -/

/-- The prefix bytes. -/
def prefixByte : Instr → Bool
  | .segEs => true
  | .segCs => true
  | .segSs => true
  | .segDs => true
  | .lock => true
  | .repne => true
  | .rep => true
  | _ => false

/-- An instruction comes to the check of its LOCK prefix: an undefined opcode does not, nor WAIT and ESC while an exception of
their own or BUSY comes first (60_exceptions.md R654). -/
def LockChecked (s : State) (i : Instr) : Prop :=
  undefinedForms i = false ∧ prefixByte i = false ∧
    (i = .wait → (s.msw.mp = false ∨ s.msw.ts = false) ∧ s.pins.busy = false ∧
      (s.msw.em = true ∨ s.pins.error = false)) ∧
    (∀ op ext e, i = .esc op ext e → s.msw.em = false ∧ s.msw.ts = false ∧
      (s.pins.busy = true → Config.escSkipsBusy (escOpcode op ext) (escForm e) = true) ∧
      (s.pins.error = true → Config.escSkipsError (escOpcode op ext) (escForm e) = true))

end Sys2Proof.Machine
end

