-- ==== Sys2Proof/Safety/Results.lean ====
section
/-! DEFINITION. The results claims compare the machine with, written from the rules of spec/ as formulas over numbers rather than
from the machine's own operations: sums and differences with their flags (spec/41_arithmetic.md R320), shifts and rotates in
closed form (spec/42_logic_shift.md R389 to R396), one iteration of a string instruction (spec/43_string.md R421 to R427). -/

namespace Sys2Proof.Machine

/-! ### Sums and differences (R320) -/

/-- Outside the signed numbers of `n` bits. -/
def outsideSigned (n : Nat) (x : Int) : Bool := decide (x < -(2 ^ (n - 1))) || decide (2 ^ (n - 1) ≤ x)

/-- `SZP(r)`: the top bit, zero, and an even number of ones among the low eight bits. -/
def resultFlags {n : Nat} (f : Flags) (r : BitVec n) : Flags :=
  { f with
    sf := decide (2 ^ (n - 1) ≤ r.toNat)
    zf := decide (r.toNat = 0)
    pf := decide (((List.range 8).filter fun k => r.getLsbD k).length % 2 = 0) }

/-- `a + b + c` modulo 2^n. -/
def sum {n : Nat} (a b : BitVec n) (c : Bool) : BitVec n := BitVec.ofNat n (a.toNat + b.toNat + c.toNat)

/-- `a - b - c` modulo 2^n. -/
def difference {n : Nat} (a b : BitVec n) (c : Bool) : BitVec n := BitVec.ofInt n ((a.toNat : Int) - b.toNat - c.toNat)

/-- The flags of `ADDF(a, b, c)`. -/
def sumFlags {n : Nat} (f : Flags) (a b : BitVec n) (c : Bool) : Flags :=
  { resultFlags f (sum a b c) with
    cf := decide (2 ^ n ≤ a.toNat + b.toNat + c.toNat)
    af := decide (16 ≤ a.toNat % 16 + b.toNat % 16 + c.toNat)
    ov := outsideSigned n (a.toInt + b.toInt + c.toNat) }

/-- The flags of `SUBF(a, b, c)`. -/
def differenceFlags {n : Nat} (f : Flags) (a b : BitVec n) (c : Bool) : Flags :=
  { resultFlags f (difference a b c) with
    cf := decide ((a.toNat : Int) - b.toNat - c.toNat < 0)
    af := decide (((a.toNat % 16 : Nat) : Int) - (b.toNat % 16 : Nat) - c.toNat < 0)
    ov := outsideSigned n (a.toInt - b.toInt - c.toNat) }

/-- The carry an operation takes in. -/
def ArithOp.carryIn (f : Flags) : ArithOp → Bool
  | .adc => f.cf
  | .sbb => f.cf
  | .add => false
  | .sub => false
  | .cmp => false

/-- The operations that subtract. -/
def ArithOp.subtracts : ArithOp → Bool
  | .sub => true
  | .sbb => true
  | .cmp => true
  | .add => false
  | .adc => false

/-- The result of an operation (R322 to R326). -/
def ArithOp.result {n : Nat} (op : ArithOp) (f : Flags) (d v : BitVec n) : BitVec n :=
  if op.subtracts then difference d v (op.carryIn f) else sum d v (op.carryIn f)

/-- The flags of an operation. -/
def ArithOp.flagsAfter {n : Nat} (op : ArithOp) (f : Flags) (d v : BitVec n) : Flags :=
  if op.subtracts then differenceFlags f d v (op.carryIn f) else sumFlags f d v (op.carryIn f)

/-- The result of a logical operation (42_logic_shift.md R381 to R383). -/
def LogicOp.result {n : Nat} (op : LogicOp) (d v : BitVec n) : BitVec n :=
  match op with
  | .and => d &&& v
  | .or => d ||| v
  | .xor => d ^^^ v

/-- The flags of a logical result: CF and OF clear, AF whatever it is (R380). -/
def logicFlags {n : Nat} (f : Flags) (r : BitVec n) (af : Bool) : Flags :=
  { resultFlags f r with cf := false, ov := false, af := af }

/-- The result of a unary operation (41_arithmetic.md R327 to R329; 42_logic_shift.md R384). -/
def UnaryOp.result {n : Nat} (op : UnaryOp) (d : BitVec n) : BitVec n :=
  match op with
  | .inc => sum d 1 false
  | .dec => difference d 1 false
  | .neg => difference 0 d false
  | .not => BitVec.ofNat n (2 ^ n - 1 - d.toNat)

/-- The flags of a unary operation: INC and DEC keep CF, NOT keeps all. -/
def UnaryOp.flagsAfter {n : Nat} (op : UnaryOp) (f : Flags) (d : BitVec n) : Flags :=
  match op with
  | .inc => { sumFlags f d 1 false with cf := f.cf }
  | .dec => { differenceFlags f d 1 false with cf := f.cf }
  | .neg => differenceFlags f 0 d false
  | .not => f

/-- The flags of a multiplication: CF = OF as said, SF, ZF, AF and PF those of the later flags `g`, whatever they are. -/
def productFlags (f g : Flags) (big : Bool) : Flags :=
  { f with cf := big, ov := big, sf := g.sf, zf := g.zf, af := g.af, pf := g.pf }

/-- Two bytes as a word, the high one first. -/
def pair (hi lo : Nat) : Word := BitVec.ofNat 16 (256 * (hi % 256) + lo % 256)

/-! ### Shifts and rotates in closed form, for a count of at least 1 -/

/-- The result of `c` steps (R389 to R391, R393 to R396); `cf` is the carry before. -/
def ShiftOp.result {n : Nat} (op : ShiftOp) (x : BitVec n) (cf : Bool) (c : Nat) : BitVec n :=
  match op with
  | .shl => BitVec.ofNat n (x.toNat * 2 ^ c)
  | .shr => BitVec.ofNat n (x.toNat / 2 ^ c)
  | .sar => BitVec.ofInt n (x.toInt / 2 ^ c)
  | .rol => x.rotateLeft (c % n)
  | .ror => x.rotateRight (c % n)
  | .rcl => ((BitVec.cons cf x).rotateLeft (c % (n + 1))).setWidth n
  | .rcr => ((x.concat cf).rotateRight (c % (n + 1))).extractLsb' 1 n

/-- The carry after `c` steps. -/
def ShiftOp.carry {n : Nat} (op : ShiftOp) (x : BitVec n) (cf : Bool) (c : Nat) : Bool :=
  match op with
  | .shl => decide (c ≤ n) && x.getLsbD (n - c)
  | .shr => decide (c ≤ n) && x.getLsbD (c - 1)
  | .sar => if c ≤ n then x.getLsbD (c - 1) else x.msb
  | .rol => (x.rotateLeft (c % n)).getLsbD 0
  | .ror => (x.rotateRight (c % n)).msb
  | .rcl => ((BitVec.cons cf x).rotateLeft (c % (n + 1))).msb
  | .rcr => ((x.concat cf).rotateRight (c % (n + 1))).getLsbD 0

/-- The flags: none changes for a count of 0; OF says after one step whether the sign bit changed, and is that of the later
flags `g` after more (R387, R388); a shift sets SF, ZF and PF from its result and leaves AF to `g` (R389 to R391); a rotate
changes CF and OF alone (R392). -/
def ShiftOp.flagsAfter {n : Nat} (op : ShiftOp) (f g : Flags) (x : BitVec n) (c : Nat) : Flags :=
  let r := op.result x f.cf c
  let ov := if c = 1 then r.msb != x.msb else g.ov
  if c = 0 then f
  else match op with
    | .rol => { f with cf := op.carry x f.cf c, ov := ov }
    | .ror => { f with cf := op.carry x f.cf c, ov := ov }
    | .rcl => { f with cf := op.carry x f.cf c, ov := ov }
    | .rcr => { f with cf := op.carry x f.cf c, ov := ov }
    | .shl => { resultFlags f r with cf := op.carry x f.cf c, ov := ov, af := g.af }
    | .shr => { resultFlags f r with cf := op.carry x f.cf c, ov := ov, af := g.af }
    | .sar => { resultFlags f r with cf := op.carry x f.cf c, ov := ov, af := g.af }

/-- The operand after: itself for a count of 0. -/
def ShiftOp.value {n : Nat} (op : ShiftOp) (f : Flags) (x : BitVec n) (c : Nat) : BitVec n :=
  if c = 0 then x else op.result x f.cf c

/-! ### Flag images (10_state.md R30) -/

/-- FLAGS from an image: every bit in Protected Mode but IOPL, which needs CPL 0, and IF, which needs CPL ≤ IOPL; in Real
Address Mode every bit but IOPL and NT (40_data_transfer.md R276; 10_state.md R46, R47). -/
def loadedFlags (s : State) (w : Word) : Flags where
  cf := w.getLsbD 0
  pf := w.getLsbD 2
  af := w.getLsbD 4
  zf := w.getLsbD 6
  sf := w.getLsbD 7
  tf := w.getLsbD 8
  ie := if s.msw.pe = true ∧ s.flags.iopl < s.cpl then s.flags.ie else w.getLsbD 9
  df := w.getLsbD 10
  ov := w.getLsbD 11
  iopl := if s.msw.pe = true ∧ s.cpl = 0 then w.extractLsb' 12 2 else s.flags.iopl
  nt := if s.msw.pe = true then w.getLsbD 14 else s.flags.nt

/-- The low byte of FLAGS as a number: SF, ZF, AF, PF, the constant bit 1, CF (R30, R48). -/
def flagByte (f : Flags) : Nat :=
  128 * f.sf.toNat + 64 * f.zf.toNat + 16 * f.af.toNat + 4 * f.pf.toNat + 2 + f.cf.toNat

/-- FLAGS as a number: the low byte, then TF, IF, DF, OF, IOPL, NT (R30, R48). -/
def flagWord (f : Flags) : Nat :=
  flagByte f + 256 * f.tf.toNat + 512 * f.ie.toNat + 1024 * f.df.toNat + 2048 * f.ov.toNat + 4096 * f.iopl.toNat
    + 16384 * f.nt.toNat

/-- FLAGS as an image's bits say, NT apart (R590 step 8). -/
def imageFlags (w : Word) (nt : Bool) : Flags where
  cf := w.getLsbD 0
  pf := w.getLsbD 2
  af := w.getLsbD 4
  zf := w.getLsbD 6
  sf := w.getLsbD 7
  tf := w.getLsbD 8
  ie := w.getLsbD 9
  df := w.getLsbD 10
  ov := w.getLsbD 11
  iopl := w.extractLsb' 12 2
  nt := nt

/-! ### Segment registers -/

/-- A segment register after a load in Real Address Mode: base selector times 16, limit FFFFH (20_memory.md R87); the access
byte 93H is the model's (notes/assumptions/2.md). -/
def realModeSeg (sel : Word) : SegCache :=
  { sel := sel, ar := 0x93, base := BitVec.ofNat 24 (16 * sel.toNat), limit := 0xFFFF }

/-- A segment register after a load from a descriptor: the Accessed bit set in the copy too (20_memory.md R120, R123). -/
def descriptorSeg (sel : Word) (d : Desc) : SegCache :=
  { sel := sel, ar := d.ar ||| 1, base := BitVec.ofNat 24 (65536 * d.b4.toNat + d.w1.toNat), limit := d.w0 }

/-- The CS cache a transfer leaves: RPL is the new CPL (46_protected_transfer.md R554). -/
def codeSeg (sel : Word) (l : BitVec 2) (d : Desc) : SegCache :=
  descriptorSeg (BitVec.ofNat 16 (sel.toNat / 4 * 4 + l.toNat)) d

/-- Where the access byte of a descriptor stands. -/
def Desc.accessByte (d : Desc) : Nat := physAdd d.addr 5

/-- The access byte of a descriptor does not stand in a device's window, and no other agent comes between. -/
def Desc.InMemory (s : State) (d : Desc) : Prop := Alone s ∧ s.kindAt d.accessByte ≠ .device

/-- The access byte of a descriptor as an address that a write of it changes: none outside RAM (R754). -/
def Desc.marked (s : State) (d : Desc) : List Nat := if s.kindAt d.accessByte = .ram then [d.accessByte] else []

/-- The access byte of a descriptor has been written: RAM holds the new value, ROM and absent memory drop it (R123, R754). -/
def Marked (s t : State) (d : Desc) (ar : Byte) : Prop := s.kindAt d.accessByte = .ram → t.mem.read d.accessByte = ar

/-- Between two states memory has changed in at most the Accessed bit of a descriptor (R123). -/
def AccessedSet (s t : State) (d : Desc) : Prop := Marked s t d (d.ar ||| 1) ∧ MemSameBut s t (d.marked s)

/-- A data segment register may be loaded with a selector of this descriptor: readable; conforming code, or DPL at least CPL and
RPL; present (R120). -/
def DataLoadable (s : State) (sel : Word) (d : Desc) : Prop :=
  readable d.ar = true ∧ (conforming d.ar = true ∨ (s.cpl ≤ dpl d.ar ∧ rpl sel ≤ dpl d.ar)) ∧ present d.ar = true

/-- A code segment that a transfer to level `l` may enter: conforming with DPL ≤ l, or not conforming with DPL = l; present
(46_protected_transfer.md R553, R576). -/
def CodeAt (d : Desc) (l : BitVec 2) : Prop :=
  isCode d.ar = true ∧ (if conforming d.ar = true then dpl d.ar ≤ l else dpl d.ar = l) ∧ present d.ar = true

/-- A stack segment for level `l`: not null, writable data, RPL and DPL equal to `l`, present (R560, R576, R580). -/
def StackAt (s : State) (sel : Word) (k : Desc) (l : BitVec 2) : Prop :=
  4 ≤ sel.toNat ∧ s.fetchDesc sel = some k ∧ writable k.ar = true ∧ rpl sel = l ∧ dpl k.ar = l ∧ present k.ar = true

/-- What a return outward leaves in DS or ES: a segment the new level may not reach becomes null (R577). -/
def outward (l : BitVec 2) (c : SegCache) : SegCache :=
  if c.ar ≠ 0 ∧ conforming c.ar = false ∧ (dpl c.ar < l ∨ dpl c.ar < rpl c.sel) then { c with sel := 0, ar := 0 } else c

/-- The state with the stack of an inner level in place: the stack the TSS holds for level `l`, and its descriptor (R560). -/
def withStack (s : State) (sel sp : Word) (k : Desc) : State :=
  { s with ss := descriptorSeg sel k, gpr := { s.gpr with sp := sp } }

/-- The stack of an inner level, as the TSS and its descriptor give it, takes `n` words that lie apart from the access bytes the
transfer writes (R560). -/
def InnerRoom (s : State) (l : BitVec 2) (sel sp : Word) (c k : Desc) (n : Nat) : Prop :=
  s.tr.valid = true ∧ 4 * l.toNat + 5 ≤ s.tr.limit.toNat ∧
    sp = s.peek16 s.tr.base (4 * l.toNat + 2) ∧ sel = s.peek16 s.tr.base (4 * l.toNat + 4) ∧ StackAt s sel k l ∧
    2 * n ≤ sp.toNat ∧ StackRoom (withStack s sel sp k) n ∧ k.InMemory s ∧
    (∀ a, a ∈ pushedBytes (withStack s sel sp k) n → a ≠ c.accessByte ∧ a ≠ k.accessByte)

/-- SS may be loaded with a selector of this descriptor: writable data, RPL and DPL equal to CPL, present (R121). -/
def StackLoadable (s : State) (sel : Word) (d : Desc) : Prop :=
  writable d.ar = true ∧ rpl sel = s.cpl ∧ dpl d.ar = s.cpl ∧ present d.ar = true

/-! ### Far transfers and gates (46_protected_transfer.md) -/

/-- A far JMP to a selector and offset: direct, or through a pointer in memory (44_control_transfer.md R455, R456). -/
def FarJump (i : Instr) (s : State) (sel off : Word) : Prop :=
  i = .jmpCd off sel ∨ ∃ m, i = .jmpEd (.mem m) ∧ PointerOk s m ∧ off = s.segWord (s.memSeg m) (s.effOffset m) ∧
    sel = s.segWord (s.memSeg m) (s.effOffset m + 2)

/-- A far CALL of a selector and offset: direct, or through a pointer in memory (44_control_transfer.md R459, R460). -/
def FarCall (i : Instr) (s : State) (sel off : Word) : Prop :=
  i = .callCd off sel ∨ ∃ m, i = .callEd (.mem m) ∧ PointerOk s m ∧ off = s.segWord (s.memSeg m) (s.effOffset m) ∧
    sel = s.segWord (s.memSeg m) (s.effOffset m + 2)

/-- The IDT has a present gate for a vector, which a software interrupt is privileged to use (60_exceptions.md R664). -/
def GateOpen (s : State) (v : Byte) (kind : EventKind) (g : Desc) : Prop :=
  8 * v.toNat + 7 ≤ s.idtr.limit.toNat ∧ g = s.readDesc (s.idtr.base + BitVec.ofNat 24 (8 * v.toNat)) ∧
    present g.ar = true ∧ (kind = .software → s.cpl ≤ dpl g.ar)

/-- Words have been pushed in order from a state's SP down. -/
def PushedWords (s t : State) (ws : List Word) : Prop := ∀ i, (h : i < ws.length) → pushedWord s t i = ws[i]

/-- The registers a task switch saves in the outgoing TSS, from offset 14 on: the IP to resume at, FLAGS (NT clear when the task is
left by IRET), the general registers, the selectors (R585, R590 step 3). -/
def outgoingImage (s : State) (outIp : Word) (kind : SwitchKind) : List Word :=
  [outIp, BitVec.ofNat 16 (flagWord { s.flags with nt := s.flags.nt && decide (kind ≠ .iret) }),
    s.gpr.ax, s.gpr.cx, s.gpr.dx, s.gpr.bx, s.gpr.sp, s.gpr.bp, s.gpr.si, s.gpr.di,
    s.es.sel, s.cs.sel, s.ss.sel, s.ds.sel]

/-- The bytes a task switch may write before it loads the incoming task: the access bytes of both TSS descriptors, the back link,
the outgoing image (R586, R590). -/
def switchBytes (s : State) (sel : Word) (b : Desc) : List Nat :=
  [physAdd (s.gdtEntry sel) 5, physAdd (s.gdtEntry s.tr.sel) 5, physAdd b.base 0, physAdd b.base 1] ++
    (List.range 28).map fun j => physAdd s.tr.base (14 + j)

/-! ### Ports (20_memory.md R96) -/

/-- A feed answers a read at a key: with its first entry for that key, which is then gone; with `b` free where it has none. -/
def Fed {α : Type} (feed : List (α × Byte)) (p : α) (b : Byte) (rest : List (α × Byte)) : Prop :=
  (∃ before after, feed = before ++ (p, b) :: after ∧ (∀ e, e ∈ before → e.1 ≠ p) ∧ rest = before ++ after) ∨
    ((∀ e, e ∈ feed → e.1 ≠ p) ∧ rest = feed)

/-- Between two states a byte has been read from a port. -/
def PortIn8 (s t : State) (p : Word) (v : Byte) : Prop :=
  Fed s.portFeed p v t.portFeed ∧ t.portLog = s.portLog ++ [.read8 p v]

/-- Between two states a word has been read from a port: the low byte from it, then the high byte from the next (D27). -/
def PortIn16 (s t : State) (p v : Word) : Prop :=
  (∃ lo hi mid, Fed s.portFeed p lo mid ∧ Fed mid (p + 1) hi t.portFeed ∧ v = pair hi.toNat lo.toNat) ∧
    t.portLog = s.portLog ++ [.read16 p v]

/-- No port has been accessed, and no free value drawn. -/
def PortsSame (s t : State) : Prop := t.portFeed = s.portFeed ∧ t.portLog = s.portLog ∧ t.freeCtr = s.freeCtr

/-! ### Devices in memory (20_memory.md R85, R92) -/

/-- A device answers a read: with the first entry its feed has for the address, which is then gone; with its present content where the
feed has none. -/
def DeviceByte (s : State) (a : Nat) (b : Byte) (rest : List Host.Cell) : Prop :=
  Fed s.bus.feed a b rest ∧ ((∀ e, e ∈ s.bus.feed → e.1 ≠ a) → b = s.mem.read a)

/-- A device answers the two reads of a word: the byte at the lower address first. -/
def DeviceWord (s : State) (a b : Nat) (lo hi : Byte) (rest : List Host.Cell) : Prop :=
  ∃ mid, DeviceByte s a lo mid ∧ DeviceByte { s with bus := { s.bus with feed := mid } } b hi rest

/-- One data read of a byte, by what answers there: RAM and ROM with their byte; a device as `DeviceByte` says, and the read is recorded;
absent memory with any byte. -/
def DataRead (s t : State) (a : Nat) (b : Byte) : Prop :=
  match s.kindAt a with
  | .ram => b = s.mem.read a ∧ t = s
  | .rom => b = s.mem.read a ∧ t = s
  | .device => ∃ feed, DeviceByte s a b feed ∧ t = { s with bus := { s.bus with feed := feed, log := s.bus.log ++ [.read a b] } }
  | .absent => ∃ n, t = { s with bus := { s.bus with floats := n } }

/-! ### Strings -/

/-- SI or DI after one element: less its size with DF = 1, else more (43_string.md R420). -/
def stepped (s : State) (w : Elem) (x : Word) : Word :=
  if s.flags.df = true then x - BitVec.ofNat 16 w.size else x + BitVec.ofNat 16 w.size

/-- The segment register of a source element: DS, or the override prefix. -/
def sourceSeg (s : State) : SegReg := s.pfx.seg.getD .ds

/-- The element at a segment's offset, a byte zero-extended. -/
def elemAt (s : State) (w : Elem) (r : SegReg) (off : Word) : Word :=
  match w with
  | .byte => (s.segByte r off).zeroExtend 16
  | .word => s.segWord r off

/-- The element a later state holds at the addresses a segment's offset has in `s`. -/
def elemAfter (s t : State) (w : Elem) (r : SegReg) (off : Word) : Word :=
  match w with
  | .byte => (t.mem.read (s.segAddr r off 0).toNat).zeroExtend 16
  | .word => wordAfter s t r off

/-- The physical addresses of an element. -/
def elemBytes (s : State) (w : Elem) (r : SegReg) (off : Word) : List Nat :=
  match w with
  | .byte => [(s.segAddr r off 0).toNat]
  | .word => wordBytes s r off

/-- An element has been stored at ES:DI, and no other byte of memory has changed. -/
def Stored (s t : State) (w : Elem) (v : Word) : Prop :=
  elemAfter s t w .es s.gpr.di = v ∧ MemSameBut s t (elemBytes s w .es s.gpr.di)

/-- AL zero-extended, or AX. -/
def accumulator (s : State) (w : Elem) : Word :=
  match w with
  | .byte => (s.reg8 .al).zeroExtend 16
  | .word => s.gpr.ax

/-- The flags of the comparison of two elements. -/
def compareFlags (w : Elem) (f : Flags) (a b : Word) : Flags :=
  match w with
  | .byte => differenceFlags f (a.setWidth 8) (b.setWidth 8) false
  | .word => differenceFlags f a b false

/-- The checks of one iteration: IN and OUT privilege for INS and OUTS, the source element readable, the destination element
writable (readable where it is compared). -/
def StringKind.Ok (s : State) (w : Elem) : StringKind → Prop
  | .movs => Reachable s (sourceSeg s) s.gpr.si w.size .read ∧ Reachable s .es s.gpr.di w.size .write
  | .cmps => Reachable s (sourceSeg s) s.gpr.si w.size .read ∧ Reachable s .es s.gpr.di w.size .read
  | .scas => Reachable s .es s.gpr.di w.size .read
  | .lods => Reachable s (sourceSeg s) s.gpr.si w.size .read
  | .stos => Reachable s .es s.gpr.di w.size .write
  | .ins => IoAllowed s ∧ Reachable s .es s.gpr.di w.size .write
  | .outs => IoAllowed s ∧ Reachable s (sourceSeg s) s.gpr.si w.size .read

/-- The operations that compare. -/
def StringKind.compares : StringKind → Bool
  | .cmps => true
  | .scas => true
  | .movs => false
  | .lods => false
  | .stos => false
  | .ins => false
  | .outs => false

/-- The general registers after one iteration, CX apart. -/
def StringKind.gprAfter (s : State) (w : Elem) : StringKind → Gpr
  | .movs => { s.gpr with si := stepped s w s.gpr.si, di := stepped s w s.gpr.di }
  | .cmps => { s.gpr with si := stepped s w s.gpr.si, di := stepped s w s.gpr.di }
  | .scas => { s.gpr with di := stepped s w s.gpr.di }
  | .lods => { s.gpr with
      si := stepped s w s.gpr.si
      ax := match w with
        | .byte => pair (s.gpr.ax.toNat / 256) (s.segByte (sourceSeg s) s.gpr.si).toNat
        | .word => s.segWord (sourceSeg s) s.gpr.si }
  | .stos => { s.gpr with di := stepped s w s.gpr.di }
  | .ins => { s.gpr with di := stepped s w s.gpr.di }
  | .outs => { s.gpr with si := stepped s w s.gpr.si }

/-- The flags after one iteration: a comparison subtracts the ES:DI element from the source element or the accumulator. -/
def StringKind.flagsAfter (s : State) (w : Elem) : StringKind → Flags
  | .cmps => compareFlags w s.flags (elemAt s w (sourceSeg s) s.gpr.si) (elemAt s w .es s.gpr.di)
  | .scas => compareFlags w s.flags (accumulator s w) (elemAt s w .es s.gpr.di)
  | .movs => s.flags
  | .lods => s.flags
  | .stos => s.flags
  | .ins => s.flags
  | .outs => s.flags

/-- The memory references of one iteration, in the order they are checked (43_string.md R420 to R427). -/
def StringKind.refs (s : State) : StringKind → List (SegReg × Word × Access)
  | .movs => [(sourceSeg s, s.gpr.si, .read), (.es, s.gpr.di, .write)]
  | .cmps => [(sourceSeg s, s.gpr.si, .read), (.es, s.gpr.di, .read)]
  | .scas => [(.es, s.gpr.di, .read)]
  | .lods => [(sourceSeg s, s.gpr.si, .read)]
  | .stos => [(.es, s.gpr.di, .write)]
  | .ins => [(.es, s.gpr.di, .write)]
  | .outs => [(sourceSeg s, s.gpr.si, .read)]

/-- The operations whose bus cycles a LOCK prefix locks (43_string.md R444). -/
def StringKind.lockable : StringKind → Bool
  | .movs => true
  | .ins => true
  | .outs => true
  | .cmps => false
  | .scas => false
  | .lods => false
  | .stos => false

/-- What one iteration leaves in memory and at the ports: MOVS and STOS store an element at ES:DI, INS the port's answer, OUTS
writes an element to port DX; every other byte, the port record and the feed are as they were. -/
def StringKind.Effect (s t : State) (w : Elem) : StringKind → Prop
  | .movs => Stored s t w (elemAt s w (sourceSeg s) s.gpr.si) ∧ PortsSame s t
  | .stos => Stored s t w (accumulator s w) ∧ PortsSame s t
  | .ins => match w with
    | .byte => ∃ v, Stored s t w (v.zeroExtend 16) ∧ PortIn8 s t s.gpr.dx v
    | .word => ∃ v, Stored s t w v ∧ PortIn16 s t s.gpr.dx v
  | .outs => MemSame s t ∧ t.portFeed = s.portFeed ∧ t.freeCtr = s.freeCtr ∧
    t.portLog = s.portLog ++ [match w with
      | .byte => .write8 s.gpr.dx (s.segByte (sourceSeg s) s.gpr.si)
      | .word => .write16 s.gpr.dx (s.segWord (sourceSeg s) s.gpr.si)]
  | .cmps => MemSame s t ∧ PortsSame s t
  | .scas => MemSame s t ∧ PortsSame s t
  | .lods => MemSame s t ∧ PortsSame s t

/-! ### Interrupts and exceptions in Real Address Mode (60_exceptions.md R663) -/

/-- The far pointer of a vector has been read: the four bytes of its entry once each, in rising order, the offset's and then the
selector's (R663; 20_memory.md R80, R85, R117(c)). -/
def VectorRead (s t : State) (v : Byte) (off sel : Word) : Prop :=
  ∃ (x y z : State) (b0 b1 b2 b3 : Byte),
    DataRead s x (physAdd s.idtr.base (4 * v.toNat)) b0 ∧ DataRead x y (physAdd s.idtr.base (4 * v.toNat + 1)) b1 ∧
    DataRead y z (physAdd s.idtr.base (4 * v.toNat + 2)) b2 ∧ DataRead z t (physAdd s.idtr.base (4 * v.toNat + 3)) b3 ∧
    off = pair b1.toNat b0.toNat ∧ sel = pair b3.toNat b2.toNat

/-- What a delivery in Real Address Mode leaves: FLAGS, CS and IP on the stack, IF and TF clear, CS:IP from the vector table as
it stands after the pushes, whatever answers there, the machine in the handler; nothing else among registers changes, and nothing of
the bus but what the reads of a device or of absent memory leave. -/
def RealEntry (s t : State) (v : Byte) (retIp : Word) : Prop :=
  ∃ (u : State) (off sel : Word),
    VectorRead { s with gpr := { s.gpr with sp := s.gpr.sp - 6 }, mem := t.mem } u v off sel ∧
    t = inHandler { u with flags := { s.flags with ie := false, tf := false }, ip := off, cs := realModeSeg sel } ∧
    Pushed s t [BitVec.ofNat 16 (flagWord s.flags), s.cs.sel, retIp]

/-- A delivery in Real Address Mode finds its vector inside the table, whatever answers there, and room for its frame in plain memory. -/
def RealEntryOk (s : State) (v : Byte) : Prop :=
  s.msw.pe = false ∧ s.bus.lock = .free ∧ 4 * v.toNat + 3 ≤ s.idtr.limit.toNat ∧ StackRoom s 3

/-! ### The exception of a reference that fails its checks (20_memory.md R110 to R115, R118) -/

/-- #GP(0) for a type violation; for validity and limit #SS(0) through SS, else #GP(0); interrupt 13 in Real Address Mode. -/
def refTrap (s : State) (r : SegReg) (k : Access) : Trap :=
  if s.msw.pe = true ∧ r = .ss ∧ ((s.seg r).ar = 0 ∨ accessAllowed (s.seg r).ar k = true) then { vector := 12, code := 0 }
  else { vector := 13, code := 0 }

/-- A stack reference that fails: #SS(0); interrupt 13 in Real Address Mode (40_data_transfer.md R260(c); R118). -/
def stackFault (s : State) : Trap := if s.msw.pe = true then { vector := 12, code := 0 } else { vector := 13, code := 0 }

/-- `n` words can be written below SP. -/
def RoomBelow (s : State) (n : Nat) : Prop := ∀ i, i < n → Accessible s .ss (s.gpr.sp - BitVec.ofNat 16 (2 * (i + 1))) 2 .write

/-- `n` words can be read from SP up. -/
def WordsAbove (s : State) (n : Nat) : Prop := ∀ i, i < n → Accessible s .ss (s.gpr.sp + BitVec.ofNat 16 (2 * i)) 2 .read

/-! ### What a task switch loads (46_protected_transfer.md R590, steps 10 to 14) -/

/-- The Accessed bit of a descriptor set where it stands (20_memory.md R123). -/
def accessedIn (s : State) (d : Desc) : State := s.store d.accessByte (s.look d.accessByte ||| 1)

/-- What step 10 leaves in LDTR for a selector, found in memory as `n` holds it. -/
def LdtSwitched (n : State) (sel : Word) (old new : SysReg) : Prop :=
  (sel.toNat < 4 ∧ new = { old with sel := sel, valid := false }) ∨
  (4 ≤ sel.toNat ∧ sel.getLsbD 2 = false ∧ ∃ d, n.fetchDesc sel = some d ∧ isSys d.ar 2 = true ∧ present d.ar = true ∧
    new = { sel := sel, base := BitVec.ofNat 24 (65536 * d.b4.toNat + d.w1.toNat), limit := d.w0, valid := true })

/-- What step 14 leaves in DS or ES for a selector, found in memory as `n` holds it, and the memory `t` it leaves; `ks`: the
descriptor it loaded, if any; `u`: the state whose privilege level counts. -/
def DataSwitched (u n t : State) (old new : SegCache) (ks : List Desc) : Prop :=
  (new.sel.toNat < 4 ∧ new = { old with sel := new.sel, ar := 0 } ∧ ks = [] ∧ t = n) ∨
  (4 ≤ new.sel.toNat ∧ ∃ k, n.fetchDesc new.sel = some k ∧ DataLoadable u new.sel k ∧ new = descriptorSeg new.sel k ∧
    ks = [k] ∧ t = accessedIn n k)

/-! ### Other agents on the bus (20_memory.md R84, R140, R142, R143) -/

/-- A state with other acts to come between its bus cycles. -/
def withBetween (s : State) (acts : List (List BusAct)) : State := { s with bus := { s.bus with between := acts } }

/-- Other agents have acted before a bus cycle; `rest` is to come before the next ones. -/
def afterOthers (s : State) (acts : List BusAct) (rest : List (List BusAct)) : State := actAll (withBetween s rest) acts

/-- The bus lock has ended, and what it held back has happened (43_string.md R444). -/
def unlocked (s : State) : State := actAll { s with bus := { s.bus with lock := .free, held := [] } } s.bus.held

/-- All bus cycles of an instruction are locked, and they reach plain memory: XCHG, and MOVS, INS and OUTS with a LOCK prefix (R142;
43_string.md R444). -/
def LockedCycles (s : State) (i : Instr) : Prop :=
  (∃ e r, i = .xchgEbRb e r ∧ Rm8Ok s e .write) ∨ (∃ e r, i = .xchgEwRw e r ∧ Rm16Ok s e .write) ∨
  ∃ k : StringKind, ∃ w, i = k.instr w ∧ k.lockable = true ∧ s.pfx.lock = true ∧ k.Ok s w

/-! ### A RESET in the middle of a step (70_reset_and_hazards.md R730) -/

/-- What R731 says of the processor after RESET. -/
def ResetDone (t : State) : Prop :=
  t.flags = {} ∧ t.msw = {} ∧ t.ip = 0xFFF0 ∧
    t.cs.sel = 0xF000 ∧ t.cs.base = 0xFF0000 ∧ (∀ r, (t.seg r).limit = 0xFFFF ∧ (t.seg r).ar ≠ 0) ∧
    (∀ r, r ≠ .cs → (t.seg r).sel = 0x0000 ∧ (t.seg r).base = 0x000000) ∧
    t.idtr = { base := 0, limit := 0x03FF } ∧ t.run = .running ∧ t.nmiMasked = false ∧ t.nmiPending = false ∧
    t.inhibitNext = false

/-- The first `n` of the words pushed from SP down have been written, and no other byte of memory. -/
def PushedSoFar (s t : State) (ws : List Word) (n : Nat) : Prop := Pushed s t (ws.take n)

/-- Where a task switch ends, whether it completes or fails. -/
def switchEnd : Except Failure State → State
  | .ok u => u
  | .error f => f.st

/-! ### The last event of a boundary (60_exceptions.md R653) -/

/-- Order 5: an INTR is taken where IF is set and no shadow of an STI, shutdown or RESET in this step stands against it. -/
def intrTaken (s : State) : State :=
  match s.pins.intr with
  | none => s
  | some v =>
    if s.flags.ie = true ∧ s.stiShadow = false ∧ s.run ≠ .shutdown ∧ s.dead = false then
      deliver { s with pins := { s.pins with intr := none } } v s.ip .external 0
    else s

end Sys2Proof.Machine
end

