-- ==== Sys2Proof/Certificates/Slice0/Obligations.lean ====
section
/-! DEFINITION. The statements for the provers.  Each is about every state and operand that meets its hypotheses; the rules of
spec/ it rests on stand in its docstring and in OBLIGATIONS.json.  A statement of an instruction's result gives the whole next
state: what its equations do not name is unchanged.  The bytes of a reference stand where `State.segAddr` says; where a platform has
`a20ForcedLow`, the address of the second byte of a word at 0FFFFFH is the model's choice (notes/assumptions/20.md). -/

open Sys2Proof Sys2Proof.Machine

/-! ### Reset, the invariant, the step -/

/-- The machine right after RESET, every value R71 lists (10_state.md R71; the images of FLAGS and MSW by R30, R40, R45, R48).
An access byte that is not 0 says that a segment register is valid; which byte it is, is the model's (notes/assumptions/2.md). -/
def Obligations.ResetValues : Prop :=
  State.reset.flags.toWord = 0x0002 ∧ State.reset.msw.toWord = 0xFFF0 ∧ State.reset.ip = 0xFFF0 ∧
  State.reset.cs.sel = 0xF000 ∧ State.reset.cs.base = 0xFF0000 ∧ State.reset.cs.limit = 0xFFFF ∧
  (∀ r, (State.reset.seg r).ar ≠ 0) ∧
  (∀ r, r ≠ .cs → (State.reset.seg r).sel = 0x0000 ∧ (State.reset.seg r).base = 0x000000 ∧
    (State.reset.seg r).limit = 0xFFFF) ∧
  State.reset.idtr.base = 0x000000 ∧ State.reset.idtr.limit = 0x03FF ∧
  State.reset.msw.pe = false ∧ State.reset.flags.ie = false ∧
  State.reset.nmiMasked = false ∧ State.reset.nmiPending = false ∧ State.reset.inhibitNext = false ∧
  State.reset.run = .running ∧
  (State.reset.segAddr .cs State.reset.ip).toNat = 0xFFFFF0

/-- The invariant holds at reset; it says too that no RESET is left to come into a step.
The model's own choices in it: notes/assumptions/3.md, 4.md, 39.md. -/
def Obligations.ResetInv : Prop := Invariant State.reset

/-- Every step keeps the invariant: memory stays in its canonical form, IOPL and NT stay clear and segments stay 64K windows in
Real Address Mode, no instruction is longer than ten bytes, prefixes end with their instruction.
The model's own choices in it: notes/assumptions/3.md, 4.md, 39.md. -/
def Obligations.StepKeepsInv : Prop := ∀ s t, Invariant s → step s = .next t → Invariant t

/-- A step of the running machine takes in the inputs, runs the instruction (or prefix byte) that stands at CS:IP past the
prefixes already read, with `nextIp` just past it, and ends at the instruction boundary; a boundary with no event leaves all but
the model's markers of STI and of stores into code as it was.
The model's own choices in it: notes/assumptions/4.md, 14.md, 18.md, 42.md. -/
def Obligations.StepRunsDecoded : Prop :=
  (∀ (s : State) (i : Instr) (rest : List Byte), i.wf = true → s.run = .running → s.inputs = [] →
    decode s.fetched = .ok (i, rest) →
    step s = atBoundary s.mem (exec i (s.beginInstr.withNext (s.fetched.length - rest.length)))) ∧
  (∀ (s u : State) (g : Signals) (gs : List Signals) (i : Instr) (rest : List Byte), i.wf = true → s.run = .running →
    s.inputs = g :: gs → g.reset = none → u = s.accept g gs → decode u.fetched = .ok (i, rest) →
    step s = atBoundary u.mem (exec i (u.beginInstr.withNext (u.fetched.length - rest.length)))) ∧
  (∀ (before : Memory) (s t : State), atBoundary before (.next t) = .next (endInstr before t) ∧
    (t.pfx.count ≠ 0 → endInstr before t = t) ∧
    (s.pfx.count = 0 → s.run = .running → s.inhibitNext = false → s.tfAtStart = false → s.nmiPending = false →
      s.int9Pending = false → s.pins.intr = none → s.lmsw = .clear → s.bus.lock ≠ .active →
      endInstr before s = { s.noteStores before with stiShadow := false }))

/-- Decoding the encoding of a well-formed instruction gives it back, with every operand at every value. -/
def Obligations.DecodeEncode : Prop :=
  ∀ (i : Instr) (rest : List Byte), i.wf = true → decode (encode i ++ rest) = .ok (i, rest)

/-- A decoded instruction is well formed, and its bytes are one to six from the front. -/
def Obligations.DecodeTakesBytes : Prop :=
  ∀ (bs rest : List Byte) (i : Instr), decode bs = .ok (i, rest) →
    i.wf = true ∧ ∃ taken, bs = taken ++ rest ∧ 1 ≤ taken.length ∧ taken.length ≤ 6

/-- Words written out from the encodings of 30_encoding.md decode to the instructions they stand for.
The model's own choices in it: notes/assumptions/30.md, 38.md. -/
def Obligations.DecodeWords : Prop :=
  decode [0x01, 0xD8] = .ok (.addEwRw (.reg .ax) .bx, []) ∧
  decode [0x83, 0x6E, 0xFE, 0x05] = .ok (.subEwDb (.mem (.based .bp (.d8 0xFE))) 5, []) ∧
  decode [0x8B, 0x0E, 0x34, 0x12] = .ok (.movRwEw .cx (.mem (.direct 0x1234)), []) ∧
  decode [0xC1, 0xE0, 0x10] = .ok (.shlEwDb (.reg .ax) 0x10, []) ∧
  decode [0xA5] = .ok (.movsw, []) ∧
  decode [0x74, 0xFE] = .ok (.je 0xFE, []) ∧
  decode [0x9A, 0x78, 0x56, 0x34, 0x12] = .ok (.callCd 0x5678 0x1234, []) ∧
  decode [0xC8, 0x00, 0x08, 0x03] = .ok (.enter 0x0800 3, []) ∧
  decode [0x0F, 0x01, 0xF0] = .ok (.lmsw (.reg .ax), []) ∧
  decode [0xD9, 0x06, 0x00, 0x01] = .ok (.esc 1 0 (.mem (.direct 0x0100)), []) ∧
  decode [0x0F, 0x05] = .ok (.undef0F 0x05, [])

/-- A prefix byte is recorded for the instruction that follows it, and IP stays at the first byte (30_encoding.md R230 to R233).
The model's own choices in it: notes/assumptions/4.md. -/
def Obligations.PrefixesRecorded : Prop :=
  ∀ s : State,
    exec .segEs s = .next { s with pfx := { s.pfx with seg := some .es, count := s.pfx.count + 1 } } ∧
    exec .segCs s = .next { s with pfx := { s.pfx with seg := some .cs, count := s.pfx.count + 1 } } ∧
    exec .segSs s = .next { s with pfx := { s.pfx with seg := some .ss, count := s.pfx.count + 1 } } ∧
    exec .segDs s = .next { s with pfx := { s.pfx with seg := some .ds, count := s.pfx.count + 1 } } ∧
    exec .lock s = .next { s with pfx := { s.pfx with lock := true, count := s.pfx.count + 1 } } ∧
    exec .repne s = .next { s with pfx := { s.pfx with rep := some .repne, count := s.pfx.count + 1 } } ∧
    exec .rep s = .next { s with pfx := { s.pfx with rep := some .repe, count := s.pfx.count + 1 } }

/-- An undefined opcode, and the register form of an instruction whose operand is memory, takes exception 6 with IP at its first
byte; in Real Address Mode so do the instructions of Protected Mode alone (30_encoding.md R213, R245 to R248; 47_system.md R610);
where the vector table and the stack allow, Real Address Mode enters the handler.
The new CS cache's access byte and the reserved bits of the pushed FLAGS are the model's choices too.
The model's own choices in it: notes/assumptions/6.md, 10.md, 38.md, 39.md, 47.md. -/
def Obligations.UndefinedOpcodes : Prop :=
  ∀ (i : Instr) (s : State),
    (undefinedForms i = true ∨ (protectedOnlyForms i = true ∧ s.msw.pe = false)) →
    exec i s = .next (deliver { s with tfAtStart := false } 6 s.ip .exception 0) ∧
    (s.mem.wf = true → RealEntryOk s 6 → ∃ t, exec i s = .next t ∧ RealEntry { s with tfAtStart := false } t 6 s.ip)

/-! ### Arithmetic (41_arithmetic.md) -/

/-- ADD, ADC, SUB, SBB and CMP of bytes and of words, the sign-extended immediate byte included: the result modulo 2^8 or 2^16
and all six flags; CMP writes flags alone (R320 to R326). -/
def Obligations.Arithmetic : Prop :=
  (∀ (op : ArithOp) (f : Form8) (s : State), LockAllowed s → s.mem.wf = true → f.Ok s op.access →
    ∃ t, exec (op.instr8 f) s = .next t ∧ Ended s t ∧ t.freeCtr = s.freeCtr ∧
      t.flags = op.flagsAfter s.flags (rm8Value s f.dest) (f.source s) ∧
      (op = .cmp → WroteNothing s t) ∧
      (op ≠ .cmp → Wrote8 s t f.dest (op.result s.flags (rm8Value s f.dest) (f.source s)))) ∧
  (∀ (op : ArithOp) (f : ArithForm16) (s : State), LockAllowed s → s.mem.wf = true → f.Ok s op.access →
    ∃ t, exec (op.instr16 f) s = .next t ∧ Ended s t ∧ t.freeCtr = s.freeCtr ∧
      t.flags = op.flagsAfter s.flags (rm16Value s f.dest) (f.source s) ∧
      (op = .cmp → WroteNothing s t) ∧
      (op ≠ .cmp → Wrote16 s t f.dest (op.result s.flags (rm16Value s f.dest) (f.source s))))

/-- AND, OR and XOR: the result; CF and OF clear, SF, ZF and PF from it, AF left open (42_logic_shift.md R380 to R383).  TEST: the
flags of AND, no operand written, a readable operand enough (R385). -/
def Obligations.Logic : Prop :=
  (∀ (op : LogicOp) (f : Form8) (s : State), LockAllowed s → s.mem.wf = true → f.Ok s .write →
    ∃ t, exec (op.instr8 f) s = .next t ∧ Ended s t ∧
      Wrote8 s t f.dest (op.result (rm8Value s f.dest) (f.source s)) ∧
      t.flags = logicFlags s.flags (op.result (rm8Value s f.dest) (f.source s)) t.flags.af) ∧
  (∀ (op : LogicOp) (f : Form16) (s : State), LockAllowed s → s.mem.wf = true → f.Ok s .write →
    ∃ t, exec (op.instr16 f) s = .next t ∧ Ended s t ∧
      Wrote16 s t f.dest (op.result (rm16Value s f.dest) (f.source s)) ∧
      t.flags = logicFlags s.flags (op.result (rm16Value s f.dest) (f.source s)) t.flags.af) ∧
  (∀ (f : TestForm8) (s : State), LockAllowed s → Rm8Ok s f.dest .read →
    ∃ t, exec f.instr s = .next t ∧ Ended s t ∧ WroteNothing s t ∧
      t.flags = logicFlags s.flags (rm8Value s f.dest &&& f.source s) t.flags.af) ∧
  (∀ (f : TestForm16) (s : State), LockAllowed s → Rm16Ok s f.dest .read →
    ∃ t, exec f.instr s = .next t ∧ Ended s t ∧ WroteNothing s t ∧
      t.flags = logicFlags s.flags (rm16Value s f.dest &&& f.source s) t.flags.af)

/-- INC, DEC, NEG and NOT, of bytes and words, the one-byte INC and DEC of a register included (R327 to R329; 42_logic_shift.md
R384): INC and DEC keep CF, NOT keeps every flag. -/
def Obligations.Unary : Prop :=
  (∀ (op : UnaryOp) (e : Rm8) (s : State), LockAllowed s → s.mem.wf = true → Rm8Ok s e .write →
    ∃ t, exec (op.instr8 e) s = .next t ∧ Ended s t ∧ t.freeCtr = s.freeCtr ∧
      t.flags = op.flagsAfter s.flags (rm8Value s e) ∧ Wrote8 s t e (op.result (rm8Value s e))) ∧
  (∀ (f : UnaryForm16) (s : State), LockAllowed s → s.mem.wf = true → Rm16Ok s f.dest .write →
    ∃ t, exec f.instr s = .next t ∧ Ended s t ∧ t.freeCtr = s.freeCtr ∧
      t.flags = f.op.flagsAfter s.flags (rm16Value s f.dest) ∧ Wrote16 s t f.dest (f.op.result (rm16Value s f.dest)))

/-- An arithmetic, logic, one-operand, TEST, shift, multiply, divide, move, exchange, segment-register, system or indirect-transfer
instruction whose memory operand fails its checks takes #GP(0) or #SS(0) with nothing changed, IP at its first byte, whatever its
form; a destination that is read and written is checked as a write.  Every word of a pointer or a table register, and the destination
of POP, is checked before any is read, so that a device is not read.  A LOCK prefix that IOPL forbids takes #GP(0) before any
instruction that comes to that check (20_memory.md R110 to R119; 45_flag_misc.md R521).  The exception of a reference through an
invalid cache is the spec's decision (D29, log entry 40).
The model's own choices in it: notes/assumptions/8.md, 9.md, 40.md, 45.md. -/
def Obligations.OperandFault : Prop :=
  (∀ (op : ArithOp) (f : Form8) (m : MemOp) (k : Access) (s : State), LockAllowed s → f.memory op.access = some (m, k) →
    ¬ Accessible s (s.memSeg m) (s.effOffset m) 1 k →
    exec (op.instr8 f) s = .next (raiseAt s (refTrap s (s.memSeg m) k))) ∧
  (∀ (op : ArithOp) (f : ArithForm16) (m : MemOp) (k : Access) (s : State), LockAllowed s →
    f.memory op.access = some (m, k) → ¬ Accessible s (s.memSeg m) (s.effOffset m) 2 k →
    exec (op.instr16 f) s = .next (raiseAt s (refTrap s (s.memSeg m) k))) ∧
  (∀ (op : LogicOp) (f : Form8) (m : MemOp) (k : Access) (s : State), LockAllowed s → f.memory .write = some (m, k) →
    ¬ Accessible s (s.memSeg m) (s.effOffset m) 1 k →
    exec (op.instr8 f) s = .next (raiseAt s (refTrap s (s.memSeg m) k))) ∧
  (∀ (op : LogicOp) (f : Form16) (m : MemOp) (k : Access) (s : State), LockAllowed s → f.memory .write = some (m, k) →
    ¬ Accessible s (s.memSeg m) (s.effOffset m) 2 k →
    exec (op.instr16 f) s = .next (raiseAt s (refTrap s (s.memSeg m) k))) ∧
  (∀ (f : TestForm8) (m : MemOp) (s : State), LockAllowed s → f.dest = .mem m →
    ¬ Accessible s (s.memSeg m) (s.effOffset m) 1 .read →
    exec f.instr s = .next (raiseAt s (refTrap s (s.memSeg m) .read))) ∧
  (∀ (f : TestForm16) (m : MemOp) (s : State), LockAllowed s → f.dest = .mem m →
    ¬ Accessible s (s.memSeg m) (s.effOffset m) 2 .read →
    exec f.instr s = .next (raiseAt s (refTrap s (s.memSeg m) .read))) ∧
  (∀ (op : UnaryOp) (m : MemOp) (s : State), LockAllowed s →
    ¬ Accessible s (s.memSeg m) (s.effOffset m) 1 .write →
    exec (op.instr8 (.mem m)) s = .next (raiseAt s (refTrap s (s.memSeg m) .write))) ∧
  (∀ (f : UnaryForm16) (m : MemOp) (s : State), LockAllowed s → f.dest = .mem m →
    ¬ Accessible s (s.memSeg m) (s.effOffset m) 2 .write →
    exec f.instr s = .next (raiseAt s (refTrap s (s.memSeg m) .write))) ∧
  (∀ (op : ShiftOp) (f : CountForm) (m : MemOp) (s : State), LockAllowed s →
    (¬ Accessible s (s.memSeg m) (s.effOffset m) 1 .write →
      exec (op.instr8 (.mem m) f) s = .next (raiseAt s (refTrap s (s.memSeg m) .write))) ∧
    (¬ Accessible s (s.memSeg m) (s.effOffset m) 2 .write →
      exec (op.instr16 (.mem m) f) s = .next (raiseAt s (refTrap s (s.memSeg m) .write)))) ∧
  (∀ (f : MoveForm8) (m : MemOp) (k : Access) (s : State), LockAllowed s → f.memory = some (m, k) →
    ¬ Accessible s (s.memSeg m) (s.effOffset m) 1 k →
    exec f.instr s = .next (raiseAt s (refTrap s (s.memSeg m) k))) ∧
  (∀ (f : MoveForm16) (m : MemOp) (k : Access) (s : State), LockAllowed s → f.memory = some (m, k) →
    ¬ Accessible s (s.memSeg m) (s.effOffset m) 2 k →
    exec f.instr s = .next (raiseAt s (refTrap s (s.memSeg m) k))) ∧
  (∀ (i : Instr) (m : MemOp) (s : State), LockAllowed s →
    (i = .mulEb (.mem m) ∨ i = .imulEb (.mem m) ∨ i = .divEb (.mem m) ∨ i = .idivEb (.mem m)) →
    ¬ Accessible s (s.memSeg m) (s.effOffset m) 1 .read → exec i s = .next (raiseAt s (refTrap s (s.memSeg m) .read))) ∧
  (∀ (f : ReadForm16) (m : MemOp) (s : State), LockAllowed s → f.Allowed s →
    ¬ Accessible s (s.memSeg m) (s.effOffset m) 2 .read →
    exec (f.instr (.mem m)) s = .next (raiseAt s (refTrap s (s.memSeg m) .read))) ∧
  (∀ (r : Reg8) (m : MemOp) (s : State), LockAllowed s → ¬ Accessible s (s.memSeg m) (s.effOffset m) 1 .write →
    exec (.xchgEbRb (.mem m) r) s = .next (raiseAt s (refTrap s (s.memSeg m) .write))) ∧
  (∀ (i : Instr) (m : MemOp) (s : State), LockAllowed s →
    ((∃ r, i = .xchgEwRw (.mem m) r) ∨ (i = .popMw (.mem m) ∧ WordsAbove s 1) ∨
      (s.msw.pe = true ∧ (i = .sldt (.mem m) ∨ i = .str (.mem m) ∨ ∃ r, i = .arpl (.mem m) r))) →
    ¬ Accessible s (s.memSeg m) (s.effOffset m) 2 .write →
    exec i s = .next (raiseAt s (refTrap s (s.memSeg m) .write))) ∧
  (∀ (f : PointerForm) (m : MemOp) (s : State), LockAllowed s → ¬ PointerOpen s m →
    exec (f.instr m) s = .next (raiseAt s (refTrap s (s.memSeg m) .read))) ∧
  (∀ (i : Instr) (m : MemOp) (s : State), LockAllowed s → Privileged s → (i = .lgdt (.mem m) ∨ i = .lidt (.mem m)) →
    ¬ (PointerOpen s m ∧ Accessible s (s.memSeg m) (s.effOffset m + 4) 2 .read) →
    exec i s = .next (raiseAt s (refTrap s (s.memSeg m) .read))) ∧
  (∀ (i : Instr) (m : MemOp) (s : State), LockAllowed s → (i = .sgdt (.mem m) ∨ i = .sidt (.mem m)) →
    ¬ (Accessible s (s.memSeg m) (s.effOffset m) 2 .write ∧ Accessible s (s.memSeg m) (s.effOffset m + 2) 2 .write ∧
      Accessible s (s.memSeg m) (s.effOffset m + 4) 2 .write) →
    exec i s = .next (raiseAt s (refTrap s (s.memSeg m) .write))) ∧
  (∀ s : State, LockAllowed s →
    ¬ Accessible s (sourceSeg s) (BitVec.ofNat 16 (s.gpr.bx.toNat + s.gpr.ax.toNat % 256)) 1 .read →
    exec .xlat s = .next (raiseAt s (refTrap s (sourceSeg s) .read))) ∧
  (∀ (i : Instr) (s : State), ¬ LockAllowed s → LockChecked s i →
    exec i s = .next (raiseAt s { vector := 13, code := 0 }))

/-- A stack instruction whose words below or above SP fail their checks takes #SS(0), interrupt 13 in Real Address Mode, with nothing
changed and IP at its first byte: the pushes and PUSHA, the pops and POPA, POPF, near and far CALL and RET, IRET, ENTER (its words,
its display, the space it asks for) and LEAVE (40_data_transfer.md R260(c), R266 to R276; 44_control_transfer.md R457 to R464, R489;
45_flag_misc.md R525, R527; 46_protected_transfer.md R572, R576, R580).  A memory source of PUSH, CALL and the strings is checked first,
and not read where a later check fails (20_memory.md R113).  A string instruction takes the exception of its first reference that
fails, with or without a repeat prefix, SI, DI and CX as they were (43_string.md R420 to R427, R431).  The exception of a reference
through an invalid cache is the spec's decision (D29, log entry 40), the test of the final SP that ENTER makes the decision D38
(log entry 29), and #SS(0) whichever check of POP, LEAVE or a several-word instruction fails the model's reading (log entry 11).
The model's own choices in it: notes/assumptions/8.md, 9.md, 11.md, 29.md, 40.md. -/
def Obligations.StackAndStringFault : Prop :=
  (∀ (i : Instr) (s : State), LockAllowed s → ¬ RoomBelow s 1 →
    ((∃ f : PushForm, f.Open s ∧ i = f.instr) ∨ (∃ d, i = .callCw d) ∨ ∃ e, Rm16Open s e .read ∧ i = .callEw e) →
    exec i s = .next (raiseAt s (stackFault s))) ∧
  (∀ s : State, LockAllowed s → ¬ RoomBelow s 8 → exec .pusha s = .next (raiseAt s (stackFault s))) ∧
  (∀ (i : Instr) (s : State), LockAllowed s → ¬ WordsAbove s 1 →
    ((∃ r, i = .popRw r) ∨ (∃ e, i = .popMw e) ∨ i = .popf ∨ i = .popDs ∨ i = .popEs ∨ i = .popSs ∨ i = .ret ∨
      ∃ v, i = .retDw v) →
    exec i s = .next (raiseAt s (stackFault s))) ∧
  (∀ s : State, LockAllowed s → ¬ WordsAbove s 8 → exec .popa s = .next (raiseAt s (stackFault s))) ∧
  (∀ (i : Instr) (s : State) (n : Nat), LockAllowed s → s.msw.pe = false → ¬ WordsAbove s n →
    ((n = 2 ∧ (i = .retf ∨ ∃ v, i = .retfDw v)) ∨ (n = 3 ∧ i = .iret)) →
    exec i s = .next (raiseAt s (stackFault s))) ∧
  (∀ (i : Instr) (s : State), LockAllowed s → s.msw.pe = true → ¬ Accessible s .ss (s.gpr.sp + 2) 2 .read →
    (i = .retf ∨ (∃ v, i = .retfDw v) ∨ (i = .iret ∧ s.flags.nt = false)) →
    exec i s = .next (raiseAt s (stackFault s))) ∧
  (∀ (s : State) (sel : Word), LockAllowed s → s.msw.pe = true → s.flags.nt = false → WordOk s .ss (s.gpr.sp + 2) .read →
    sel = s.segWord .ss (s.gpr.sp + 2) →
    ((rpl sel = s.cpl ∧ ¬ WordsAbove s 3) ∨ (s.cpl < rpl sel ∧ ¬ WordsAbove s 5)) →
    exec .iret s = .next (raiseAt s (stackFault s))) ∧
  (∀ (i : Instr) (s : State) (release sel : Word), ((i = .retf ∧ release = 0) ∨ i = .retfDw release) → LockAllowed s →
    s.msw.pe = true → WordOk s .ss (s.gpr.sp + 2) .read → sel = s.segWord .ss (s.gpr.sp + 2) →
    ((s.cpl < rpl sel ∧ ¬ Accessible s .ss s.gpr.sp (8 + release.toNat) .read) ∨
      (rpl sel = s.cpl ∧ 4 ≤ sel.toNat ∧ (∃ d, s.fetchDesc sel = some d ∧ CodeAt d s.cpl) ∧ ¬ WordsAbove s 1)) →
    exec i s = .next (raiseAt s (stackFault s))) ∧
  (∀ (i : Instr) (s : State), LockAllowed s → s.msw.pe = false → ¬ RoomBelow s 2 →
    ((∃ off sel, i = .callCd off sel) ∨ ∃ m, PointerOpen s m ∧ i = .callEd (.mem m)) →
    exec i s = .next (raiseAt s (stackFault s))) ∧
  (∀ (i : Instr) (s : State) (sel off : Word) (d : Desc), LockAllowed s → s.msw.pe = true → ¬ RoomBelow s 2 → FarCall i s sel off →
    Alone s → 4 ≤ sel.toNat → s.fetchDesc sel = some d → CodeAt d s.cpl → (conforming d.ar = false → rpl sel ≤ s.cpl) →
    exec i s = .next (raiseAt s (stackFault s))) ∧
  (∀ (size : Word) (level : Byte) (s : State) (l n : Nat), LockAllowed s → l = level.toNat % 32 →
    n = (if l = 0 then 1 else l + 1) →
    (¬ RoomBelow s n ∨ (∃ k, 1 ≤ k ∧ k < l ∧ ¬ Accessible s .ss (s.gpr.bp - BitVec.ofNat 16 (2 * k)) 2 .read) ∨
      (s.msw.pe = true ∧ size ≠ 0 ∧ ¬ Accessible s .ss (s.gpr.sp - BitVec.ofNat 16 (2 * n) - size) 2 .write)) →
    exec (.enter size level) s = .next (raiseAt s (stackFault s))) ∧
  (∀ s : State, LockAllowed s → ¬ Accessible s .ss s.gpr.bp 2 .read → exec .leave s = .next (raiseAt s (stackFault s))) ∧
  (∀ (k : StringKind) (w : Elem) (s : State), LockAllowed s → ((k = .ins ∨ k = .outs) → IoAllowed s) →
    (s.pfx.rep = none ∨ s.gpr.cx ≠ 0) →
    (∀ (r : SegReg) (off : Word) (a : Access) (rest : List (SegReg × Word × Access)), k.refs s = (r, off, a) :: rest →
      ¬ Accessible s r off w.size a → exec (k.instr w) s = .next (raiseAt s (refTrap s r a))) ∧
    (∀ (q r : SegReg) (o off : Word) (b a : Access), k.refs s = [(q, o, b), (r, off, a)] → Accessible s q o w.size b →
      ¬ Accessible s r off w.size a → exec (k.instr w) s = .next (raiseAt s (refTrap s r a))))

/-- MUL and IMUL: the product, and CF = OF = whether its upper half says more than the lower half's zero or sign extension; SF,
ZF, AF and PF left open (R330 to R332). -/
def Obligations.Multiply : Prop :=
  (∀ (signed : Bool) (e : Rm8) (s : State), LockAllowed s → Rm8Ok s e .read →
    ∃ t, exec (if signed then .imulEb e else .mulEb e) s = .next t ∧ Ended s t ∧ t.mem = s.mem ∧
      (signed = false →
        t.gpr = { s.gpr with ax := BitVec.ofNat 16 ((s.reg8 .al).toNat * (rm8Value s e).toNat) } ∧
        t.flags = productFlags s.flags t.flags (decide (256 ≤ (s.reg8 .al).toNat * (rm8Value s e).toNat))) ∧
      (signed = true →
        t.gpr = { s.gpr with ax := BitVec.ofInt 16 ((s.reg8 .al).toInt * (rm8Value s e).toInt) } ∧
        t.flags = productFlags s.flags t.flags (outsideSigned 8 ((s.reg8 .al).toInt * (rm8Value s e).toInt)))) ∧
  (∀ (signed : Bool) (e : Rm16) (s : State), LockAllowed s → Rm16Ok s e .read →
    ∃ t, exec (if signed then .imulEw e else .mulEw e) s = .next t ∧ Ended s t ∧ t.mem = s.mem ∧
      (signed = false →
        t.gpr = { s.gpr with
          ax := BitVec.ofNat 16 (s.gpr.ax.toNat * (rm16Value s e).toNat)
          dx := BitVec.ofNat 16 (s.gpr.ax.toNat * (rm16Value s e).toNat / 65536) } ∧
        t.flags = productFlags s.flags t.flags (decide (65536 ≤ s.gpr.ax.toNat * (rm16Value s e).toNat))) ∧
      (signed = true →
        t.gpr = { s.gpr with
          ax := BitVec.ofInt 16 (s.gpr.ax.toInt * (rm16Value s e).toInt)
          dx := BitVec.ofInt 16 (s.gpr.ax.toInt * (rm16Value s e).toInt / 65536) } ∧
        t.flags = productFlags s.flags t.flags (outsideSigned 16 (s.gpr.ax.toInt * (rm16Value s e).toInt)))) ∧
  (∀ (r : Reg16) (e : Rm16) (v : Word) (s : State), LockAllowed s → Rm16Ok s e .read →
    ∃ t, exec (.imulRwEwDw r e v) s = .next t ∧ Ended s t ∧ t.mem = s.mem ∧
      t.gpr = s.gpr.set r (BitVec.ofInt 16 ((rm16Value s e).toInt * v.toInt)) ∧
      t.flags = productFlags s.flags t.flags (outsideSigned 16 ((rm16Value s e).toInt * v.toInt))) ∧
  (∀ (r : Reg16) (e : Rm16) (v : Byte) (s : State), LockAllowed s → Rm16Ok s e .read →
    ∃ t, exec (.imulRwEwDb r e v) s = .next t ∧ Ended s t ∧ t.mem = s.mem ∧
      t.gpr = s.gpr.set r (BitVec.ofInt 16 ((rm16Value s e).toInt * v.toInt)) ∧
      t.flags = productFlags s.flags t.flags (outsideSigned 16 ((rm16Value s e).toInt * v.toInt)))

/-- DIV: quotient and remainder when the divisor is not zero and the quotient fits.  IDIV: quotient rounded toward zero, remainder
with the dividend's sign, the most negative quotient allowed.  All six flags are left open.  A zero divisor, or a quotient that
does not fit, takes exception 0 with IP at the instruction and no register changed (R333, R334). -/
def Obligations.Divide : Prop :=
  (∀ (e : Rm8) (s : State), LockAllowed s → Rm8Ok s e .read → (rm8Value s e).toNat ≠ 0 →
    s.gpr.ax.toNat / (rm8Value s e).toNat ≤ 0xFF →
    ∃ t, exec (.divEb e) s = .next t ∧ Ended s t ∧ t.mem = s.mem ∧ ControlFlagsSame s t ∧
      t.gpr = { s.gpr with
        ax := pair (s.gpr.ax.toNat % (rm8Value s e).toNat) (s.gpr.ax.toNat / (rm8Value s e).toNat) }) ∧
  (∀ (e : Rm16) (s : State) (n : Nat), LockAllowed s → Rm16Ok s e .read → (rm16Value s e).toNat ≠ 0 →
    n = 65536 * s.gpr.dx.toNat + s.gpr.ax.toNat → n / (rm16Value s e).toNat ≤ 0xFFFF →
    ∃ t, exec (.divEw e) s = .next t ∧ Ended s t ∧ t.mem = s.mem ∧ ControlFlagsSame s t ∧
      t.gpr = { s.gpr with
        ax := BitVec.ofNat 16 (n / (rm16Value s e).toNat)
        dx := BitVec.ofNat 16 (n % (rm16Value s e).toNat) }) ∧
  (∀ (e : Rm8) (s : State) (q r : Int), LockAllowed s → Rm8Ok s e .read → (rm8Value s e).toInt ≠ 0 →
    s.gpr.ax.toInt = q * (rm8Value s e).toInt + r → r.natAbs < (rm8Value s e).toInt.natAbs → 0 ≤ r * s.gpr.ax.toInt →
    -128 ≤ q → q ≤ 127 →
    ∃ t, exec (.idivEb e) s = .next t ∧ Ended s t ∧ t.mem = s.mem ∧ ControlFlagsSame s t ∧
      t.gpr = { s.gpr with ax := pair (r % 256).toNat (q % 256).toNat }) ∧
  (∀ (e : Rm16) (s : State) (n q r : Int), LockAllowed s → Rm16Ok s e .read → (rm16Value s e).toInt ≠ 0 →
    n = 65536 * s.gpr.dx.toInt + s.gpr.ax.toNat →
    n = q * (rm16Value s e).toInt + r → r.natAbs < (rm16Value s e).toInt.natAbs → 0 ≤ r * n → -32768 ≤ q → q ≤ 32767 →
    ∃ t, exec (.idivEw e) s = .next t ∧ Ended s t ∧ t.mem = s.mem ∧ ControlFlagsSame s t ∧
      t.gpr = { s.gpr with ax := BitVec.ofInt 16 q, dx := BitVec.ofInt 16 r }) ∧
  (∀ (e : Rm8) (s : State), LockAllowed s → Rm8Ok s e .read →
    ((rm8Value s e).toNat = 0 ∨ 0xFF < s.gpr.ax.toNat / (rm8Value s e).toNat) →
    exec (.divEb e) s = .next (raiseAt s { vector := 0 })) ∧
  (∀ (e : Rm16) (s : State), LockAllowed s → Rm16Ok s e .read →
    ((rm16Value s e).toNat = 0 ∨ 0xFFFF < (65536 * s.gpr.dx.toNat + s.gpr.ax.toNat) / (rm16Value s e).toNat) →
    exec (.divEw e) s = .next (raiseAt s { vector := 0 })) ∧
  (∀ (e : Rm8) (s : State), LockAllowed s → Rm8Ok s e .read →
    ((rm8Value s e).toInt = 0 ∨ s.gpr.ax.toInt.tdiv (rm8Value s e).toInt < -128 ∨
      127 < s.gpr.ax.toInt.tdiv (rm8Value s e).toInt) →
    exec (.idivEb e) s = .next (raiseAt s { vector := 0 })) ∧
  (∀ (e : Rm16) (s : State) (n : Int), LockAllowed s → Rm16Ok s e .read → n = 65536 * s.gpr.dx.toInt + s.gpr.ax.toNat →
    ((rm16Value s e).toInt = 0 ∨ n.tdiv (rm16Value s e).toInt < -32768 ∨ 32767 < n.tdiv (rm16Value s e).toInt) →
    exec (.idivEw e) s = .next (raiseAt s { vector := 0 }))

/-- CBW and CWD, one byte each: AH, or DX, becomes all copies of the top bit of AL, or AX; nothing else changes (R335, R336). -/
def Obligations.SignExtension : Prop :=
  (∀ rest, decode (0x98 :: rest) = .ok (.cbw, rest) ∧ decode (0x99 :: rest) = .ok (.cwd, rest)) ∧
  ∀ s : State, LockAllowed s →
    exec .cbw s = .next (past { s with gpr := { s.gpr with
      ax := pair (if 128 ≤ (s.reg8 .al).toNat then 255 else 0) (s.reg8 .al).toNat } }) ∧
    exec .cwd s = .next (past { s with gpr := { s.gpr with dx := if 32768 ≤ s.gpr.ax.toNat then 0xFFFF else 0 } })

/-- DAA and DAS: the two conditional adjustments of AL and their flags, OF left open (R337, R338).  AAA and AAS adjust AL by six
and AH by one and clear the upper half of AL; AAM and AAD divide and multiply by ten (R339 to R342; the value whose SF, ZF and PF
AAM and AAD give is the spec's own passage from general knowledge).
The model's own choices in it: notes/assumptions/30.md. -/
def Obligations.Adjustments : Prop :=
  (∀ (s : State) (subtract : Bool) (al al1 al2 : Nat) (low high : Bool), LockAllowed s →
    al = (s.reg8 .al).toNat → low = (decide (9 < al % 16) || s.flags.af) →
    al1 = (if low then (if subtract then al + 250 else al + 6) else al) % 256 →
    high = (decide (0x9F < al1) || s.flags.cf) →
    al2 = (if high then (if subtract then al1 + 160 else al1 + 96) else al1) % 256 →
    ∃ t, exec (if subtract then .das else .daa) s = .next t ∧ Ended s t ∧ t.mem = s.mem ∧
      t.gpr = { s.gpr with ax := pair (s.gpr.ax.toNat / 256) al2 } ∧
      t.flags = { resultFlags s.flags (BitVec.ofNat 8 al2) with cf := high, af := low, ov := t.flags.ov }) ∧
  (∀ (s : State) (subtract adj : Bool) (al ah : Nat), LockAllowed s →
    al = (s.reg8 .al).toNat → ah = (s.reg8 .ah).toNat → adj = (decide (9 < al % 16) || s.flags.af) →
    ∃ t, exec (if subtract then .aas else .aaa) s = .next t ∧ Ended s t ∧ t.mem = s.mem ∧
      t.gpr = { s.gpr with ax := (
        if adj then (if subtract then pair (ah + 255) ((al + 250) % 16) else pair (ah + 1) ((al + 6) % 16))
        else pair ah (al % 16)) } ∧
      t.flags = { s.flags with
        cf := adj, af := adj, ov := t.flags.ov, sf := t.flags.sf, zf := t.flags.zf, pf := t.flags.pf }) ∧
  (∀ s : State, LockAllowed s →
    ∃ t, exec .aam s = .next t ∧ Ended s t ∧ t.mem = s.mem ∧
      t.gpr = { s.gpr with ax := pair ((s.reg8 .al).toNat / 10) ((s.reg8 .al).toNat % 10) } ∧
      t.flags = { resultFlags s.flags (BitVec.ofNat 8 ((s.reg8 .al).toNat % 10)) with
        cf := t.flags.cf, af := t.flags.af, ov := t.flags.ov }) ∧
  (∀ s : State, LockAllowed s →
    ∃ t, exec .aad s = .next t ∧ Ended s t ∧ t.mem = s.mem ∧
      t.gpr = { s.gpr with ax := pair 0 ((s.reg8 .al).toNat + 10 * (s.reg8 .ah).toNat) } ∧
      t.flags = { resultFlags s.flags (BitVec.ofNat 8 ((s.reg8 .al).toNat + 10 * (s.reg8 .ah).toNat)) with
        cf := t.flags.cf, af := t.flags.af, ov := t.flags.ov })

/-! ### Shifts and rotates (42_logic_shift.md R386 to R396) -/

/-- The seven shifts and rotates of a byte and of a word by an immediate, by 1 and by CL: the count modulo 32, the result and CF in
closed form, OF for a count of 1.  That a count of 0 changes no flag at all is the spec's own extension (D33, log entry 44).
The model's own choices in it: notes/assumptions/44.md. -/
def Obligations.Shifts : Prop :=
  (∀ (op : ShiftOp) (f : CountForm) (e : Rm8) (s : State), LockAllowed s → s.mem.wf = true → Rm8Ok s e .write →
    ∃ t, exec (op.instr8 e f) s = .next t ∧ Ended s t ∧
      Wrote8 s t e (op.value s.flags (rm8Value s e) ((f.raw s).toNat % 32)) ∧
      t.flags = op.flagsAfter s.flags t.flags (rm8Value s e) ((f.raw s).toNat % 32)) ∧
  (∀ (op : ShiftOp) (f : CountForm) (e : Rm16) (s : State), LockAllowed s → s.mem.wf = true → Rm16Ok s e .write →
    ∃ t, exec (op.instr16 e f) s = .next t ∧ Ended s t ∧
      Wrote16 s t e (op.value s.flags (rm16Value s e) ((f.raw s).toNat % 32)) ∧
      t.flags = op.flagsAfter s.flags t.flags (rm16Value s e) ((f.raw s).toNat % 32))

/-! ### Data transfer (40_data_transfer.md) -/

/-- MOV and SMSW: the source's value in the destination, no flag, no other register or byte of memory (R261, R262, R264;
47_system.md R620).
The model's own choices in it: notes/assumptions/10.md. -/
def Obligations.Moves : Prop :=
  (∀ (f : MoveForm8) (s : State), LockAllowed s → s.mem.wf = true → f.Ok s →
    ∃ t, exec f.instr s = .next t ∧ Ended s t ∧ t.flags = s.flags ∧ t.freeCtr = s.freeCtr ∧ Wrote8 s t f.dest (f.source s)) ∧
  (∀ (f : MoveForm16) (s : State), LockAllowed s → s.mem.wf = true → f.Ok s →
    ∃ t, exec f.instr s = .next t ∧ Ended s t ∧ t.flags = s.flags ∧ t.freeCtr = s.freeCtr ∧ Wrote16 s t f.dest (f.source s))

/-- XCHG: each operand holds what the other held, and nothing else changes (R265). -/
def Obligations.Exchange : Prop :=
  (∀ (e : Rm8) (r : Reg8) (s : State), LockAllowed s → s.mem.wf = true → Rm8Ok s e .write →
    ∃ t, exec (.xchgEbRb e r) s = .next t ∧ Ended s t ∧ t.flags = s.flags ∧ t.freeCtr = s.freeCtr ∧
      t.reg8 r = rm8Value s e ∧ rm8After s t e = s.reg8 r ∧
      (∀ q, q ≠ r → e ≠ .reg q → t.reg8 q = s.reg8 q) ∧
      t.gpr.sp = s.gpr.sp ∧ t.gpr.bp = s.gpr.bp ∧ t.gpr.si = s.gpr.si ∧ t.gpr.di = s.gpr.di ∧
      MemSameBut s t (rm8Bytes s e)) ∧
  (∀ (i : Instr) (e : Rm16) (r : Reg16) (s : State), LockAllowed s → s.mem.wf = true → Rm16Ok s e .write →
    (i = .xchgEwRw e r ∨ ∃ q, e = .reg q ∧ r = .ax ∧ i = .xchgAxRw q) →
    ∃ t, exec i s = .next t ∧ Ended s t ∧ t.flags = s.flags ∧ t.freeCtr = s.freeCtr ∧
      t.reg16 r = rm16Value s e ∧ rm16After s t e = s.reg16 r ∧
      (∀ q, q ≠ r → e ≠ .reg q → t.reg16 q = s.reg16 q) ∧ MemSameBut s t (rm16Bytes s e))

/-- PUSH, PUSHF: the word below SP, SP less two; PUSH SP stores the old SP (R266 to R269, R275).  POP: the word at SP in the
destination, SP more by two, written before the destination is (R270, R271).
The model's own choices in it: notes/assumptions/10.md, 41.md. -/
def Obligations.PushPop : Prop :=
  (∀ (f : PushForm) (s : State), LockAllowed s → s.mem.wf = true → f.Ok s → StackRoom s 1 →
    ∃ t, exec f.instr s = .next t ∧
      t = past { s with mem := t.mem, gpr := { s.gpr with sp := s.gpr.sp - 2 } } ∧ Pushed s t [f.value s]) ∧
  (∀ (r : Reg16) (i : Instr) (s : State), LockAllowed s → StackHolds s 1 → (i = .popRw r ∨ i = .popMw (.reg r)) →
    exec i s = .next (past { s with
      gpr := ({ s.gpr with sp := s.gpr.sp + 2 }).set r (s.segWord .ss s.gpr.sp) })) ∧
  (∀ (m : MemOp) (s : State), LockAllowed s → s.mem.wf = true → StackHolds s 1 → Rm16Ok s (.mem m) .write →
    ∃ t, exec (.popMw (.mem m)) s = .next t ∧
      t = past { s with mem := t.mem, gpr := { s.gpr with sp := s.gpr.sp + 2 } } ∧
      rm16After s t (.mem m) = s.segWord .ss s.gpr.sp ∧ MemSameBut s t (rm16Bytes s (.mem m)))

/-- PUSHA stores the eight registers in order, SP as it was; POPA loads seven of them and drops the word for SP (R273, R274).
The model's own choices in it: notes/assumptions/11.md. -/
def Obligations.PushAllPopAll : Prop :=
  (∀ s : State, LockAllowed s → s.mem.wf = true → StackRoom s 8 →
    ∃ t, exec .pusha s = .next t ∧
      t = past { s with mem := t.mem, gpr := { s.gpr with sp := s.gpr.sp - 16 } } ∧
      Pushed s t [s.gpr.ax, s.gpr.cx, s.gpr.dx, s.gpr.bx, s.gpr.sp, s.gpr.bp, s.gpr.si, s.gpr.di]) ∧
  (∀ s : State, LockAllowed s → StackHolds s 8 →
    exec .popa s = .next (past { s with gpr := {
      di := s.segWord .ss s.gpr.sp
      si := s.segWord .ss (s.gpr.sp + 2)
      bp := s.segWord .ss (s.gpr.sp + 4)
      sp := s.gpr.sp + 16
      bx := s.segWord .ss (s.gpr.sp + 8)
      dx := s.segWord .ss (s.gpr.sp + 10)
      cx := s.segWord .ss (s.gpr.sp + 12)
      ax := s.segWord .ss (s.gpr.sp + 14) } }))

/-- POPF, SAHF and LAHF: FLAGS by its bits, IOPL and IF guarded in Protected Mode; PUSHF's image is a number (R275 to R278).
The model's own choices in it: notes/assumptions/10.md. -/
def Obligations.FlagImages : Prop :=
  (∀ s : State, s.flags.toWord = BitVec.ofNat 16 (flagWord s.flags)) ∧
  (∀ s : State, LockAllowed s → StackHolds s 1 →
    exec .popf s = .next (past { s with
      gpr := { s.gpr with sp := s.gpr.sp + 2 }, flags := loadedFlags s (s.segWord .ss s.gpr.sp) })) ∧
  (∀ s : State, LockAllowed s →
    exec .sahf s = .next (past { s with flags := { s.flags with
      sf := s.gpr.ax.getLsbD 15, zf := s.gpr.ax.getLsbD 14, af := s.gpr.ax.getLsbD 12, pf := s.gpr.ax.getLsbD 10,
      cf := s.gpr.ax.getLsbD 8 } }) ∧
    exec .lahf s = .next (past { s with gpr := { s.gpr with ax := pair (flagByte s.flags) (s.gpr.ax.toNat % 256) } }))

/-- XLAT replaces AL by the byte at BX + AL; LEA stores an offset and reads nothing (R279, R280). -/
def Obligations.TranslateAndAddress : Prop :=
  (∀ s : State, LockAllowed s →
    Reachable s (sourceSeg s) (BitVec.ofNat 16 (s.gpr.bx.toNat + s.gpr.ax.toNat % 256)) 1 .read →
    exec .xlat s = .next (past { s with gpr := { s.gpr with
      ax := pair (s.gpr.ax.toNat / 256)
        (s.segByte (sourceSeg s) (BitVec.ofNat 16 (s.gpr.bx.toNat + s.gpr.ax.toNat % 256))).toNat } })) ∧
  (∀ (r : Reg16) (m : MemOp) (s : State), LockAllowed s →
    exec (.lea r (.mem m)) s = .next (past { s with gpr := s.gpr.set r (s.effOffset m) }))

/-- IN and OUT, by an immediate port and by DX, of AL and AX: the port's answer in the accumulator, one entry in the record; the
answer is the first byte the feed holds for the port, for a word the next port's too, and free where it holds none (R282, R283;
20_memory.md R96).
The model's own choices in it: notes/assumptions/22.md. -/
def Obligations.Ports : Prop :=
  (∀ (s : State) (i : Instr) (p : Word), LockAllowed s → IoAllowed s → Unreset s →
    ((∃ v, i = .inAlDb v ∧ p = BitVec.ofNat 16 v.toNat) ∨ (i = .inAlDx ∧ p = s.gpr.dx)) →
    ∃ t b, exec i s = .next t ∧ PortIn8 s t p b ∧
      t = past { s with
        gpr := { s.gpr with ax := pair (s.gpr.ax.toNat / 256) b.toNat }
        portLog := t.portLog, portFeed := t.portFeed, freeCtr := t.freeCtr }) ∧
  (∀ (s : State) (i : Instr) (p : Word), LockAllowed s → IoAllowed s → Unreset s →
    ((∃ v, i = .inAxDb v ∧ p = BitVec.ofNat 16 v.toNat) ∨ (i = .inAxDx ∧ p = s.gpr.dx)) →
    ∃ t w, exec i s = .next t ∧ PortIn16 s t p w ∧
      t = past { s with
        gpr := { s.gpr with ax := w }
        portLog := t.portLog, portFeed := t.portFeed, freeCtr := t.freeCtr }) ∧
  (∀ (s : State) (v : Byte), LockAllowed s → IoAllowed s → Unreset s →
    exec (.outDbAl v) s = .next (past { s with portLog := s.portLog ++ [.write8 (BitVec.ofNat 16 v.toNat) (s.reg8 .al)] }) ∧
    exec (.outDbAx v) s = .next (past { s with portLog := s.portLog ++ [.write16 (BitVec.ofNat 16 v.toNat) s.gpr.ax] }) ∧
    exec .outDxAl s = .next (past { s with portLog := s.portLog ++ [.write8 s.gpr.dx (s.reg8 .al)] }) ∧
    exec .outDxAx s = .next (past { s with portLog := s.portLog ++ [.write16 s.gpr.dx s.gpr.ax] }))

/-- MOV, POP, LDS and LES of DS and ES, and MOV and POP of SS, in Real Address Mode: base selector times 16, limit FFFFH; a load
of SS inhibits the next boundary's interrupts (R263, R272, R281; 20_memory.md R87; 10_state.md R65).
The model's own choices in it: notes/assumptions/39.md. -/
def Obligations.SegLoadReal : Prop :=
  (∀ (f : SegLoadForm) (s : State), LockAllowed s → s.msw.pe = false → f.Ok s →
    exec f.instr s = .next (past ({ s with gpr := f.gpr s }.setSeg f.dest (realModeSeg (f.selector s))))) ∧
  (∀ (f : StackLoadForm) (s : State), LockAllowed s → s.msw.pe = false → f.Ok s →
    exec f.instr s = .next (past { s with gpr := f.gpr s, ss := realModeSeg (f.selector s), inhibitNext := true }))

/-- The same of DS and ES in Protected Mode: a null selector leaves the register unusable; a loadable descriptor is copied and
marked accessed; one that is not readable, or not privileged, or not present, or outside its table, takes #GP(selector) or
#NP(selector) (20_memory.md R108, R120, R123).
The model's own choices in it: notes/assumptions/28.md. -/
def Obligations.SegLoadProtected : Prop :=
  ∀ (f : SegLoadForm) (s : State), LockAllowed s → s.msw.pe = true → f.Ok s →
    ((f.selector s).toNat < 4 →
      exec f.instr s = .next (past ({ s with gpr := f.gpr s }.setSeg f.dest
        { s.seg f.dest with sel := f.selector s, ar := 0 }))) ∧
    (4 ≤ (f.selector s).toNat → ∀ d, s.fetchDesc (f.selector s) = some d →
      (DataLoadable s (f.selector s) d → s.mem.wf = true → d.InMemory s →
        ∃ t, exec f.instr s = .next t ∧ AccessedSet s t d ∧
          t = past ({ s with gpr := f.gpr s, mem := t.mem }.setSeg f.dest (descriptorSeg (f.selector s) d))) ∧
      (Alone s → (readable d.ar = false ∨
          (conforming d.ar = false ∧ ¬ (s.cpl ≤ dpl d.ar ∧ rpl (f.selector s) ≤ dpl d.ar))) →
        exec f.instr s = .next (raiseAt s { vector := 13, code := f.selector s &&& 0xFFFC })) ∧
      (Alone s → readable d.ar = true → (conforming d.ar = true ∨ (s.cpl ≤ dpl d.ar ∧ rpl (f.selector s) ≤ dpl d.ar)) →
        present d.ar = false →
        exec f.instr s = .next (raiseAt s { vector := 11, code := f.selector s &&& 0xFFFC }))) ∧
    (4 ≤ (f.selector s).toNat → s.fetchDesc (f.selector s) = none →
      exec f.instr s = .next (raiseAt s { vector := 13, code := f.selector s &&& 0xFFFC }))

/-- MOV SS and POP SS in Protected Mode: a writable segment at CPL; a null selector takes #GP(0), a segment not present
#SS(selector), any other that does not fit #GP(selector) (20_memory.md R121).
The model's own choices in it: notes/assumptions/28.md. -/
def Obligations.StackSegLoad : Prop :=
  ∀ (f : StackLoadForm) (s : State), LockAllowed s → s.msw.pe = true → f.Ok s →
    ((f.selector s).toNat < 4 → exec f.instr s = .next (raiseAt s { vector := 13, code := 0 })) ∧
    (4 ≤ (f.selector s).toNat → ∀ d, s.fetchDesc (f.selector s) = some d →
      (StackLoadable s (f.selector s) d → s.mem.wf = true → d.InMemory s →
        ∃ t, exec f.instr s = .next t ∧ AccessedSet s t d ∧
          t = past { s with
            gpr := f.gpr s, mem := t.mem, ss := descriptorSeg (f.selector s) d, inhibitNext := true }) ∧
      (Alone s → ¬ (writable d.ar = true ∧ rpl (f.selector s) = s.cpl ∧ dpl d.ar = s.cpl) →
        exec f.instr s = .next (raiseAt s { vector := 13, code := f.selector s &&& 0xFFFC })) ∧
      (Alone s → writable d.ar = true → rpl (f.selector s) = s.cpl → dpl d.ar = s.cpl → present d.ar = false →
        exec f.instr s = .next (raiseAt s { vector := 12, code := f.selector s &&& 0xFFFC }))) ∧
    (4 ≤ (f.selector s).toNat → s.fetchDesc (f.selector s) = none →
      exec f.instr s = .next (raiseAt s { vector := 13, code := f.selector s &&& 0xFFFC }))

/-! ### Strings (43_string.md) -/

/-- A string instruction with no repeat prefix: one iteration (R420 to R427).
The model's own choices in it: notes/assumptions/22.md. -/
def Obligations.StringOnce : Prop :=
  ∀ (k : StringKind) (w : Elem) (s : State), LockAllowed s → s.mem.wf = true → s.pfx.rep = none → k.Ok s w →
    ∃ t, exec (k.instr w) s = .next t ∧ k.Effect s t w ∧
      t = past { s with
        gpr := k.gprAfter s w
        flags := k.flagsAfter s w
        portLog := t.portLog
        portFeed := t.portFeed
        mem := t.mem
        freeCtr := t.freeCtr }

/-- With a repeat prefix: nothing but the next instruction when CX is 0; else one iteration and CX less one, IP past the
instruction when CX reaches 0 or a comparison ends the repetition, and otherwise back at the first prefix (R430, R431, R440).
While a repetition of MOVS, INS or OUTS with a LOCK prefix goes on, the bus stays locked (R444).
That F2H and F3H mean the same before MOVS, STOS, INS, OUTS and LODS is the spec's own choice (R441, D34, log entry 41).
The model's own choices in it: notes/assumptions/19.md, 22.md, 31.md, 41.md. -/
def Obligations.StringRepeat : Prop :=
  ∀ (k : StringKind) (w : Elem) (rep : RepKind) (s : State), LockAllowed s → s.pfx.rep = some rep →
    (s.gpr.cx = 0 → exec (k.instr w) s = .next (past s)) ∧
    (s.gpr.cx ≠ 0 → s.mem.wf = true → k.Ok s w →
      ∃ (t : State) (done : Prop), (done ↔ s.gpr.cx = 1 ∨ (k.compares = true ∧ ((k.flagsAfter s w).zf = true ↔ rep = .repne))) ∧
        exec (k.instr w) s = .next t ∧ k.Effect s t w ∧
        (done → t.ip = s.nextIp ∧ t.bus = s.bus) ∧
        (¬ done → t.ip = s.ip ∧
          t.bus = if k.lockable = true ∧ s.pfx.lock = true then { s.bus with lock := .kept } else s.bus) ∧
        t = { s with
          gpr := { k.gprAfter s w with cx := s.gpr.cx - 1 }
          flags := k.flagsAfter s w
          portLog := t.portLog
          portFeed := t.portFeed
          mem := t.mem
          bus := t.bus
          freeCtr := t.freeCtr
          ip := t.ip
          pfx := {} })

/-! ### Control transfer (44_control_transfer.md) -/

/-- JMP near, by a displacement and indirect: IP at the target, #GP(0) for a target above the CS limit (R450 to R454).  The
conditional jumps and JCXZ: taken exactly when the condition holds; not taken, the target is not checked (R465 to R482). -/
def Obligations.NearJumps : Prop :=
  (∀ (i : Instr) (s : State) (t : Word), LockAllowed s →
    ((∃ d, i = .jmpCb d ∧ t = s.nextIp + d.signExtend 16) ∨ (∃ d, i = .jmpCw d ∧ t = s.nextIp + d) ∨
      (∃ e, i = .jmpEw e ∧ Rm16Ok s e .read ∧ t = rm16Value s e)) →
    (NearOk s t → exec i s = .next (arrived s t)) ∧
    (¬ NearOk s t → exec i s = .next (raiseAt s { vector := 13, code := 0 }))) ∧
  (∀ (c : JumpCond) (disp : Byte) (s : State), LockAllowed s →
    (c.Holds s → NearOk s (s.nextIp + disp.signExtend 16) →
      exec (c.instr disp) s = .next (arrived s (s.nextIp + disp.signExtend 16))) ∧
    (c.Holds s → ¬ NearOk s (s.nextIp + disp.signExtend 16) →
      exec (c.instr disp) s = .next (raiseAt s { vector := 13, code := 0 })) ∧
    (¬ c.Holds s → exec (c.instr disp) s = .next (past s)))

/-- LOOP, LOOPE and LOOPNE: CX less one without flags; a jump while it is not 0 and ZF allows (R483 to R485).  That a target outside
the segment leaves CX as it was is the spec's decision D30, which R483 marks (log entry 8); that a LOOP taken is the near transfer R750
asks for after an LMSW is the model's reading (log entry 16).
The model's own choices in it: notes/assumptions/8.md, 16.md. -/
def Obligations.Loops : Prop :=
  ∀ (i : Instr) (disp : Byte) (s : State) (go : Prop), LockAllowed s →
    ((i = .loop disp ∧ (go ↔ s.gpr.cx ≠ 1)) ∨ (i = .loope disp ∧ (go ↔ s.gpr.cx ≠ 1 ∧ s.flags.zf = true)) ∨
      (i = .loopne disp ∧ (go ↔ s.gpr.cx ≠ 1 ∧ s.flags.zf = false))) →
    (go → NearOk s (s.nextIp + disp.signExtend 16) →
      exec i s = .next (arrived { s with gpr := { s.gpr with cx := s.gpr.cx - 1 } } (s.nextIp + disp.signExtend 16))) ∧
    (go → ¬ NearOk s (s.nextIp + disp.signExtend 16) → exec i s = .next (raiseAt s { vector := 13, code := 0 })) ∧
    (¬ go → exec i s = .next (past { s with gpr := { s.gpr with cx := s.gpr.cx - 1 } }))

/-- CALL near pushes the next instruction's offset and jumps; RET pops the target and releases its bytes (R457, R458, R461,
R462). -/
def Obligations.NearCallRet : Prop :=
  (∀ (i : Instr) (s : State) (target : Word), LockAllowed s → s.mem.wf = true → StackRoom s 1 → NearOk s target →
    ((∃ d, i = .callCw d ∧ target = s.nextIp + d) ∨ (∃ e, i = .callEw e ∧ Rm16Ok s e .read ∧ target = rm16Value s e)) →
    ∃ t, exec i s = .next t ∧ Pushed s t [s.nextIp] ∧
      t = arrived { s with mem := t.mem, gpr := { s.gpr with sp := s.gpr.sp - 2 } } target) ∧
  (∀ (i : Instr) (s : State) (release : Word), LockAllowed s → StackHolds s 1 → NearOk s (s.segWord .ss s.gpr.sp) →
    ((i = .ret ∧ release = 0) ∨ i = .retDw release) →
    exec i s = .next (arrived { s with gpr := { s.gpr with sp := s.gpr.sp + 2 + release } } (s.segWord .ss s.gpr.sp)))

/-- Far JMP, CALL and RET in Real Address Mode: CS and IP from the pointer or the stack, CS and the next IP pushed by CALL (R455,
R456, R459, R460, R463, R464).
The model's own choices in it: notes/assumptions/11.md, 39.md. -/
def Obligations.FarTransferReal : Prop :=
  (∀ (i : Instr) (s : State) (sel off : Word), LockAllowed s → s.msw.pe = false →
    FarJump i s sel off →
    exec i s = .next (landed { s with cs := realModeSeg sel } off)) ∧
  (∀ (i : Instr) (s : State) (sel off : Word), LockAllowed s → s.msw.pe = false → s.mem.wf = true → StackRoom s 2 →
    FarCall i s sel off →
    ∃ t, exec i s = .next t ∧ Pushed s t [s.cs.sel, s.nextIp] ∧
      t = landed { s with mem := t.mem, gpr := { s.gpr with sp := s.gpr.sp - 4 }, cs := realModeSeg sel } off) ∧
  (∀ (i : Instr) (s : State) (release : Word), LockAllowed s → s.msw.pe = false → StackHolds s 2 →
    ((i = .retf ∧ release = 0) ∨ i = .retfDw release) →
    exec i s = .next (landed { s with
      gpr := { s.gpr with sp := s.gpr.sp + 4 + release }
      cs := realModeSeg (s.segWord .ss (s.gpr.sp + 2)) } (s.segWord .ss s.gpr.sp)))

/-- Taking any interrupt or exception in Real Address Mode: FLAGS, CS and the return IP on the stack, IF and TF clear, CS:IP from
the vector table, whose four bytes are read once each, whatever answers there: a device gives its answer and records the read, and a
byte of absent memory is open (60_exceptions.md R663; 20_memory.md R85, R117).  The new CS cache's access byte, the reserved bits of
the pushed FLAGS and the form in which a device answers are the model's choices; that the whole table entry must lie inside the limit
is the rule's own reading.
The model's own choices in it: notes/assumptions/10.md, 39.md, 47.md. -/
def Obligations.RealDelivery : Prop :=
  ∀ (s : State) (v : Byte) (retIp code : Word) (kind : EventKind), s.mem.wf = true → RealEntryOk s v →
    RealEntry s (deliver s v retIp kind code) v retIp

/-- INT, INT 3 and INTO with OF set enter their handler with the next instruction's offset saved; INTO with OF clear does nothing
(R486 to R488).  The new CS cache's access byte and the reserved bits of the pushed FLAGS are the model's choices.
The model's own choices in it: notes/assumptions/10.md, 39.md, 47.md. -/
def Obligations.SoftwareInterrupts : Prop :=
  (∀ (i : Instr) (v : Byte) (s : State), LockAllowed s →
    (i = .intDb v ∨ (i = .int3 ∧ v = 3) ∨ (i = .into ∧ s.flags.ov = true ∧ v = 4)) →
    exec i s = .next (deliver s v s.nextIp .software 0) ∧
    (s.mem.wf = true → RealEntryOk s v → ∃ t, exec i s = .next t ∧ RealEntry s t v s.nextIp)) ∧
  (∀ s : State, LockAllowed s → s.flags.ov = false → exec .into s = .next (past s))

/-- IRET: in Real Address Mode IP, CS and FLAGS from the stack, IOPL and NT kept; in Protected Mode with NT clear, to a code segment
of the same level (conforming or not), the same with the segment's descriptor; to an outer level SS and SP too, and DS and ES made
null where the outer level may not reach them; with NT set, the switch back to the task of the back link.  Whichever it is, the
NMI mask ends (R489; 46_protected_transfer.md R577, R580; 60_exceptions.md R670).  A back link read through a TR that is not
valid is the model's case (log entry 29).
The model's own choices in it: notes/assumptions/10.md, 28.md, 29.md, 39.md. -/
def Obligations.InterruptReturn : Prop :=
  (∀ s : State, LockAllowed s → s.msw.pe = false → StackHolds s 3 →
    exec .iret s = .next (landed { s with
      gpr := { s.gpr with sp := s.gpr.sp + 6 }
      cs := realModeSeg (s.segWord .ss (s.gpr.sp + 2))
      flags := loadedFlags s (s.segWord .ss (s.gpr.sp + 4))
      nmiMasked := false } (s.segWord .ss s.gpr.sp))) ∧
  (∀ (s : State) (d : Desc) (sel off : Word), LockAllowed s → s.msw.pe = true → s.flags.nt = false → s.mem.wf = true →
    StackHolds s 3 → off = s.segWord .ss s.gpr.sp → sel = s.segWord .ss (s.gpr.sp + 2) → 4 ≤ sel.toNat →
    s.fetchDesc sel = some d → CodeAt d (rpl sel) → off.toNat ≤ d.w0.toNat → d.InMemory s →
    (rpl sel = s.cpl →
      ∃ t, exec .iret s = .next t ∧ AccessedSet s t d ∧
        t = landed { s with
          mem := t.mem
          gpr := { s.gpr with sp := s.gpr.sp + 6 }
          cs := descriptorSeg sel d
          flags := loadedFlags s (s.segWord .ss (s.gpr.sp + 4))
          nmiMasked := false } off) ∧
    (∀ (nsp nss : Word) (k : Desc), s.cpl < rpl sel → StackHolds s 5 → nsp = s.segWord .ss (s.gpr.sp + 6) →
      nss = s.segWord .ss (s.gpr.sp + 8) → StackAt s nss k (rpl sel) → k.InMemory s →
      ∃ t, exec .iret s = .next t ∧ Marked s t d (d.ar ||| 1) ∧ Marked s t k (k.ar ||| 1) ∧
        MemSameBut s t (d.marked s ++ k.marked s) ∧
        t = landed { s with
          mem := t.mem
          gpr := { s.gpr with sp := nsp }
          cs := descriptorSeg sel d
          ss := descriptorSeg nss k
          ds := outward (rpl sel) s.ds
          es := outward (rpl sel) s.es
          flags := loadedFlags s (s.segWord .ss (s.gpr.sp + 4))
          nmiMasked := false } off)) ∧
  (∀ (s u : State) (sel : Word) (b : Desc), LockAllowed s → Alone s → s.msw.pe = true → s.flags.nt = true → s.tr.valid = true →
    1 ≤ s.tr.limit.toNat → sel = s.peek16 s.tr.base 0 → sel.getLsbD 2 = false → 4 ≤ sel.toNat → s.fetchDesc sel = some b →
    isSys b.ar 3 = true → present b.ar = true → switchTasks s sel b .iret s.nextIp false = .ok u →
    u.ip.toNat ≤ u.cs.limit.toNat →
    exec .iret s = .next (landed { u with nmiMasked := false } u.ip))

/-! ### Flags and processor control (45_flag_misc.md) -/

/-- CLC, STC, CMC, CLD and STD, one byte each, change one flag and nothing else, in either mode and at any privilege (R511 to
R515); after CLD the string instructions count up, after STD down, and RESET leaves DF clear (R514, R515); NOP changes IP alone, as the
exchange of AX with itself does (R520). -/
def Obligations.FlagControl : Prop :=
  (∀ rest, decode (0xF8 :: rest) = .ok (.clc, rest) ∧ decode (0xF9 :: rest) = .ok (.stc, rest) ∧
    decode (0xF5 :: rest) = .ok (.cmc, rest) ∧ decode (0xFC :: rest) = .ok (.cld, rest) ∧
    decode (0xFD :: rest) = .ok (.std, rest) ∧ decode (0x90 :: rest) = .ok (.nop, rest)) ∧
  ∀ s : State, LockAllowed s →
    exec .clc s = .next (past { s with flags := { s.flags with cf := false } }) ∧
    exec .stc s = .next (past { s with flags := { s.flags with cf := true } }) ∧
    exec .cmc s = .next (past { s with flags := { s.flags with cf := !s.flags.cf } }) ∧
    exec .cld s = .next (past { s with flags := { s.flags with df := false } }) ∧
    exec .std s = .next (past { s with flags := { s.flags with df := true } }) ∧
    exec .nop s = .next (past s) ∧ exec (.xchgAxRw .ax) s = .next (past s) ∧
    (∀ (t : State) (w : Elem) (x : Word), (exec .cld s = .next t → stepped t w x = x + BitVec.ofNat 16 w.size) ∧
      (exec .std s = .next t → stepped t w x = x - BitVec.ofNat 16 w.size)) ∧
    State.reset.flags.df = false

/-- CLI and STI change IF where CPL ≤ IOPL or in Real Address Mode, and take #GP(0) where not; by default STI has no delay (R516,
R518; the parameter of D36).
The model's own choices in it: notes/assumptions/21.md. -/
def Obligations.InterruptFlag : Prop :=
  ∀ s : State, LockAllowed s →
    (IoAllowed s →
      exec .cli s = .next (past { s with flags := { s.flags with ie := false } }) ∧
      exec .sti s = .next (past { s with
        flags := { s.flags with ie := true }, stiShadow := s.platform.stiDelay && !s.flags.ie })) ∧
    (¬ IoAllowed s →
      exec .cli s = .next (raiseAt s { vector := 13, code := 0 }) ∧
      exec .sti s = .next (raiseAt s { vector := 13, code := 0 }))

/-- ENTER: the old BP, the copied display and the frame pointer on the stack, BP at the frame, SP below it by the storage asked
for; LEAVE undoes it.  A display word that lies in the words pushed is read as the instruction finds it then (R525, R527).
The model's own choices in it: notes/assumptions/11.md, 29.md. -/
def Obligations.EnterLeave : Prop :=
  (∀ (size : Word) (level : Byte) (s : State) (l n : Nat), LockAllowed s → s.mem.wf = true → l = level.toNat % 32 →
    n = (if l = 0 then 1 else l + 1) → StackRoom s n →
    (∀ k, 1 ≤ k → k < l → WordOk s .ss (s.gpr.bp - BitVec.ofNat 16 (2 * k)) .read) →
    (s.msw.pe = true → size ≠ 0 → Accessible s .ss (s.gpr.sp - BitVec.ofNat 16 (2 * n) - size) 2 .write) →
    ∃ t, exec (.enter size level) s = .next t ∧
      t = past { s with mem := t.mem, gpr := { s.gpr with
        bp := s.gpr.sp - 2, sp := s.gpr.sp - BitVec.ofNat 16 (2 * n) - size } } ∧
      MemSameBut s t (pushedBytes s n) ∧ pushedWord s t 0 = s.gpr.bp ∧
      (l ≠ 0 → pushedWord s t l = s.gpr.sp - 2) ∧
      (∀ k, 1 ≤ k → k < l →
        (∀ a, a ∈ wordBytes s .ss (s.gpr.bp - BitVec.ofNat 16 (2 * k)) → a ∉ pushedBytes s n) →
        pushedWord s t k = s.segWord .ss (s.gpr.bp - BitVec.ofNat 16 (2 * k)))) ∧
  (∀ s : State, LockAllowed s → WordOk s .ss s.gpr.bp .read →
    exec .leave s = .next (past { s with gpr := { s.gpr with
      bp := s.segWord .ss s.gpr.bp, sp := s.gpr.bp + 2 } }))

/-- BOUND: its two words are one unit of four bytes for the checks; nothing when the register lies within the signed bounds,
interrupt 5 with IP at the instruction when not, and the exception of the reference where the unit can not be read (R528; 20_memory.md
R113, R118).
The model's own choices in it: notes/assumptions/12.md, 40.md. -/
def Obligations.Bound : Prop :=
  ∀ (r : Reg16) (m : MemOp) (s : State), LockAllowed s →
    (¬ Accessible s (s.memSeg m) (s.effOffset m) 4 .read →
      exec (.bound r (.mem m)) s = .next (raiseAt s (refTrap s (s.memSeg m) .read))) ∧
    (Accessible s (s.memSeg m) (s.effOffset m) 4 .read → PointerOk s m →
     ((s.segWord (s.memSeg m) (s.effOffset m)).toInt ≤ (s.reg16 r).toInt →
      (s.reg16 r).toInt ≤ (s.segWord (s.memSeg m) (s.effOffset m + 2)).toInt →
      exec (.bound r (.mem m)) s = .next (past s)) ∧
     (((s.reg16 r).toInt < (s.segWord (s.memSeg m) (s.effOffset m)).toInt ∨
      (s.segWord (s.memSeg m) (s.effOffset m + 2)).toInt < (s.reg16 r).toInt) →
      exec (.bound r (.mem m)) s = .next (raiseAt s { vector := 5 })))

/-- HLT halts; WAIT ends when BUSY is inactive and no error stands; an ESC, with its two opcode bytes and the place of its operand, is
handed to the processor extension, one record each, which may answer in AX.  With MP and TS WAIT takes exception 7, with EM or TS an
ESC does; BUSY keeps both at their first byte, and ERROR is exception 16.  Which ESC neither wait for BUSY nor test ERROR, and in which
direction an ESC's operand goes, is in no source: the statement holds for every choice (R69, R530 to R532, R689).  A type or limit
violation of the operand takes its exception.
The model's own choices in it: notes/assumptions/9.md, 15.md, 23.md, 40.md, 45.md, 46.md. -/
def Obligations.HaltWaitEscape : Prop :=
  (∀ s : State, LockAllowed s → Privileged s → exec .hlt s = .next (past { s with run := .halted })) ∧
  (∀ s : State, (s.msw.mp = false ∨ s.msw.ts = false) → LockAllowed s →
    (s.pins.busy = false → (s.msw.em = true ∨ s.pins.error = false) → exec .wait s = .next (past s)) ∧
    (s.pins.busy = false → s.msw.em = false → s.pins.error = true →
      exec .wait s = .next (raiseAt s { vector := 16 })) ∧
    (s.pins.busy = true → exec .wait s = .next { s with pfx := {}, tfAtStart := false })) ∧
  (∀ s : State, s.msw.mp = true → s.msw.ts = true → exec .wait s = .next (raiseAt s { vector := 7 })) ∧
  (∀ (op ext : BitVec 3) (e : RM (BitVec 3)) (s : State) (n : BitVec 6) (b1 b2 : Byte) (more : List Byte) (dir : Access)
    (waits tests : Bool), encode (.esc op ext e) = b1 :: b2 :: more →
    n = BitVec.ofNat 6 (8 * op.toNat + ext.toNat) → dir = (if Config.escStores n = true then .write else .read) →
    waits = !Config.escSkipsBusy n (escForm e) → tests = !Config.escSkipsError n (escForm e) →
    ((s.msw.em = true ∨ s.msw.ts = true) → exec (.esc op ext e) s = .next (raiseAt s { vector := 7 })) ∧
    (s.msw.em = false → s.msw.ts = false →
      (s.pins.busy = true → waits = true → exec (.esc op ext e) s = .next { s with pfx := {}, tfAtStart := false }) ∧
      ((s.pins.busy = false ∨ waits = false) →
        (s.pins.error = true → tests = true → exec (.esc op ext e) s = .next (raiseAt s { vector := 16 })) ∧
        ((s.pins.error = false ∨ tests = false) → LockAllowed s →
          (∀ m, e = .mem m → ¬ Accessible s (s.memSeg m) (s.effOffset m) 2 dir →
            exec (.esc op ext e) s = .next (raiseAt s (refTrap s (s.memSeg m) dir))) ∧
          (Unreset s → (∀ m, e = .mem m → Accessible s (s.memSeg m) (s.effOffset m) 2 dir) →
            exec (.esc op ext e) s = .next (past { s with
              escLog := s.escLog ++ [.escape b1 b2 (match e with
                | .reg _ => none
                | .mem m => some (s.memSeg m, s.effOffset m))]
              npxReplies := s.npxReplies.drop 1
              gpr := { s.gpr with ax := match s.npxReplies with
                | some v :: _ => v
                | none :: _ => s.gpr.ax
                | [] => s.gpr.ax } }))))))

/-! ### System instructions (47_system.md) -/

/-- LGDT and LIDT at CPL 0 load a limit word and a 24-bit base, the sixth byte ignored; SGDT and SIDT store them, the sixth byte
left open (R611 to R614).
The model's own choices in it: notes/assumptions/1.md, 12.md. -/
def Obligations.DescriptorTables : Prop :=
  (∀ (m : MemOp) (s : State) (r : TableReg), LockAllowed s → Privileged s → PointerOk s m →
    WordOk s (s.memSeg m) (s.effOffset m + 4) .read →
    r = { limit := s.segWord (s.memSeg m) (s.effOffset m)
          base := BitVec.ofNat 24 (65536 * ((s.segWord (s.memSeg m) (s.effOffset m + 4)).toNat % 256) +
            (s.segWord (s.memSeg m) (s.effOffset m + 2)).toNat) } →
    exec (.lgdt (.mem m)) s = .next (past { s with gdtr := r }) ∧
    exec (.lidt (.mem m)) s = .next (past { s with idtr := r })) ∧
  (∀ (i : Instr) (m : MemOp) (s : State) (r : TableReg), LockAllowed s → s.mem.wf = true →
    WordOk s (s.memSeg m) (s.effOffset m) .write → WordOk s (s.memSeg m) (s.effOffset m + 2) .write →
    WordOk s (s.memSeg m) (s.effOffset m + 4) .write →
    ((i = .sgdt (.mem m) ∧ r = s.gdtr) ∨ (i = .sidt (.mem m) ∧ r = s.idtr)) →
    ∃ t, exec i s = .next t ∧ t = past { s with mem := t.mem, freeCtr := t.freeCtr } ∧
      wordAfter s t (s.memSeg m) (s.effOffset m) = r.limit ∧
      (wordAfter s t (s.memSeg m) (s.effOffset m + 2)).toNat = r.base.toNat % 65536 ∧
      (wordAfter s t (s.memSeg m) (s.effOffset m + 4)).toNat % 256 = r.base.toNat / 65536 ∧
      MemSameBut s t (wordBytes s (s.memSeg m) (s.effOffset m) ++ wordBytes s (s.memSeg m) (s.effOffset m + 2) ++
        wordBytes s (s.memSeg m) (s.effOffset m + 4)))

/-- SLDT and STR store a selector; LLDT at CPL 0 loads LDTR from an LDT descriptor of the GDT, or marks it invalid for a null
selector; LTR loads TR from an available TSS and marks that busy.  A selector of the LDT or outside the GDT, or a descriptor of another
type, takes #GP(selector); one not present #NP(selector); a null selector is #GP(0) for LTR (R615 to R618).  That SLDT stores the
selector last loaded also where LDTR is invalid and that selector is not null is the model's choice.
The model's own choices in it: notes/assumptions/49.md. -/
def Obligations.SystemSegments : Prop :=
  (∀ (i : Instr) (e : Rm16) (v : Word) (s : State), LockAllowed s → s.msw.pe = true → s.mem.wf = true →
    Rm16Ok s e .write → ((i = .sldt e ∧ v = s.ldtr.sel) ∨ (i = .str e ∧ v = s.tr.sel)) →
    ∃ t, exec i s = .next t ∧ Ended s t ∧ t.flags = s.flags ∧ t.freeCtr = s.freeCtr ∧ Wrote16 s t e v) ∧
  (∀ (e : Rm16) (s : State), LockAllowed s → s.msw.pe = true → Privileged s → Rm16Ok s e .read →
    ((rm16Value s e).toNat < 4 →
      exec (.lldt e) s = .next (past { s with ldtr := { s.ldtr with sel := rm16Value s e, valid := false } }) ∧
      exec (.ltr e) s = .next (raiseAt s { vector := 13, code := 0 })) ∧
    (4 ≤ (rm16Value s e).toNat → ((rm16Value s e).getLsbD 2 = true ∨ s.fetchDesc (rm16Value s e) = none) →
      exec (.lldt e) s = .next (raiseAt s { vector := 13, code := rm16Value s e &&& 0xFFFC }) ∧
      exec (.ltr e) s = .next (raiseAt s { vector := 13, code := rm16Value s e &&& 0xFFFC })) ∧
    (∀ (i : Instr) (d : Desc) (type : BitVec 4), 4 ≤ (rm16Value s e).toNat → (rm16Value s e).getLsbD 2 = false →
      s.fetchDesc (rm16Value s e) = some d → Alone s → ((i = .lldt e ∧ type = 2) ∨ (i = .ltr e ∧ type = 1)) →
      (isSys d.ar type = false → exec i s = .next (raiseAt s { vector := 13, code := rm16Value s e &&& 0xFFFC })) ∧
      (isSys d.ar type = true → present d.ar = false →
        exec i s = .next (raiseAt s { vector := 11, code := rm16Value s e &&& 0xFFFC }))) ∧
    (4 ≤ (rm16Value s e).toNat → (rm16Value s e).getLsbD 2 = false → ∀ d, s.fetchDesc (rm16Value s e) = some d →
      (Alone s → isSys d.ar 2 = true → present d.ar = true →
        exec (.lldt e) s = .next (past { s with ldtr := {
          sel := rm16Value s e
          base := BitVec.ofNat 24 (65536 * d.b4.toNat + d.w1.toNat)
          limit := d.w0
          valid := true } })) ∧
      (isSys d.ar 1 = true → present d.ar = true → s.mem.wf = true → d.InMemory s →
        ∃ t, exec (.ltr e) s = .next t ∧ Marked s t d (d.ar ||| 2) ∧ MemSameBut s t (d.marked s) ∧
          t = past { s with
            mem := t.mem
            tr := {
              sel := rm16Value s e
              base := BitVec.ofNat 24 (65536 * d.b4.toNat + d.w1.toNat)
              limit := d.w0
              valid := true } })))

/-- LMSW at CPL 0 loads MP, EM and TS and can set PE, never clear it; setting PE with bits 1:0 of CS not zero is outside the
specification and refused, and a RESET that falls into that step comes then; CLTS clears TS (R621, R622; 70_reset_and_hazards.md R730;
93_implementation_defined.md U13).
The model's own choices in it: notes/assumptions/16.md, 17.md, 24.md. -/
def Obligations.MachineStatus : Prop :=
  (∀ (e : Rm16) (s : State) (v : Word), LockAllowed s → Privileged s → Rm16Ok s e .read → v = rm16Value s e →
    ((s.msw.pe = true ∨ v.getLsbD 0 = false ∨ s.cs.sel.extractLsb' 0 2 = 0) →
      exec (.lmsw e) s = .next (past { s with
        msw := { pe := s.msw.pe || v.getLsbD 0, mp := v.getLsbD 1, em := v.getLsbD 2, ts := v.getLsbD 3 }
        lmsw := if s.msw.pe = false ∧ v.getLsbD 0 = true then .justSet else s.lmsw })) ∧
    (s.msw.pe = false → v.getLsbD 0 = true → s.cs.sel.extractLsb' 0 2 ≠ 0 →
      (Unreset s → exec (.lmsw e) s = .refused .protectedEntryWithNonzeroRpl) ∧
      (¬ Unreset s → exec (.lmsw e) s = .next (past s.resetNow)))) ∧
  (∀ s : State, LockAllowed s → Privileged s →
    exec .clts s = .next (past { s with msw := { s.msw with ts := false } }))

/-- ARPL raises the RPL of its operand and says so in ZF; LAR, LSL, VERR and VERW say in ZF whether a selector is visible and fit,
and a test that fails changes ZF alone (R624 to R629).
The model's own choices in it: notes/assumptions/28.md. -/
def Obligations.SelectorTests : Prop :=
  (∀ (e : Rm16) (r : Reg16) (s : State), LockAllowed s → s.msw.pe = true → s.mem.wf = true → Rm16Ok s e .write →
    ((rm16Value s e).toNat % 4 < (s.reg16 r).toNat % 4 →
      ∃ t, exec (.arpl e r) s = .next t ∧ Ended s t ∧ t.flags = { s.flags with zf := true } ∧ t.freeCtr = s.freeCtr ∧
        Wrote16 s t e (BitVec.ofNat 16 ((rm16Value s e).toNat / 4 * 4 + (s.reg16 r).toNat % 4))) ∧
    ((s.reg16 r).toNat % 4 ≤ (rm16Value s e).toNat % 4 →
      exec (.arpl e r) s = .next (past { s with flags := { s.flags with zf := false } }))) ∧
  (∀ (i : Instr) (r : Reg16) (e : Rm16) (s : State), LockAllowed s → s.msw.pe = true → Rm16Ok s e .read →
    (i = .lar r e ∨ i = .lsl r e ∨ i = .verr e ∨ i = .verw e) →
    ((rm16Value s e).toNat < 4 ∨ s.fetchDesc (rm16Value s e) = none) →
    exec i s = .next (past { s with flags := { s.flags with zf := false } })) ∧
  (∀ (i : Instr) (r : Reg16) (e : Rm16) (s : State) (d : Desc) (fit : Prop) (g : Gpr), LockAllowed s → Alone s → s.msw.pe = true →
    Rm16Ok s e .read → 4 ≤ (rm16Value s e).toNat → s.fetchDesc (rm16Value s e) = some d →
    ((i = .lar r e ∧ (fit ↔ True) ∧ g = s.gpr.set r (BitVec.ofNat 16 (256 * d.ar.toNat))) ∨
     (i = .lsl r e ∧ g = s.gpr.set r d.w0 ∧
       (fit ↔ isSeg d.ar = true ∨ isSys d.ar 1 = true ∨ isSys d.ar 2 = true ∨ isSys d.ar 3 = true)) ∨
     (i = .verr e ∧ (fit ↔ readable d.ar = true) ∧ g = s.gpr) ∨
     (i = .verw e ∧ (fit ↔ writable d.ar = true) ∧ g = s.gpr)) →
    (fit → (conforming d.ar = true ∨ (s.cpl ≤ dpl d.ar ∧ rpl (rm16Value s e) ≤ dpl d.ar)) → s.mem.wf = true →
      d.InMemory s →
      ∃ t, exec i s = .next t ∧ t = past { s with gpr := g, flags := { s.flags with zf := true }, mem := t.mem } ∧
        (isSeg d.ar = true → AccessedSet s t d) ∧ (isSeg d.ar = false → t.mem = s.mem)) ∧
    (¬ (fit ∧ (conforming d.ar = true ∨ (s.cpl ≤ dpl d.ar ∧ rpl (rm16Value s e) ≤ dpl d.ar))) →
      exec i s = .next (past { s with flags := { s.flags with zf := false } })))

/-- Where an instruction is not privileged to run it takes #GP(0) before any other check and changes nothing: the privileged
instructions away from CPL 0, the trusted ones where CPL > IOPL, INS and OUTS with a repeat prefix as soon as one iteration is to be
made (45_flag_misc.md R517; 43_string.md R426, R427, R431).
The model's own choices in it: notes/assumptions/9.md. -/
def Obligations.PrivilegeTraps : Prop :=
  (∀ (s : State) (i : Instr), LockAllowed s → s.msw.pe = true → ¬ Privileged s →
    (i = .hlt ∨ i = .clts ∨ (∃ m, i = .lgdt (.mem m)) ∨ (∃ m, i = .lidt (.mem m)) ∨ (∃ e, i = .lldt e) ∨
      (∃ e, i = .ltr e) ∨ ∃ e, i = .lmsw e) →
    exec i s = .next (raiseAt s { vector := 13, code := 0 })) ∧
  (∀ (s : State) (i : Instr), LockAllowed s → ¬ IoAllowed s →
    (i = .cli ∨ i = .sti ∨ (∃ v, i = .inAlDb v) ∨ (∃ v, i = .inAxDb v) ∨ i = .inAlDx ∨ i = .inAxDx ∨
      (∃ v, i = .outDbAl v) ∨ (∃ v, i = .outDbAx v) ∨ i = .outDxAl ∨ i = .outDxAx ∨
      ((s.pfx.rep = none ∨ s.gpr.cx ≠ 0) ∧ (i = .insb ∨ i = .insw ∨ i = .outsb ∨ i = .outsw))) →
    exec i s = .next (raiseAt s { vector := 13, code := 0 })) ∧
  (∀ s : State, s.msw.pe = false → Privileged s ∧ IoAllowed s ∧ LockAllowed s)

/-! ### Protected Mode transfers and exceptions (46_protected_transfer.md, 60_exceptions.md) -/

/-- Taking an event through an interrupt gate (type 6) or a trap gate (type 7) to a handler that runs at the current privilege level,
a segment of that level or a conforming one of a lower DPL: FLAGS, CS and the return IP on the stack, then the error code if the
event has one; TF and NT clear, and IF too through an interrupt gate; CS:IP from the gate, the handler's descriptor marked accessed
(R664; 46_protected_transfer.md R578).  The descriptor is taken not to lie in the bytes of the frame itself.
The reserved bits of the pushed FLAGS are the model's choice.
The model's own choices in it: notes/assumptions/10.md, 28.md. -/
def Obligations.GateDelivery : Prop :=
  ∀ (s : State) (v : Byte) (retIp code : Word) (kind : EventKind) (g c : Desc) (err : List Word),
    s.msw.pe = true → s.mem.wf = true → s.bus.lock = .free → GateOpen s v kind g → (isSys g.ar 6 = true ∨ isSys g.ar 7 = true) →
    4 ≤ g.w1.toNat → s.fetchDesc g.w1 = some c → CodeAt c s.cpl → c.InMemory s → g.w0.toNat ≤ c.w0.toNat →
    err = (if kind = .exception ∧ (v = 8 ∨ (10 ≤ v.toNat ∧ v.toNat ≤ 13)) then [code] else []) →
    StackRoom s (3 + err.length) → c.accessByte ∉ pushedBytes s (3 + err.length) →
    ∃ t, deliver s v retIp kind code = t ∧
      t = inHandler { s with
        gpr := { s.gpr with sp := s.gpr.sp - BitVec.ofNat 16 (2 * (3 + err.length)) }
        flags := { s.flags with tf := false, nt := false, ie := s.flags.ie && !isSys g.ar 6 }
        ip := g.w0
        cs := codeSeg g.w1 s.cpl c
        mem := t.mem } ∧
      PushedWords s t ([BitVec.ofNat 16 (flagWord s.flags), s.cs.sel, retIp] ++ err) ∧
      Marked s t c (c.ar ||| 1) ∧ MemSameBut s t (c.marked s ++ pushedBytes s (3 + err.length))

/-- Taking an event through an interrupt or trap gate to a handler of an inner level: the stack the TSS holds for that level, on it the
old SS and SP, FLAGS, CS, the return IP and the error code; CS:IP from the gate at the handler's level.  Through a task gate: the
nested task switch to the TSS it names, the error code on the incoming task's stack (R664; 46_protected_transfer.md R560, R578,
R579).  The descriptors are taken not to lie in the bytes of the frame.  A TSS read through a TR that is not valid is the
model's case (log entry 29), and the reserved bits of the pushed FLAGS are its choice.
The model's own choices in it: notes/assumptions/10.md, 26.md, 28.md, 29.md. -/
def Obligations.InnerDelivery : Prop :=
  (∀ (s : State) (v : Byte) (retIp code nsp nss : Word) (kind : EventKind) (g c k : Desc) (err : List Word),
    s.msw.pe = true → s.mem.wf = true → s.bus.lock = .free → GateOpen s v kind g → (isSys g.ar 6 = true ∨ isSys g.ar 7 = true) →
    4 ≤ g.w1.toNat → s.fetchDesc g.w1 = some c → isCode c.ar = true → conforming c.ar = false → dpl c.ar < s.cpl →
    present c.ar = true → c.InMemory s → g.w0.toNat ≤ c.w0.toNat →
    err = (if kind = .exception ∧ (v = 8 ∨ (10 ≤ v.toNat ∧ v.toNat ≤ 13)) then [code] else []) →
    InnerRoom s (dpl c.ar) nss nsp c k (5 + err.length) →
    ∃ t, deliver s v retIp kind code = t ∧
      t = inHandler { s with
        gpr := { s.gpr with sp := nsp - BitVec.ofNat 16 (2 * (5 + err.length)) }
        flags := { s.flags with tf := false, nt := false, ie := s.flags.ie && !isSys g.ar 6 }
        ip := g.w0
        cs := codeSeg g.w1 (dpl c.ar) c
        ss := descriptorSeg nss k
        mem := t.mem } ∧
      PushedWords (withStack s nss nsp k) t
        ([s.ss.sel, s.gpr.sp, BitVec.ofNat 16 (flagWord s.flags), s.cs.sel, retIp] ++ err) ∧
      Marked s t c (c.ar ||| 1) ∧ Marked s t k (k.ar ||| 1) ∧
      MemSameBut s t (c.marked s ++ k.marked s ++ pushedBytes (withStack s nss nsp k) (5 + err.length))) ∧
  (∀ (s u : State) (v : Byte) (retIp code : Word) (kind : EventKind) (g b : Desc) (err : List Word) (ext : Bool),
    s.msw.pe = true → s.mem.wf = true → s.bus.lock = .free → Alone s → GateOpen s v kind g → isSys g.ar 5 = true →
    g.w1.getLsbD 2 = false → 4 ≤ g.w1.toNat → s.fetchDesc g.w1 = some b → isSys b.ar 1 = true → present b.ar = true →
    (ext = true ↔ kind = .external ∨ (kind = .exception ∧ (v = 7 ∨ v = 16))) →
    switchTasks s g.w1 b .nest retIp ext = .ok u → u.ip.toNat ≤ u.cs.limit.toNat →
    err = (if kind = .exception ∧ (v = 8 ∨ (10 ≤ v.toNat ∧ v.toNat ≤ 13)) then [code] else []) → StackRoom u err.length →
    ∃ t, deliver s v retIp kind code = t ∧
      t = inHandler { u with gpr := { u.gpr with sp := u.gpr.sp - BitVec.ofNat 16 (2 * err.length) }, mem := t.mem } ∧
      Pushed u t err)

/-- A far JMP or CALL, direct or through a pointer in memory, straight to a code segment in Protected Mode: conforming with
DPL ≤ CPL, or not conforming with RPL ≤ CPL and DPL = CPL; CS takes CPL as its RPL, CALL pushes CS and the next IP
(46_protected_transfer.md R553, R554, R570, R572).
The model's own choices in it: notes/assumptions/11.md, 28.md. -/
def Obligations.FarTransferProtected : Prop :=
  ∀ (i : Instr) (s : State) (sel off : Word) (d : Desc), LockAllowed s → s.msw.pe = true → s.mem.wf = true → 4 ≤ sel.toNat →
    s.fetchDesc sel = some d → CodeAt d s.cpl → (conforming d.ar = false → rpl sel ≤ s.cpl) → off.toNat ≤ d.w0.toNat →
    d.InMemory s →
    (FarJump i s sel off → ∃ t, exec i s = .next t ∧ AccessedSet s t d ∧
      t = landed { s with mem := t.mem, cs := codeSeg sel s.cpl d } off) ∧
    (FarCall i s sel off → StackRoom s 2 → d.accessByte ∉ pushedBytes s 2 →
      ∃ t, exec i s = .next t ∧ PushedWords s t [s.cs.sel, s.nextIp] ∧
        Marked s t d (d.ar ||| 1) ∧ MemSameBut s t (d.marked s ++ pushedBytes s 2) ∧
        t = landed { s with mem := t.mem, gpr := { s.gpr with sp := s.gpr.sp - 4 }, cs := codeSeg sel s.cpl d } off)

/-- A far JMP or CALL through a call gate, direct or through a pointer in memory, whose offset plays no part: JMP to the gate's code
segment at the current level; CALL to the same level pushes CS and the next IP; CALL to an inner level takes the TSS's stack, and
puts on it the old SS and SP, the gate's count of parameter words in their order, CS and the next IP (46_protected_transfer.md
R552, R560, R571, R573, R574).  The descriptors are taken not to lie in the bytes pushed.  A TSS read through a TR that is not
valid is the model's case (log entry 29).
The model's own choices in it: notes/assumptions/11.md, 28.md, 29.md, 44.md. -/
def Obligations.CallGates : Prop :=
  ∀ (i : Instr) (s : State) (sel off : Word) (g c : Desc), LockAllowed s → s.msw.pe = true → s.mem.wf = true →
    4 ≤ sel.toNat → s.fetchDesc sel = some g → isSys g.ar 4 = true → s.cpl ≤ dpl g.ar → rpl sel ≤ dpl g.ar →
    present g.ar = true → 4 ≤ g.w1.toNat → s.fetchDesc g.w1 = some c → isCode c.ar = true → present c.ar = true →
    g.w0.toNat ≤ c.w0.toNat → c.InMemory s →
    (FarJump i s sel off → CodeAt c s.cpl → ∃ t, exec i s = .next t ∧ AccessedSet s t c ∧
      t = landed { s with mem := t.mem, cs := codeSeg g.w1 s.cpl c } g.w0) ∧
    (FarCall i s sel off → CodeAt c s.cpl → StackRoom s 2 → c.accessByte ∉ pushedBytes s 2 →
      ∃ t, exec i s = .next t ∧ PushedWords s t [s.cs.sel, s.nextIp] ∧
        Marked s t c (c.ar ||| 1) ∧ MemSameBut s t (c.marked s ++ pushedBytes s 2) ∧
        t = landed { s with mem := t.mem, gpr := { s.gpr with sp := s.gpr.sp - 4 }, cs := codeSeg g.w1 s.cpl c } g.w0) ∧
    (∀ (k : Desc) (nsp nss : Word) (n : Nat), FarCall i s sel off → conforming c.ar = false → dpl c.ar < s.cpl →
      n = g.b4.toNat % 32 → StackHolds s n → InnerRoom s (dpl c.ar) nss nsp c k (n + 4) →
      ∃ t, exec i s = .next t ∧
        PushedWords (withStack s nss nsp k) t ([s.ss.sel, s.gpr.sp] ++
          ((List.range n).map fun j => s.segWord .ss (s.gpr.sp + BitVec.ofNat 16 (2 * j))).reverse ++ [s.cs.sel, s.nextIp]) ∧
        Marked s t c (c.ar ||| 1) ∧ Marked s t k (k.ar ||| 1) ∧
        MemSameBut s t (c.marked s ++ k.marked s ++ pushedBytes (withStack s nss nsp k) (n + 4)) ∧
        t = landed { s with
          mem := t.mem
          gpr := { s.gpr with sp := nsp - BitVec.ofNat 16 (2 * (n + 4)) }
          cs := codeSeg g.w1 (dpl c.ar) c
          ss := descriptorSeg nss k } g.w0)

/-- A far RET in Protected Mode: to a code segment of the same level, CS and IP from the stack and the bytes released; to an outer
level SS and SP too, the bytes released from both stacks, and DS and ES made null where the outer level may not reach them
(46_protected_transfer.md R576, R577).
The model's own choices in it: notes/assumptions/28.md, 29.md. -/
def Obligations.FarReturnProtected : Prop :=
  ∀ (i : Instr) (s : State) (release sel off : Word) (d : Desc), ((i = .retf ∧ release = 0) ∨ i = .retfDw release) →
    LockAllowed s → s.msw.pe = true → s.mem.wf = true → StackHolds s 2 → off = s.segWord .ss s.gpr.sp →
    sel = s.segWord .ss (s.gpr.sp + 2) → 4 ≤ sel.toNat → s.fetchDesc sel = some d → CodeAt d (rpl sel) →
    off.toNat ≤ d.w0.toNat → d.InMemory s →
    (rpl sel = s.cpl →
      ∃ t, exec i s = .next t ∧ AccessedSet s t d ∧
        t = landed { s with
          mem := t.mem, gpr := { s.gpr with sp := s.gpr.sp + 4 + release }, cs := descriptorSeg sel d } off) ∧
    (∀ (nsp nss : Word) (k : Desc), s.cpl < rpl sel → Accessible s .ss s.gpr.sp (8 + release.toNat) .read →
      InMemory s .ss (s.gpr.sp + 4 + release) 2 .read → InMemory s .ss (s.gpr.sp + 6 + release) 2 .read →
      nsp = s.segWord .ss (s.gpr.sp + 4 + release) → nss = s.segWord .ss (s.gpr.sp + 6 + release) →
      StackAt s nss k (rpl sel) → k.InMemory s →
      ∃ t, exec i s = .next t ∧ Marked s t d (d.ar ||| 1) ∧ Marked s t k (k.ar ||| 1) ∧
        MemSameBut s t (d.marked s ++ k.marked s) ∧
        t = landed { s with
          mem := t.mem
          gpr := { s.gpr with sp := nsp + release }
          cs := descriptorSeg sel d
          ss := descriptorSeg nss k
          ds := outward (rpl sel) s.ds
          es := outward (rpl sel) s.es } off)

/-- A completed task switch: TR names the incoming task; every general register, IP, FLAGS (NT apart) and each selector is the word its
TSS holds; TS is set; NT is clear after a jump and set after a nested switch.  LDTR, SS, CS, DS and ES hold what the descriptors of
those selectors say, found in that order in memory as the step before left it, and a null selector leaves LDTR, DS or ES invalid
(that a null LDT selector does so and is accepted is R590 step 10's own decision D41, R594, log entry 29).  No other register
changes, and once the outgoing task is left no byte but the Accessed bytes of the descriptors loaded for SS, CS, DS and ES.  Where the
bytes the switch writes are RAM and apart: the outgoing task's TSS holds its registers, flags and selectors (NT clear on the way out by
IRET) and the IP to resume at, the incoming descriptor is busy, the outgoing one stays busy after a nested switch, whose TSS then links
back, and is made available otherwise, with no check of GDTR's limit (log entry 48).  JMP and CALL to a TSS or a task gate make that switch (46_protected_transfer.md R570, R572, R585 to R591).
The model's own choices in it: notes/assumptions/10.md, 25.md, 26.md, 29.md, 48.md. -/
def Obligations.TaskSwitch : Prop :=
  (∀ (s u : State) (sel outIp : Word) (b : Desc) (kind : SwitchKind) (ext : Bool), s.mem.wf = true → s.msw.pe = true → Alone s →
    switchTasks s sel b kind outIp ext = .ok u →
    s.tr.valid = true ∧ 41 ≤ s.tr.limit.toNat ∧ 43 ≤ b.w0.toNat ∧
    u.tr = { sel := sel, base := BitVec.ofNat 24 (65536 * b.b4.toNat + b.w1.toNat), limit := b.w0, valid := true } ∧
    u.msw = { s.msw with ts := true } ∧
    ∃ m : State, leaveTask s sel b kind outIp ext = .ok m ∧ m = { s with tr := m.tr, mem := m.mem, bus := m.bus } ∧
      u.ip = m.peek16 b.base 14 ∧
      u.flags = imageFlags (m.peek16 b.base 16) (match kind with
        | .jump => false
        | .nest => true
        | .iret => (m.peek16 b.base 16).getLsbD 14) ∧
      u.gpr = { ax := m.peek16 b.base 18, cx := m.peek16 b.base 20, dx := m.peek16 b.base 22, bx := m.peek16 b.base 24,
                sp := m.peek16 b.base 26, bp := m.peek16 b.base 28, si := m.peek16 b.base 30, di := m.peek16 b.base 32 } ∧
      u.es.sel = m.peek16 b.base 34 ∧ u.cs.sel = m.peek16 b.base 36 ∧ u.ss.sel = m.peek16 b.base 38 ∧
      u.ds.sel = m.peek16 b.base 40 ∧ u.ldtr.sel = m.peek16 b.base 42 ∧
      ((∀ a, a ∈ switchBytes s sel b → s.kindAt a = .ram) → (switchBytes s sel b).Nodup →
        (∀ j, (h : j < (outgoingImage s outIp kind).length) →
          m.peek16 s.tr.base (14 + 2 * j) = (outgoingImage s outIp kind)[j]) ∧
        m.peek8 (s.gdtEntry sel) 5 =
          (if kind = .iret then s.peek8 (s.gdtEntry sel) 5 else s.peek8 (s.gdtEntry sel) 5 ||| 2) ∧
        m.peek8 (s.gdtEntry s.tr.sel) 5 =
          (if kind = .nest then s.peek8 (s.gdtEntry s.tr.sel) 5 else s.peek8 (s.gdtEntry s.tr.sel) 5 &&& 0xFD) ∧
        (kind = .nest → m.peek16 b.base 0 = s.tr.sel) ∧
        MemSameBut s m (switchBytes s sel b)) ∧
      LdtSwitched m u.ldtr.sel s.ldtr u.ldtr ∧
      ∃ (k c : Desc) (kd ke : List Desc) (n1 n2 n3 n4 : State),
        StackAt { m with ldtr := u.ldtr } u.ss.sel k (rpl u.cs.sel) ∧ u.ss = descriptorSeg u.ss.sel k ∧
        n1 = accessedIn { m with ldtr := u.ldtr } k ∧
        4 ≤ u.cs.sel.toNat ∧ n1.fetchDesc u.cs.sel = some c ∧ CodeAt c (rpl u.cs.sel) ∧ u.cs = descriptorSeg u.cs.sel c ∧
        n2 = accessedIn n1 c ∧
        DataSwitched u n2 n3 s.ds u.ds kd ∧ DataSwitched u n3 n4 s.es u.es ke ∧
        u = { n4 with
          ip := u.ip, flags := u.flags, gpr := u.gpr, es := u.es, cs := u.cs, ss := u.ss, ds := u.ds, msw := u.msw } ∧
        MemSameBut m u ((k :: c :: (kd ++ ke)).flatMap fun d => d.marked m)) ∧
  (∀ (i : Instr) (s u : State) (sel off t : Word) (d b : Desc) (kind : SwitchKind), LockAllowed s → Alone s → s.msw.pe = true →
    4 ≤ sel.toNat → s.fetchDesc sel = some d → s.cpl ≤ dpl d.ar → rpl sel ≤ dpl d.ar → present d.ar = true →
    ((isSys d.ar 1 = true ∧ sel.getLsbD 2 = false ∧ t = sel ∧ b = d) ∨
      (isSys d.ar 5 = true ∧ t = d.w1 ∧ t.getLsbD 2 = false ∧ 4 ≤ t.toNat ∧ s.fetchDesc t = some b ∧ isSys b.ar 1 = true ∧
        present b.ar = true)) →
    ((FarJump i s sel off ∧ kind = .jump) ∨ (FarCall i s sel off ∧ kind = .nest)) →
    switchTasks s t b kind s.nextIp false = .ok u → u.ip.toNat ≤ u.cs.limit.toNat →
    exec i s = .next (landed u u.ip))

/-- Shutdown in Real Address Mode: an event whose vector and the double fault's both lie outside the vector table stops the
machine with every register and byte of memory as it was.  Shut down, the machine stays so until an unmasked NMI; that NMI is taken,
and the machine runs in its handler unless the delivery fails in any way, which is shutdown again (60_exceptions.md R663, R693,
R695).  That a masked NMI does not end shutdown, that the NMI is masked as soon as it is recognised even where its delivery fails, and
that a failed delivery returns to shutdown are R695's own decision D49 (log entry 34).
The model's own choices in it: notes/assumptions/16.md, 27.md, 34.md, 35.md, 47.md. -/
def Obligations.Shutdown : Prop :=
  (∀ (s : State) (v : Byte) (retIp code : Word) (kind : EventKind), s.msw.pe = false → s.bus.lock = .free →
    s.idtr.limit.toNat < 35 → s.idtr.limit.toNat < 4 * v.toNat + 3 →
    deliver s v retIp kind code = { s with
      run := .shutdown
      pfx := {}
      lmsw := .clear
      hazardLmswNoJmp := s.hazardLmswNoJmp || decide (s.lmsw ≠ .clear)
      tfAtStart := if kind = .exception ∧ v = 8 then s.tfAtStart else false }) ∧
  (∀ s : State, s.run = .shutdown → s.inputs = [] → (s.nmiPending = false ∨ s.nmiMasked = true) → step s = .next s) ∧
  (∀ s u : State, s.run = .shutdown → s.inputs = [] → s.nmiPending = true → s.nmiMasked = false →
    u = { s with nmiPending := false, nmiMasked := true } →
    (s.mem.wf = true → RealEntryOk s 2 → ∃ t, step s = .next t ∧ t.run = .running ∧ RealEntry u t 2 s.ip) ∧
    (∀ t, attempt u 2 s.ip .external 0 true = .ok t → step s = .next (inHandler t)) ∧
    (∀ f, attempt u 2 s.ip .external 0 true = .error f → ∃ t, step s = .next t ∧ t.run = .shutdown ∧ t.gpr = f.st.gpr ∧
      t.ip = f.st.ip ∧ t.flags = f.st.flags ∧ t.mem = f.st.mem ∧ t.nmiPending = f.st.nmiPending ∧ t.nmiMasked = f.st.nmiMasked) ∧
    (s.msw.pe = false → s.idtr.limit.toNat < 11 → step s = .next { u with
      pfx := {}
      lmsw := .clear
      hazardLmswNoJmp := s.hazardLmswNoJmp || decide (s.lmsw ≠ .clear) }))

/-- What can interrupt.  The inhibit of a load of SS suppresses all; the single-step trap, an unmasked NMI, an unmasked interrupt 9
and an enabled INTR are taken at a boundary, a disabled INTR is not, nor one in the shadow of an STI or once a RESET has come.
Events that stand together are taken in that order, each delivered from the state and at the IP the one before has left, so the last
is the first to run; the mask an NMI sets holds interrupt 9 back, and a delivery that shuts the machine down ends the row.  A halted
machine waits for an enabled event, and one wakes it, in the same order (60_exceptions.md R653, R665, R670, R672, R684, R696).  A
RESET, whichever of a step's bus cycles it comes after and whatever the step is, sets R731's values; before the first it leaves
memory alone; in the middle of PUSHA, of a delivery in Real Address Mode or of a task switch's save of the outgoing task the words
written before it stay, and no more is written (70_reset_and_hazards.md R730, R731).
The model's own choices in it: notes/assumptions/13.md, 14.md, 18.md, 21.md, 24.md, 31.md, 33.md, 34.md, 35.md, 47.md. -/
def Obligations.BoundaryEvents : Prop :=
  (∀ (before : Memory) (u s : State), s = (u.noteStores before).endLock → u.pfx.count = 0 → u.run = .running → u.lmsw = .clear →
    (s.inhibitNext = true → endInstr before u = { s with stiShadow := false }) ∧
    (s.inhibitNext = false → s.nmiPending = false → s.int9Pending = false → s.pins.intr = none → s.tfAtStart = true →
      endInstr before u = { deliver s 1 s.ip .external 0 with stiShadow := false }) ∧
    (s.inhibitNext = false → s.tfAtStart = false → s.nmiPending = true → s.nmiMasked = false → s.int9Pending = false →
      s.pins.intr = none →
      endInstr before u =
        { deliver { s with nmiPending := false, nmiMasked := true } 2 s.ip .external 0 with stiShadow := false }) ∧
    (s.inhibitNext = false → s.tfAtStart = false → s.nmiPending = false → s.int9Pending = true → s.pins.intr = none →
      (s.nmiMasked = false →
        endInstr before u = { deliver { s with int9Pending := false } 9 s.ip .external 0 with stiShadow := false }) ∧
      (s.nmiMasked = true → endInstr before u = { s with stiShadow := false })) ∧
    (s.inhibitNext = false → s.tfAtStart = false → s.nmiPending = false → s.int9Pending = false →
      ∀ v, s.pins.intr = some v →
      (s.flags.ie = true → s.stiShadow = false → s.dead = false →
        endInstr before u =
          { deliver { s with pins := { s.pins with intr := none } } v s.ip .external 0 with stiShadow := false }) ∧
      ((s.flags.ie = false ∨ s.stiShadow = true) → endInstr before u = { s with stiShadow := false })) ∧
    (s.inhibitNext = false → ∀ a, a = (if s.tfAtStart = true then deliver s 1 s.ip .external 0 else s) →
      (a.run = .shutdown → endInstr before u = { a with stiShadow := false }) ∧
      (a.run ≠ .shutdown →
        (s.nmiPending = true → s.nmiMasked = false → endInstr before u =
          { intrTaken (deliver { a with nmiPending := false, nmiMasked := true } 2 a.ip .external 0) with stiShadow := false }) ∧
        ((s.nmiPending = false ∨ s.nmiMasked = true) →
          (s.int9Pending = true → s.nmiMasked = false → endInstr before u =
            { intrTaken (deliver { a with int9Pending := false } 9 a.ip .external 0) with stiShadow := false }) ∧
          ((s.int9Pending = false ∨ s.nmiMasked = true) → endInstr before u = { intrTaken a with stiShadow := false }))))) ∧
  (∀ s : State, s.run = .halted → s.inputs = [] →
    (s.nmiPending = true → s.nmiMasked = false →
      step s = .next (intrTaken (deliver { s with nmiPending := false, nmiMasked := true } 2 s.ip .external 0))) ∧
    ((s.nmiPending = false ∨ s.nmiMasked = true) →
      (s.int9Pending = true → s.nmiMasked = false →
        step s = .next (intrTaken (deliver { s with int9Pending := false } 9 s.ip .external 0))) ∧
      ((s.int9Pending = false ∨ s.nmiMasked = true) → step s = .next (intrTaken s))) ∧
    (∀ v, s.nmiPending = true → s.nmiMasked = false → v = { s with nmiPending := false, nmiMasked := true } →
      s.mem.wf = true → RealEntryOk s 2 →
      ∃ t, step s = .next t ∧ t.run = .running ∧ RealEntry v t 2 s.ip)) ∧
  (∀ s : State, s.run = .halted → s.inputs = [] → (s.nmiPending = false ∨ s.nmiMasked = true) →
    (s.int9Pending = false ∨ s.nmiMasked = true) → (s.pins.intr = none ∨ s.flags.ie = false) → step s = .next s) ∧
  (∀ (s : State) (g : Signals) (rest : List Signals) (n : Nat), s.inputs = g :: rest → g.reset = some n →
    ∃ t, step s = .next t ∧ ResetDone t ∧ (n = 0 → g.acts = [] → s.bus.lock = .free → t.mem = s.mem)) ∧
  (∀ (s u : State) (g : Signals) (rest : List Signals) (n : Nat) (more : List Byte), s.run = .running → s.inputs = g :: rest →
    g.reset = some n → 1 ≤ n → n ≤ 8 → u = s.accept g rest → u.bus.lock = .free → decode u.fetched = .ok (.pusha, more) →
    LockAllowed u → u.mem.wf = true → StackRoom u 8 → (u.segAddr .ss u.gpr.sp).toNat % 2 = 0 →
    u.flags.tf = false → u.tfAtStart = false → u.nmiPending = false → u.int9Pending = false → u.pins.intr = none →
    ∃ t, step s = .next t ∧ ResetDone t ∧
      PushedSoFar u t [u.gpr.ax, u.gpr.cx, u.gpr.dx, u.gpr.bx, u.gpr.sp, u.gpr.bp, u.gpr.si, u.gpr.di] n) ∧
  (∀ (s : State) (v : Byte) (retIp code : Word) (kind : EventKind) (n : Nat), n ≤ 3 → s.mem.wf = true → RealEntryOk s v →
    (s.segAddr .ss s.gpr.sp).toNat % 2 = 0 →
    PushedSoFar s (deliver (s.awaitReset n) v retIp kind code).endReset [BitVec.ofNat 16 (flagWord s.flags), s.cs.sel, retIp] n) ∧
  (∀ (s t : State) (sel outIp : Word) (b : Desc) (kind : SwitchKind) (ext : Bool) (n : Nat), n ≤ 14 → s.mem.wf = true →
    s.bus.lock = .free → s.bus.between = [] → s.tr.valid = true → 41 ≤ s.tr.limit.toNat → s.tr.base.toNat % 2 = 0 →
    (∀ a, a ∈ switchBytes s sel b → s.kindAt a = .ram) → (switchBytes s sel b).Nodup →
    t = (switchEnd (switchTasks (s.awaitReset n) sel b kind outIp ext)).endReset →
    (∀ j, (h : j < (outgoingImage s outIp kind).length) → j < n →
      t.peek16 s.tr.base (14 + 2 * j) = (outgoingImage s outIp kind)[j]) ∧
    MemSameBut s t (physAdd (s.gdtEntry sel) 5 :: (List.range (2 * n)).map fun j => physAdd s.tr.base (14 + j)))

/-! ### Physical memory as the platform makes it, and the hazards (20_memory.md R85, R90, R92; 70_reset_and_hazards.md) -/

/-- No step, whatever it runs, takes in or delivers, changes a byte of ROM or of absent memory, or the platform's map of memory and its
parameters (00_scope.md R8; 70_reset_and_hazards.md R754).
The model's own choices in it: notes/assumptions/47.md. -/
def Obligations.RomKept : Prop :=
  ∀ s t : State, step s = .next t →
    t.bus.map = s.bus.map ∧ t.platform = s.platform ∧
      ∀ a, (s.kindAt a = .rom ∨ s.kindAt a = .absent) → t.mem.read a = s.mem.read a

/-- What an access does by what answers at the address.  A load of a byte or word by MOV reads a device once for each byte and tells it; a
store by MOV tells it once for each byte; INC, DEC, NEG, NOT, and ADD, ADC, SUB and SBB to memory, of a byte or a word, read each byte
once and write it once.  ROM and absent memory drop what MOV stores, and what a byte of absent memory reads as is open.  Bytes that
other agents change are changed in RAM and in a device's window, and the processor extension's transfers read and write words
(00_scope.md R8; R85, R92, R140; 45_flag_misc.md R532).
The model's own choices in it: notes/assumptions/14.md, 20.md, 23.md, 47.md. -/
def Obligations.MemoryKinds : Prop :=
  (∀ (f : MoveForm8) (m : MemOp) (r : Reg8) (s : State) (a : Nat), LockAllowed s → Alone s → f.memory = some (m, .read) →
    f.dest = .reg r → Accessible s (s.memSeg m) (s.effOffset m) 1 .read →
    a = (s.segAddr (s.memSeg m) (s.effOffset m) 0).toNat →
    (s.kindAt a = .device → ∃ (t : State) (b : Byte) (feed : List Host.Cell), exec f.instr s = .next t ∧ DeviceByte s a b feed ∧
      t = past ({ s with bus := { s.bus with feed := feed, log := s.bus.log ++ [BusEvent.read a b] } }.setReg8 r b)) ∧
    (s.kindAt a = .absent → ∃ t b, exec f.instr s = .next t ∧
      t = past ({ s with bus := { s.bus with floats := t.bus.floats } }.setReg8 r b))) ∧
  (∀ (f : MoveForm16) (m : MemOp) (r : Reg16) (s : State) (a b : Nat), LockAllowed s → Alone s → f.memory = some (m, .read) →
    f.dest = .reg r → Accessible s (s.memSeg m) (s.effOffset m) 2 .read →
    a = (s.segAddr (s.memSeg m) (s.effOffset m) 0).toNat → b = (s.segAddr (s.memSeg m) (s.effOffset m) 1).toNat →
    s.kindAt a = .device → s.kindAt b = .device →
    ∃ (t : State) (lo hi : Byte) (feed : List Host.Cell), exec f.instr s = .next t ∧ DeviceWord s a b lo hi feed ∧
      t = past ({ s with bus := { s.bus with feed := feed, log := s.bus.log ++ [BusEvent.read a lo, BusEvent.read b hi] } }.setReg16 r
        (pair hi.toNat lo.toNat))) ∧
  (∀ (f : MoveForm8) (m : MemOp) (s : State) (a : Nat), LockAllowed s → Alone s → f.memory = some (m, .write) →
    Accessible s (s.memSeg m) (s.effOffset m) 1 .write → a = (s.segAddr (s.memSeg m) (s.effOffset m) 0).toNat →
    ((s.kindAt a = .rom ∨ s.kindAt a = .absent) → exec f.instr s = .next (past s)) ∧
    (s.kindAt a = .device → exec f.instr s = .next (past { s with
      bus := { s.bus with log := s.bus.log ++ [.write a (f.source s)] } }))) ∧
  (∀ (f : MoveForm16) (m : MemOp) (s : State) (a b : Nat), LockAllowed s → Alone s → f.memory = some (m, .write) →
    Accessible s (s.memSeg m) (s.effOffset m) 2 .write → a = (s.segAddr (s.memSeg m) (s.effOffset m) 0).toNat →
    b = (s.segAddr (s.memSeg m) (s.effOffset m) 1).toNat →
    ((s.kindAt a = .rom ∨ s.kindAt a = .absent) → (s.kindAt b = .rom ∨ s.kindAt b = .absent) →
      exec f.instr s = .next (past s)) ∧
    (s.kindAt a = .device → s.kindAt b = .device → exec f.instr s = .next (past { s with
      bus := { s.bus with log := s.bus.log ++ [.write a (loByte (f.source s)), .write b (hiByte (f.source s))] } }))) ∧
  (∀ (i : Instr) (m : MemOp) (s : State) (a : Nat) (result : Byte → Byte) (flags : Byte → Flags), LockAllowed s → Alone s →
    Accessible s (s.memSeg m) (s.effOffset m) 1 .write → a = (s.segAddr (s.memSeg m) (s.effOffset m) 0).toNat →
    s.kindAt a = .device →
    ((∃ op : UnaryOp, i = op.instr8 (.mem m) ∧ result = op.result ∧ flags = op.flagsAfter s.flags) ∨
      (∃ (op : ArithOp) (f : Form8), i = op.instr8 f ∧ f.memory op.access = some (m, .write) ∧
        (∀ d, result d = op.result s.flags d (f.source s) ∧ flags d = op.flagsAfter s.flags d (f.source s)))) →
    ∃ (t : State) (d : Byte) (feed : List Host.Cell), exec i s = .next t ∧ DeviceByte s a d feed ∧
      t = past { s with
        flags := flags d
        bus := { s.bus with feed := feed, log := s.bus.log ++ [.read a d, .write a (result d)] } }) ∧
  (∀ (i : Instr) (m : MemOp) (s : State) (a b : Nat) (result : Word → Word) (flags : Word → Flags), LockAllowed s → Alone s →
    Accessible s (s.memSeg m) (s.effOffset m) 2 .write → a = (s.segAddr (s.memSeg m) (s.effOffset m) 0).toNat →
    b = (s.segAddr (s.memSeg m) (s.effOffset m) 1).toNat → s.kindAt a = .device → s.kindAt b = .device →
    ((∃ op : UnaryOp, i = (UnaryForm16.rm op (.mem m)).instr ∧ result = op.result ∧ flags = op.flagsAfter s.flags) ∨
      (∃ (op : ArithOp) (f : ArithForm16), i = op.instr16 f ∧ f.memory op.access = some (m, .write) ∧
        (∀ d, result d = op.result s.flags d (f.source s) ∧ flags d = op.flagsAfter s.flags d (f.source s)))) →
    ∃ (t : State) (lo hi : Byte) (feed : List Host.Cell) (d : Word), exec i s = .next t ∧ DeviceWord s a b lo hi feed ∧
      d = pair hi.toNat lo.toNat ∧
      t = past { s with
        flags := flags d
        bus := { s.bus with
          feed := feed
          log := s.bus.log ++ [.read a lo, .read b hi, .write a (loByte (result d)), .write b (hiByte (result d))] } }) ∧
  (∀ (s : State) (g : Signals) (rest : List Signals) (a : Nat) (v : Byte), g.acts = [.place a v] → s.bus.lock = .free →
    a < 2 ^ 24 → s.mem.wf = true →
    MemSameBut s (s.accept g rest) [a] ∧
    ((s.kindAt a = .ram ∨ s.kindAt a = .device) → (s.accept g rest).mem.read a = v) ∧
    ((s.kindAt a = .rom ∨ s.kindAt a = .absent) → MemSame s (s.accept g rest))) ∧
  (∀ (s : State) (g : Signals) (rest : List Signals) (a : Addr) (v : Word), s.bus.lock = .free → Unreset s → s.mem.wf = true →
    s.kindAt (physAdd a 0) = .ram → s.kindAt (physAdd a 1) = .ram →
    (g.acts = [.npxWrite a v] → (s.accept g rest).peek16 a 0 = v ∧
      MemSameBut s (s.accept g rest) [physAdd a 0, physAdd a 1]) ∧
    (g.acts = [.npxRead a] → MemSame s (s.accept g rest) ∧
      (s.accept g rest).escLog = s.escLog ++ [.operand a (s.peek16 a 0)]))

/-- What other agents do between the bus cycles of one instruction, and where they can not.  Each aligned word is one cycle, a word at an
odd address two: a byte changed between the two words of LDS, or between the two bytes of a load or store of AX, is seen so.  A
descriptor is read whole in locked cycles, and its Accessed bit is then set in one locked pair.  The cycles of XCHG, and of MOVS, INS and
OUTS with a LOCK prefix, are locked: nothing comes between.  While a repetition of those goes on, what other agents would do is held
back; it happens when the repetition ends or is interrupted (R84, R140, R142, R143; 43_string.md R444).
The model's own choices in it: notes/assumptions/14.md, 31.md. -/
def Obligations.BusSharing : Prop :=
  (∀ (r : Reg16) (m : MemOp) (s u v : State) (first second : List BusAct) (rest : List (List BusAct)), LockAllowed s →
    s.msw.pe = false → Unreset s → s.bus.lock = .free → s.bus.between = first :: second :: rest →
    (∀ k, k = 0 ∨ k = 2 → Accessible s (s.memSeg m) (s.effOffset m + k) 2 .read ∧
      (s.segAddr (s.memSeg m) (s.effOffset m + k) 0).toNat % 2 = 0 ∧
      ∀ j, j < 2 → s.kindAt (s.segAddr (s.memSeg m) (s.effOffset m + k) j).toNat = .ram) →
    u = afterOthers s first (second :: rest) → v = afterOthers u second rest →
    exec (.lds r (.mem m)) s = .next (past ({ v with
      gpr := s.gpr.set r (u.segWord (s.memSeg m) (s.effOffset m)) }.setSeg .ds
        (realModeSeg (v.segWord (s.memSeg m) (s.effOffset m + 2)))))) ∧
  (∀ (off : Word) (s u v : State) (a b : Nat) (first second : List BusAct) (rest : List (List BusAct)), LockAllowed s →
    Unreset s → s.bus.lock = .free → s.bus.between = first :: second :: rest → a = (s.segAddr (sourceSeg s) off 0).toNat →
    b = (s.segAddr (sourceSeg s) off 1).toNat → a % 2 = 1 → s.kindAt a = .ram → s.kindAt b = .ram →
    u = afterOthers s first (second :: rest) →
    (Accessible s (sourceSeg s) off 2 .read → v = afterOthers u second rest →
      exec (.movAxXw off) s = .next (past { v with
        gpr := { s.gpr with ax := pair (v.mem.read b).toNat (u.mem.read a).toNat } })) ∧
    (Accessible s (sourceSeg s) off 2 .write →
      v = afterOthers { u with mem := u.mem.write a (loByte s.gpr.ax) } second rest →
      exec (.movXwAx off) s = .next (past { v with mem := v.mem.write b (hiByte s.gpr.ax) }))) ∧
  (∀ (r : Reg16) (s u v : State) (d : Desc) (first second : List BusAct) (rest : List (List BusAct)), LockAllowed s →
    s.msw.pe = true → Unreset s → s.bus.lock = .free → s.bus.between = first :: second :: rest → 4 ≤ (s.reg16 r).toNat →
    u = afterOthers s first (second :: rest) → u.fetchDesc (s.reg16 r) = some d → DataLoadable s (s.reg16 r) d →
    s.kindAt d.accessByte = .ram → v = afterOthers u second rest →
    exec (.movDsEw (.reg r)) s = .next (past ({ v with
      mem := v.mem.write d.accessByte (v.mem.read d.accessByte ||| 1) }.setSeg .ds (descriptorSeg (s.reg16 r) d)))) ∧
  (∀ (i : Instr) (s t : State) (acts : List (List BusAct)), LockAllowed s → LockedCycles s i → exec i s = .next t →
    exec i (withBetween s acts) = .next (withBetween t acts)) ∧
  (∀ (s : State) (g : Signals) (rest : List Signals), s.bus.lock ≠ .free →
    s.accept g rest = { s with
      bus := { s.bus with held := s.bus.held ++ g.acts }
      inputs := rest
      pins := g.pins
      nmiPending := s.nmiPending || g.nmi
      int9Pending := s.int9Pending || g.overrun }) ∧
  (∀ (s : State) (v : Byte) (retIp code : Word) (kind : EventKind), s.bus.lock ≠ .free →
    deliver s v retIp kind code = deliver (unlocked s) v retIp kind code) ∧
  (∀ (before : Memory) (s : State), s.pfx.count = 0 → s.run = .running → s.tfAtStart = false → s.nmiPending = false →
    s.int9Pending = false → s.pins.intr = none → s.lmsw = .clear → s.bus.lock = .active →
    endInstr before s = { unlocked (s.noteStores before) with stiShadow := false }) ∧
  (∀ s : State, s.pfx.count = 0 → s.bus.lock = .kept → s.beginInstr.bus.lock = .active)

/-- The two flags of the hazards that a program must avoid.  An LMSW that sets PE asks for a near transfer next: an instruction that ends
with that still asked for sets the first flag, and one that ends with none asked for does not.  A byte that has changed since a
transfer last discarded the prefetch queue, and is then run, sets the second (10_state.md R66; 20_memory.md R126;
70_reset_and_hazards.md R750, R753).
The model's own choices in it: notes/assumptions/16.md, 18.md. -/
def Obligations.Hazards : Prop :=
  (∀ s : State, s.lmsw = .justSet → s.beginInstr.lmsw = .armed) ∧
  (∀ (before : Memory) (s : State), s.pfx.count = 0 →
    (s.lmsw = .armed → (endInstr before s).hazardLmswNoJmp = true ∧ (endInstr before s).lmsw = .clear) ∧
    (s.lmsw = .clear → (endInstr before s).hazardLmswNoJmp = s.hazardLmswNoJmp)) ∧
  (∀ (s : State) (len : Nat), ((s.withNext len).hazardStaleCode = true ↔ s.hazardStaleCode = true ∨
    ∃ k, k < len ∧ (s.segAddr .cs (BitVec.ofNat 16 (s.fetchOffset + k))).toNat ∈ s.storedSince)) ∧
  (∀ (before : Memory) (s : State) (a : Nat), (a ∈ (s.noteStores before).storedSince ↔
    s.queueFlushed = false ∧ (a ∈ s.storedSince ∨ before.read a ≠ s.mem.read a)))
end

