-- ==== Sys2Proof/Laws/State.lean ====
section
/-! SUPPORT. One lemma per field per update of the state: what an update does not write reads as before, what it writes reads
as written. -/

namespace Sys2Proof.Machine

/-! ### Bus cycles -/

/-- `t` differs from `s` in memory, the bus and the record of the processor extension at most. -/
def OnBus (s t : State) : Prop := t = { s with mem := t.mem, bus := t.bus, escLog := t.escLog }

theorem OnBus.refl (s : State) : OnBus s s := rfl

theorem OnBus.trans {s t u : State} (h : OnBus s t) (k : OnBus t u) : OnBus s u := by
  unfold OnBus at *
  rw [k, h]

theorem OnBus.gpr {s t : State} (h : OnBus s t) : t.gpr = s.gpr := (congrArg State.gpr h :)
theorem OnBus.ip {s t : State} (h : OnBus s t) : t.ip = s.ip := (congrArg State.ip h :)
theorem OnBus.flags {s t : State} (h : OnBus s t) : t.flags = s.flags := (congrArg State.flags h :)
theorem OnBus.msw {s t : State} (h : OnBus s t) : t.msw = s.msw := (congrArg State.msw h :)
theorem OnBus.es {s t : State} (h : OnBus s t) : t.es = s.es := (congrArg State.es h :)
theorem OnBus.cs {s t : State} (h : OnBus s t) : t.cs = s.cs := (congrArg State.cs h :)
theorem OnBus.ss {s t : State} (h : OnBus s t) : t.ss = s.ss := (congrArg State.ss h :)
theorem OnBus.ds {s t : State} (h : OnBus s t) : t.ds = s.ds := (congrArg State.ds h :)
theorem OnBus.gdtr {s t : State} (h : OnBus s t) : t.gdtr = s.gdtr := (congrArg State.gdtr h :)
theorem OnBus.idtr {s t : State} (h : OnBus s t) : t.idtr = s.idtr := (congrArg State.idtr h :)
theorem OnBus.ldtr {s t : State} (h : OnBus s t) : t.ldtr = s.ldtr := (congrArg State.ldtr h :)
theorem OnBus.tr {s t : State} (h : OnBus s t) : t.tr = s.tr := (congrArg State.tr h :)
theorem OnBus.run {s t : State} (h : OnBus s t) : t.run = s.run := (congrArg State.run h :)
theorem OnBus.nmiMasked {s t : State} (h : OnBus s t) : t.nmiMasked = s.nmiMasked := (congrArg State.nmiMasked h :)
theorem OnBus.nmiPending {s t : State} (h : OnBus s t) : t.nmiPending = s.nmiPending := (congrArg State.nmiPending h :)
theorem OnBus.inhibitNext {s t : State} (h : OnBus s t) : t.inhibitNext = s.inhibitNext := (congrArg State.inhibitNext h :)
theorem OnBus.tfAtStart {s t : State} (h : OnBus s t) : t.tfAtStart = s.tfAtStart := (congrArg State.tfAtStart h :)
theorem OnBus.int9Pending {s t : State} (h : OnBus s t) : t.int9Pending = s.int9Pending := (congrArg State.int9Pending h :)
theorem OnBus.portFeed {s t : State} (h : OnBus s t) : t.portFeed = s.portFeed := (congrArg State.portFeed h :)
theorem OnBus.portLog {s t : State} (h : OnBus s t) : t.portLog = s.portLog := (congrArg State.portLog h :)
theorem OnBus.npxReplies {s t : State} (h : OnBus s t) : t.npxReplies = s.npxReplies := (congrArg State.npxReplies h :)
theorem OnBus.pins {s t : State} (h : OnBus s t) : t.pins = s.pins := (congrArg State.pins h :)
theorem OnBus.inputs {s t : State} (h : OnBus s t) : t.inputs = s.inputs := (congrArg State.inputs h :)
theorem OnBus.platform {s t : State} (h : OnBus s t) : t.platform = s.platform := (congrArg State.platform h :)
theorem OnBus.pfx {s t : State} (h : OnBus s t) : t.pfx = s.pfx := (congrArg State.pfx h :)
theorem OnBus.nextIp {s t : State} (h : OnBus s t) : t.nextIp = s.nextIp := (congrArg State.nextIp h :)
theorem OnBus.lmsw {s t : State} (h : OnBus s t) : t.lmsw = s.lmsw := (congrArg State.lmsw h :)
theorem OnBus.hazardLmswNoJmp {s t : State} (h : OnBus s t) : t.hazardLmswNoJmp = s.hazardLmswNoJmp := (congrArg State.hazardLmswNoJmp h :)
theorem OnBus.hazardStaleCode {s t : State} (h : OnBus s t) : t.hazardStaleCode = s.hazardStaleCode := (congrArg State.hazardStaleCode h :)
theorem OnBus.storedSince {s t : State} (h : OnBus s t) : t.storedSince = s.storedSince := (congrArg State.storedSince h :)
theorem OnBus.queueFlushed {s t : State} (h : OnBus s t) : t.queueFlushed = s.queueFlushed := (congrArg State.queueFlushed h :)
theorem OnBus.stiShadow {s t : State} (h : OnBus s t) : t.stiShadow = s.stiShadow := (congrArg State.stiShadow h :)
theorem OnBus.freeCtr {s t : State} (h : OnBus s t) : t.freeCtr = s.freeCtr := (congrArg State.freeCtr h :)

/-- A store changes memory and what devices record only. -/
theorem State.store_rest (s : State) (a : Nat) (v : Byte) :
    s.store a v = { s with mem := (s.store a v).mem, bus := (s.store a v).bus } := by
  unfold State.store
  split <;> (try split) <;> rfl

/-- A read changes what devices answer and record only. -/
theorem State.load_rest (s : State) (a : Nat) : (s.load a).2 = { s with bus := (s.load a).2.bus } := by
  unfold State.load State.deviceRead
  split <;> (try split) <;> (try split) <;> rfl

theorem State.store_onBus (s : State) (a : Nat) (v : Byte) : OnBus s (s.store a v) := by
  unfold OnBus State.store
  split <;> (try split) <;> rfl

theorem State.load_onBus (s : State) (a : Nat) : OnBus s (s.load a).2 := by
  unfold OnBus State.load State.deviceRead
  split <;> (try split) <;> (try split) <;> rfl

theorem State.act_onBus (s : State) (x : BusAct) : OnBus s (s.act x) := by
  cases x with
  | place a v => unfold OnBus State.act State.placed; dsimp only; split <;> rfl
  | npxRead a => exact ((State.load_onBus _ _).trans (State.load_onBus _ _)).trans rfl
  | npxWrite a v => exact (State.store_onBus _ _ _).trans (State.store_onBus _ _ _)

theorem actAll_onBus (s : State) (xs : List BusAct) : OnBus s (actAll s xs) := by
  induction xs generalizing s with
  | nil => rfl
  | cons x xs ih => exact (State.act_onBus s x).trans (ih _)

theorem State.visitors_onBus (s : State) : OnBus s s.visitors := by
  unfold State.visitors
  split
  · split
    · rfl
    · exact OnBus.trans (t := { s with bus := _ }) rfl (actAll_onBus _ _)
  · rfl

theorem State.release_onBus (s : State) : OnBus s s.release := by
  unfold State.release
  split
  · rfl
  · exact OnBus.trans (t := { s with bus := _ }) rfl (actAll_onBus _ _)

theorem State.resetNow_onBus (s : State) : OnBus s s.resetNow := s.release_onBus.trans rfl

theorem State.cycle_onBus (s : State) : OnBus s s.cycle := by
  unfold State.cycle
  split
  · rfl
  · exact s.resetNow_onBus
  · rfl
  · rfl

theorem State.others_onBus (s : State) : OnBus s s.others := s.visitors_onBus.trans (State.cycle_onBus _)

theorem State.gap_onBus (s : State) (a : Nat) : OnBus s (s.gap a) := by
  unfold State.gap
  split
  · exact s.others_onBus
  · rfl

theorem State.hear_onBus (s : State) (xs : List BusAct) : OnBus s (s.hear xs) := by
  unfold State.hear
  split
  · exact actAll_onBus s xs
  · rfl

theorem State.loadWord_onBus (s : State) (a b : Nat) : OnBus s (s.loadWord a b).2 :=
  ((s.others_onBus.trans (State.load_onBus _ _)).trans (State.gap_onBus _ _)).trans (State.load_onBus _ _)

theorem State.storeWord_onBus (s : State) (a b : Nat) (v : Word) : OnBus s (s.storeWord a b v) :=
  ((s.others_onBus.trans (State.store_onBus _ _ _)).trans (State.gap_onBus _ _)).trans (State.store_onBus _ _ _)

theorem State.fetch16_onBus (s : State) (a : Addr) (k : Nat) : OnBus s (s.fetch16 a k).2 :=
  s.others_onBus.trans (State.gap_onBus _ _)

theorem readWords_onBus (s : State) (a : Addr) (k n : Nat) : OnBus s (readWords s a k n).2 := by
  induction n generalizing s k with
  | zero => rfl
  | succ n ih => exact (State.fetch16_onBus s a k).trans (ih _ _)

theorem State.segGet8_onBus (s : State) (r : SegReg) (off : Word) (k : Nat) : OnBus s (s.segGet8 r off k).2 :=
  s.others_onBus.trans (State.load_onBus _ _)

theorem State.segGet16_onBus (s : State) (r : SegReg) (off : Word) : OnBus s (s.segGet16 r off).2 := s.loadWord_onBus _ _

theorem State.stackGet_onBus (s : State) (k : Nat) : OnBus s (s.stackGet k).2 := s.loadWord_onBus _ _

theorem State.vectorWord_onBus (s : State) (k : Nat) : OnBus s (s.vectorWord k).2 := s.loadWord_onBus _ _

theorem State.segPut8_onBus (s : State) (r : SegReg) (off : Word) (k : Nat) (v : Byte) : OnBus s (s.segPut8 r off k v) :=
  s.others_onBus.trans (State.store_onBus _ _ _)

theorem State.segPut16_onBus (s : State) (r : SegReg) (off v : Word) : OnBus s (s.segPut16 r off v) := s.storeWord_onBus _ _ _

theorem State.poke8_onBus (s : State) (a : Addr) (k : Nat) (v : Byte) : OnBus s (s.poke8 a k v) := State.store_onBus _ _ _

theorem State.poke16_onBus (s : State) (a : Addr) (k : Nat) (v : Word) : OnBus s (s.poke16 a k v) := s.storeWord_onBus _ _ _

theorem State.setAccessed_onBus (s : State) (d : Desc) : OnBus s (s.setAccessed d) :=
  s.others_onBus.trans (State.store_onBus _ _ _)

theorem Trap.over_onBus (t : Trap) (s : State) : OnBus s (t.over s) := by
  unfold Trap.over
  split
  · rfl
  · exact (actAll_onBus _ _).trans rfl

/-! ### `State.store`: a bus cycle leaves the processor as it was -/

@[simp] theorem State.store_gpr (s : State) (a : Nat) (v : Byte) : (s.store a v).gpr = s.gpr := (State.store_onBus s _ _).gpr
@[simp] theorem State.store_ip (s : State) (a : Nat) (v : Byte) : (s.store a v).ip = s.ip := (State.store_onBus s _ _).ip
@[simp] theorem State.store_flags (s : State) (a : Nat) (v : Byte) : (s.store a v).flags = s.flags :=
  (State.store_onBus s _ _).flags
@[simp] theorem State.store_msw (s : State) (a : Nat) (v : Byte) : (s.store a v).msw = s.msw := (State.store_onBus s _ _).msw
@[simp] theorem State.store_es (s : State) (a : Nat) (v : Byte) : (s.store a v).es = s.es := (State.store_onBus s _ _).es
@[simp] theorem State.store_cs (s : State) (a : Nat) (v : Byte) : (s.store a v).cs = s.cs := (State.store_onBus s _ _).cs
@[simp] theorem State.store_ss (s : State) (a : Nat) (v : Byte) : (s.store a v).ss = s.ss := (State.store_onBus s _ _).ss
@[simp] theorem State.store_ds (s : State) (a : Nat) (v : Byte) : (s.store a v).ds = s.ds := (State.store_onBus s _ _).ds
@[simp] theorem State.store_gdtr (s : State) (a : Nat) (v : Byte) : (s.store a v).gdtr = s.gdtr :=
  (State.store_onBus s _ _).gdtr
@[simp] theorem State.store_idtr (s : State) (a : Nat) (v : Byte) : (s.store a v).idtr = s.idtr :=
  (State.store_onBus s _ _).idtr
@[simp] theorem State.store_ldtr (s : State) (a : Nat) (v : Byte) : (s.store a v).ldtr = s.ldtr :=
  (State.store_onBus s _ _).ldtr
@[simp] theorem State.store_tr (s : State) (a : Nat) (v : Byte) : (s.store a v).tr = s.tr := (State.store_onBus s _ _).tr
@[simp] theorem State.store_run (s : State) (a : Nat) (v : Byte) : (s.store a v).run = s.run := (State.store_onBus s _ _).run
@[simp] theorem State.store_nmiMasked (s : State) (a : Nat) (v : Byte) : (s.store a v).nmiMasked = s.nmiMasked :=
  (State.store_onBus s _ _).nmiMasked
@[simp] theorem State.store_nmiPending (s : State) (a : Nat) (v : Byte) : (s.store a v).nmiPending = s.nmiPending :=
  (State.store_onBus s _ _).nmiPending
@[simp] theorem State.store_inhibitNext (s : State) (a : Nat) (v : Byte) : (s.store a v).inhibitNext = s.inhibitNext :=
  (State.store_onBus s _ _).inhibitNext
@[simp] theorem State.store_tfAtStart (s : State) (a : Nat) (v : Byte) : (s.store a v).tfAtStart = s.tfAtStart :=
  (State.store_onBus s _ _).tfAtStart
@[simp] theorem State.store_int9Pending (s : State) (a : Nat) (v : Byte) : (s.store a v).int9Pending = s.int9Pending :=
  (State.store_onBus s _ _).int9Pending
@[simp] theorem State.store_portFeed (s : State) (a : Nat) (v : Byte) : (s.store a v).portFeed = s.portFeed :=
  (State.store_onBus s _ _).portFeed
@[simp] theorem State.store_portLog (s : State) (a : Nat) (v : Byte) : (s.store a v).portLog = s.portLog :=
  (State.store_onBus s _ _).portLog
@[simp] theorem State.store_escLog (s : State) (a : Nat) (v : Byte) : (s.store a v).escLog = s.escLog :=
  (congrArg State.escLog (State.store_rest s a v) :)
@[simp] theorem State.store_npxReplies (s : State) (a : Nat) (v : Byte) : (s.store a v).npxReplies = s.npxReplies :=
  (State.store_onBus s _ _).npxReplies
@[simp] theorem State.store_pins (s : State) (a : Nat) (v : Byte) : (s.store a v).pins = s.pins :=
  (State.store_onBus s _ _).pins
@[simp] theorem State.store_inputs (s : State) (a : Nat) (v : Byte) : (s.store a v).inputs = s.inputs :=
  (State.store_onBus s _ _).inputs
@[simp] theorem State.store_platform (s : State) (a : Nat) (v : Byte) : (s.store a v).platform = s.platform :=
  (State.store_onBus s _ _).platform
@[simp] theorem State.store_pfx (s : State) (a : Nat) (v : Byte) : (s.store a v).pfx = s.pfx := (State.store_onBus s _ _).pfx
@[simp] theorem State.store_nextIp (s : State) (a : Nat) (v : Byte) : (s.store a v).nextIp = s.nextIp :=
  (State.store_onBus s _ _).nextIp
@[simp] theorem State.store_lmsw (s : State) (a : Nat) (v : Byte) : (s.store a v).lmsw = s.lmsw :=
  (State.store_onBus s _ _).lmsw
@[simp] theorem State.store_hazardLmswNoJmp (s : State) (a : Nat) (v : Byte) : (s.store a v).hazardLmswNoJmp = s.hazardLmswNoJmp :=
  (State.store_onBus s _ _).hazardLmswNoJmp
@[simp] theorem State.store_hazardStaleCode (s : State) (a : Nat) (v : Byte) : (s.store a v).hazardStaleCode = s.hazardStaleCode :=
  (State.store_onBus s _ _).hazardStaleCode
@[simp] theorem State.store_storedSince (s : State) (a : Nat) (v : Byte) : (s.store a v).storedSince = s.storedSince :=
  (State.store_onBus s _ _).storedSince
@[simp] theorem State.store_queueFlushed (s : State) (a : Nat) (v : Byte) : (s.store a v).queueFlushed = s.queueFlushed :=
  (State.store_onBus s _ _).queueFlushed
@[simp] theorem State.store_stiShadow (s : State) (a : Nat) (v : Byte) : (s.store a v).stiShadow = s.stiShadow :=
  (State.store_onBus s _ _).stiShadow
@[simp] theorem State.store_freeCtr (s : State) (a : Nat) (v : Byte) : (s.store a v).freeCtr = s.freeCtr :=
  (State.store_onBus s _ _).freeCtr

/-! ### `State.load`: a bus cycle leaves the processor as it was -/

@[simp] theorem State.load_gpr (s : State) (a : Nat) : (s.load a).2.gpr = s.gpr := (State.load_onBus s _).gpr
@[simp] theorem State.load_ip (s : State) (a : Nat) : (s.load a).2.ip = s.ip := (State.load_onBus s _).ip
@[simp] theorem State.load_flags (s : State) (a : Nat) : (s.load a).2.flags = s.flags := (State.load_onBus s _).flags
@[simp] theorem State.load_msw (s : State) (a : Nat) : (s.load a).2.msw = s.msw := (State.load_onBus s _).msw
@[simp] theorem State.load_es (s : State) (a : Nat) : (s.load a).2.es = s.es := (State.load_onBus s _).es
@[simp] theorem State.load_cs (s : State) (a : Nat) : (s.load a).2.cs = s.cs := (State.load_onBus s _).cs
@[simp] theorem State.load_ss (s : State) (a : Nat) : (s.load a).2.ss = s.ss := (State.load_onBus s _).ss
@[simp] theorem State.load_ds (s : State) (a : Nat) : (s.load a).2.ds = s.ds := (State.load_onBus s _).ds
@[simp] theorem State.load_gdtr (s : State) (a : Nat) : (s.load a).2.gdtr = s.gdtr := (State.load_onBus s _).gdtr
@[simp] theorem State.load_idtr (s : State) (a : Nat) : (s.load a).2.idtr = s.idtr := (State.load_onBus s _).idtr
@[simp] theorem State.load_ldtr (s : State) (a : Nat) : (s.load a).2.ldtr = s.ldtr := (State.load_onBus s _).ldtr
@[simp] theorem State.load_tr (s : State) (a : Nat) : (s.load a).2.tr = s.tr := (State.load_onBus s _).tr
@[simp] theorem State.load_run (s : State) (a : Nat) : (s.load a).2.run = s.run := (State.load_onBus s _).run
@[simp] theorem State.load_nmiMasked (s : State) (a : Nat) : (s.load a).2.nmiMasked = s.nmiMasked :=
  (State.load_onBus s _).nmiMasked
@[simp] theorem State.load_nmiPending (s : State) (a : Nat) : (s.load a).2.nmiPending = s.nmiPending :=
  (State.load_onBus s _).nmiPending
@[simp] theorem State.load_inhibitNext (s : State) (a : Nat) : (s.load a).2.inhibitNext = s.inhibitNext :=
  (State.load_onBus s _).inhibitNext
@[simp] theorem State.load_tfAtStart (s : State) (a : Nat) : (s.load a).2.tfAtStart = s.tfAtStart :=
  (State.load_onBus s _).tfAtStart
@[simp] theorem State.load_int9Pending (s : State) (a : Nat) : (s.load a).2.int9Pending = s.int9Pending :=
  (State.load_onBus s _).int9Pending
@[simp] theorem State.load_mem (s : State) (a : Nat) : (s.load a).2.mem = s.mem :=
  (congrArg State.mem (State.load_rest s a) :)
@[simp] theorem State.load_portFeed (s : State) (a : Nat) : (s.load a).2.portFeed = s.portFeed :=
  (State.load_onBus s _).portFeed
@[simp] theorem State.load_portLog (s : State) (a : Nat) : (s.load a).2.portLog = s.portLog := (State.load_onBus s _).portLog
@[simp] theorem State.load_escLog (s : State) (a : Nat) : (s.load a).2.escLog = s.escLog :=
  (congrArg State.escLog (State.load_rest s a) :)
@[simp] theorem State.load_npxReplies (s : State) (a : Nat) : (s.load a).2.npxReplies = s.npxReplies :=
  (State.load_onBus s _).npxReplies
@[simp] theorem State.load_pins (s : State) (a : Nat) : (s.load a).2.pins = s.pins := (State.load_onBus s _).pins
@[simp] theorem State.load_inputs (s : State) (a : Nat) : (s.load a).2.inputs = s.inputs := (State.load_onBus s _).inputs
@[simp] theorem State.load_platform (s : State) (a : Nat) : (s.load a).2.platform = s.platform :=
  (State.load_onBus s _).platform
@[simp] theorem State.load_pfx (s : State) (a : Nat) : (s.load a).2.pfx = s.pfx := (State.load_onBus s _).pfx
@[simp] theorem State.load_nextIp (s : State) (a : Nat) : (s.load a).2.nextIp = s.nextIp := (State.load_onBus s _).nextIp
@[simp] theorem State.load_lmsw (s : State) (a : Nat) : (s.load a).2.lmsw = s.lmsw := (State.load_onBus s _).lmsw
@[simp] theorem State.load_hazardLmswNoJmp (s : State) (a : Nat) : (s.load a).2.hazardLmswNoJmp = s.hazardLmswNoJmp :=
  (State.load_onBus s _).hazardLmswNoJmp
@[simp] theorem State.load_hazardStaleCode (s : State) (a : Nat) : (s.load a).2.hazardStaleCode = s.hazardStaleCode :=
  (State.load_onBus s _).hazardStaleCode
@[simp] theorem State.load_storedSince (s : State) (a : Nat) : (s.load a).2.storedSince = s.storedSince :=
  (State.load_onBus s _).storedSince
@[simp] theorem State.load_queueFlushed (s : State) (a : Nat) : (s.load a).2.queueFlushed = s.queueFlushed :=
  (State.load_onBus s _).queueFlushed
@[simp] theorem State.load_stiShadow (s : State) (a : Nat) : (s.load a).2.stiShadow = s.stiShadow :=
  (State.load_onBus s _).stiShadow
@[simp] theorem State.load_freeCtr (s : State) (a : Nat) : (s.load a).2.freeCtr = s.freeCtr := (State.load_onBus s _).freeCtr

/-! ### `State.resetNow`: a bus cycle leaves the processor as it was -/

@[simp] theorem State.resetNow_gpr (s : State) : s.resetNow.gpr = s.gpr := (State.resetNow_onBus s).gpr
@[simp] theorem State.resetNow_ip (s : State) : s.resetNow.ip = s.ip := (State.resetNow_onBus s).ip
@[simp] theorem State.resetNow_flags (s : State) : s.resetNow.flags = s.flags := (State.resetNow_onBus s).flags
@[simp] theorem State.resetNow_msw (s : State) : s.resetNow.msw = s.msw := (State.resetNow_onBus s).msw
@[simp] theorem State.resetNow_es (s : State) : s.resetNow.es = s.es := (State.resetNow_onBus s).es
@[simp] theorem State.resetNow_cs (s : State) : s.resetNow.cs = s.cs := (State.resetNow_onBus s).cs
@[simp] theorem State.resetNow_ss (s : State) : s.resetNow.ss = s.ss := (State.resetNow_onBus s).ss
@[simp] theorem State.resetNow_ds (s : State) : s.resetNow.ds = s.ds := (State.resetNow_onBus s).ds
@[simp] theorem State.resetNow_gdtr (s : State) : s.resetNow.gdtr = s.gdtr := (State.resetNow_onBus s).gdtr
@[simp] theorem State.resetNow_idtr (s : State) : s.resetNow.idtr = s.idtr := (State.resetNow_onBus s).idtr
@[simp] theorem State.resetNow_ldtr (s : State) : s.resetNow.ldtr = s.ldtr := (State.resetNow_onBus s).ldtr
@[simp] theorem State.resetNow_tr (s : State) : s.resetNow.tr = s.tr := (State.resetNow_onBus s).tr
@[simp] theorem State.resetNow_run (s : State) : s.resetNow.run = s.run := (State.resetNow_onBus s).run
@[simp] theorem State.resetNow_nmiMasked (s : State) : s.resetNow.nmiMasked = s.nmiMasked :=
  (State.resetNow_onBus s).nmiMasked
@[simp] theorem State.resetNow_nmiPending (s : State) : s.resetNow.nmiPending = s.nmiPending :=
  (State.resetNow_onBus s).nmiPending
@[simp] theorem State.resetNow_inhibitNext (s : State) : s.resetNow.inhibitNext = s.inhibitNext :=
  (State.resetNow_onBus s).inhibitNext
@[simp] theorem State.resetNow_tfAtStart (s : State) : s.resetNow.tfAtStart = s.tfAtStart :=
  (State.resetNow_onBus s).tfAtStart
@[simp] theorem State.resetNow_int9Pending (s : State) : s.resetNow.int9Pending = s.int9Pending :=
  (State.resetNow_onBus s).int9Pending
@[simp] theorem State.resetNow_portFeed (s : State) : s.resetNow.portFeed = s.portFeed := (State.resetNow_onBus s).portFeed
@[simp] theorem State.resetNow_portLog (s : State) : s.resetNow.portLog = s.portLog := (State.resetNow_onBus s).portLog
@[simp] theorem State.resetNow_npxReplies (s : State) : s.resetNow.npxReplies = s.npxReplies :=
  (State.resetNow_onBus s).npxReplies
@[simp] theorem State.resetNow_pins (s : State) : s.resetNow.pins = s.pins := (State.resetNow_onBus s).pins
@[simp] theorem State.resetNow_inputs (s : State) : s.resetNow.inputs = s.inputs := (State.resetNow_onBus s).inputs
@[simp] theorem State.resetNow_platform (s : State) : s.resetNow.platform = s.platform := (State.resetNow_onBus s).platform
@[simp] theorem State.resetNow_pfx (s : State) : s.resetNow.pfx = s.pfx := (State.resetNow_onBus s).pfx
@[simp] theorem State.resetNow_nextIp (s : State) : s.resetNow.nextIp = s.nextIp := (State.resetNow_onBus s).nextIp
@[simp] theorem State.resetNow_lmsw (s : State) : s.resetNow.lmsw = s.lmsw := (State.resetNow_onBus s).lmsw
@[simp] theorem State.resetNow_hazardLmswNoJmp (s : State) : s.resetNow.hazardLmswNoJmp = s.hazardLmswNoJmp :=
  (State.resetNow_onBus s).hazardLmswNoJmp
@[simp] theorem State.resetNow_hazardStaleCode (s : State) : s.resetNow.hazardStaleCode = s.hazardStaleCode :=
  (State.resetNow_onBus s).hazardStaleCode
@[simp] theorem State.resetNow_storedSince (s : State) : s.resetNow.storedSince = s.storedSince :=
  (State.resetNow_onBus s).storedSince
@[simp] theorem State.resetNow_queueFlushed (s : State) : s.resetNow.queueFlushed = s.queueFlushed :=
  (State.resetNow_onBus s).queueFlushed
@[simp] theorem State.resetNow_stiShadow (s : State) : s.resetNow.stiShadow = s.stiShadow :=
  (State.resetNow_onBus s).stiShadow
@[simp] theorem State.resetNow_freeCtr (s : State) : s.resetNow.freeCtr = s.freeCtr := (State.resetNow_onBus s).freeCtr

/-! ### `State.cycle`: a bus cycle leaves the processor as it was -/

@[simp] theorem State.cycle_gpr (s : State) : s.cycle.gpr = s.gpr := (State.cycle_onBus s).gpr
@[simp] theorem State.cycle_ip (s : State) : s.cycle.ip = s.ip := (State.cycle_onBus s).ip
@[simp] theorem State.cycle_flags (s : State) : s.cycle.flags = s.flags := (State.cycle_onBus s).flags
@[simp] theorem State.cycle_msw (s : State) : s.cycle.msw = s.msw := (State.cycle_onBus s).msw
@[simp] theorem State.cycle_es (s : State) : s.cycle.es = s.es := (State.cycle_onBus s).es
@[simp] theorem State.cycle_cs (s : State) : s.cycle.cs = s.cs := (State.cycle_onBus s).cs
@[simp] theorem State.cycle_ss (s : State) : s.cycle.ss = s.ss := (State.cycle_onBus s).ss
@[simp] theorem State.cycle_ds (s : State) : s.cycle.ds = s.ds := (State.cycle_onBus s).ds
@[simp] theorem State.cycle_gdtr (s : State) : s.cycle.gdtr = s.gdtr := (State.cycle_onBus s).gdtr
@[simp] theorem State.cycle_idtr (s : State) : s.cycle.idtr = s.idtr := (State.cycle_onBus s).idtr
@[simp] theorem State.cycle_ldtr (s : State) : s.cycle.ldtr = s.ldtr := (State.cycle_onBus s).ldtr
@[simp] theorem State.cycle_tr (s : State) : s.cycle.tr = s.tr := (State.cycle_onBus s).tr
@[simp] theorem State.cycle_run (s : State) : s.cycle.run = s.run := (State.cycle_onBus s).run
@[simp] theorem State.cycle_nmiMasked (s : State) : s.cycle.nmiMasked = s.nmiMasked := (State.cycle_onBus s).nmiMasked
@[simp] theorem State.cycle_nmiPending (s : State) : s.cycle.nmiPending = s.nmiPending := (State.cycle_onBus s).nmiPending
@[simp] theorem State.cycle_inhibitNext (s : State) : s.cycle.inhibitNext = s.inhibitNext :=
  (State.cycle_onBus s).inhibitNext
@[simp] theorem State.cycle_tfAtStart (s : State) : s.cycle.tfAtStart = s.tfAtStart := (State.cycle_onBus s).tfAtStart
@[simp] theorem State.cycle_int9Pending (s : State) : s.cycle.int9Pending = s.int9Pending :=
  (State.cycle_onBus s).int9Pending
@[simp] theorem State.cycle_portFeed (s : State) : s.cycle.portFeed = s.portFeed := (State.cycle_onBus s).portFeed
@[simp] theorem State.cycle_portLog (s : State) : s.cycle.portLog = s.portLog := (State.cycle_onBus s).portLog
@[simp] theorem State.cycle_npxReplies (s : State) : s.cycle.npxReplies = s.npxReplies := (State.cycle_onBus s).npxReplies
@[simp] theorem State.cycle_pins (s : State) : s.cycle.pins = s.pins := (State.cycle_onBus s).pins
@[simp] theorem State.cycle_inputs (s : State) : s.cycle.inputs = s.inputs := (State.cycle_onBus s).inputs
@[simp] theorem State.cycle_platform (s : State) : s.cycle.platform = s.platform := (State.cycle_onBus s).platform
@[simp] theorem State.cycle_pfx (s : State) : s.cycle.pfx = s.pfx := (State.cycle_onBus s).pfx
@[simp] theorem State.cycle_nextIp (s : State) : s.cycle.nextIp = s.nextIp := (State.cycle_onBus s).nextIp
@[simp] theorem State.cycle_lmsw (s : State) : s.cycle.lmsw = s.lmsw := (State.cycle_onBus s).lmsw
@[simp] theorem State.cycle_hazardLmswNoJmp (s : State) : s.cycle.hazardLmswNoJmp = s.hazardLmswNoJmp :=
  (State.cycle_onBus s).hazardLmswNoJmp
@[simp] theorem State.cycle_hazardStaleCode (s : State) : s.cycle.hazardStaleCode = s.hazardStaleCode :=
  (State.cycle_onBus s).hazardStaleCode
@[simp] theorem State.cycle_storedSince (s : State) : s.cycle.storedSince = s.storedSince :=
  (State.cycle_onBus s).storedSince
@[simp] theorem State.cycle_queueFlushed (s : State) : s.cycle.queueFlushed = s.queueFlushed :=
  (State.cycle_onBus s).queueFlushed
@[simp] theorem State.cycle_stiShadow (s : State) : s.cycle.stiShadow = s.stiShadow := (State.cycle_onBus s).stiShadow
@[simp] theorem State.cycle_freeCtr (s : State) : s.cycle.freeCtr = s.freeCtr := (State.cycle_onBus s).freeCtr

/-! ### `State.others`: a bus cycle leaves the processor as it was -/

@[simp] theorem State.others_gpr (s : State) : s.others.gpr = s.gpr := (State.others_onBus s).gpr
@[simp] theorem State.others_ip (s : State) : s.others.ip = s.ip := (State.others_onBus s).ip
@[simp] theorem State.others_flags (s : State) : s.others.flags = s.flags := (State.others_onBus s).flags
@[simp] theorem State.others_msw (s : State) : s.others.msw = s.msw := (State.others_onBus s).msw
@[simp] theorem State.others_es (s : State) : s.others.es = s.es := (State.others_onBus s).es
@[simp] theorem State.others_cs (s : State) : s.others.cs = s.cs := (State.others_onBus s).cs
@[simp] theorem State.others_ss (s : State) : s.others.ss = s.ss := (State.others_onBus s).ss
@[simp] theorem State.others_ds (s : State) : s.others.ds = s.ds := (State.others_onBus s).ds
@[simp] theorem State.others_gdtr (s : State) : s.others.gdtr = s.gdtr := (State.others_onBus s).gdtr
@[simp] theorem State.others_idtr (s : State) : s.others.idtr = s.idtr := (State.others_onBus s).idtr
@[simp] theorem State.others_ldtr (s : State) : s.others.ldtr = s.ldtr := (State.others_onBus s).ldtr
@[simp] theorem State.others_tr (s : State) : s.others.tr = s.tr := (State.others_onBus s).tr
@[simp] theorem State.others_run (s : State) : s.others.run = s.run := (State.others_onBus s).run
@[simp] theorem State.others_nmiMasked (s : State) : s.others.nmiMasked = s.nmiMasked := (State.others_onBus s).nmiMasked
@[simp] theorem State.others_nmiPending (s : State) : s.others.nmiPending = s.nmiPending := (State.others_onBus s).nmiPending
@[simp] theorem State.others_inhibitNext (s : State) : s.others.inhibitNext = s.inhibitNext :=
  (State.others_onBus s).inhibitNext
@[simp] theorem State.others_tfAtStart (s : State) : s.others.tfAtStart = s.tfAtStart := (State.others_onBus s).tfAtStart
@[simp] theorem State.others_int9Pending (s : State) : s.others.int9Pending = s.int9Pending :=
  (State.others_onBus s).int9Pending
@[simp] theorem State.others_portFeed (s : State) : s.others.portFeed = s.portFeed := (State.others_onBus s).portFeed
@[simp] theorem State.others_portLog (s : State) : s.others.portLog = s.portLog := (State.others_onBus s).portLog
@[simp] theorem State.others_npxReplies (s : State) : s.others.npxReplies = s.npxReplies := (State.others_onBus s).npxReplies
@[simp] theorem State.others_pins (s : State) : s.others.pins = s.pins := (State.others_onBus s).pins
@[simp] theorem State.others_inputs (s : State) : s.others.inputs = s.inputs := (State.others_onBus s).inputs
@[simp] theorem State.others_platform (s : State) : s.others.platform = s.platform := (State.others_onBus s).platform
@[simp] theorem State.others_pfx (s : State) : s.others.pfx = s.pfx := (State.others_onBus s).pfx
@[simp] theorem State.others_nextIp (s : State) : s.others.nextIp = s.nextIp := (State.others_onBus s).nextIp
@[simp] theorem State.others_lmsw (s : State) : s.others.lmsw = s.lmsw := (State.others_onBus s).lmsw
@[simp] theorem State.others_hazardLmswNoJmp (s : State) : s.others.hazardLmswNoJmp = s.hazardLmswNoJmp :=
  (State.others_onBus s).hazardLmswNoJmp
@[simp] theorem State.others_hazardStaleCode (s : State) : s.others.hazardStaleCode = s.hazardStaleCode :=
  (State.others_onBus s).hazardStaleCode
@[simp] theorem State.others_storedSince (s : State) : s.others.storedSince = s.storedSince :=
  (State.others_onBus s).storedSince
@[simp] theorem State.others_queueFlushed (s : State) : s.others.queueFlushed = s.queueFlushed :=
  (State.others_onBus s).queueFlushed
@[simp] theorem State.others_stiShadow (s : State) : s.others.stiShadow = s.stiShadow := (State.others_onBus s).stiShadow
@[simp] theorem State.others_freeCtr (s : State) : s.others.freeCtr = s.freeCtr := (State.others_onBus s).freeCtr

/-! ### `State.gap`: a bus cycle leaves the processor as it was -/

@[simp] theorem State.gap_gpr (s : State) (a : Nat) : (s.gap a).gpr = s.gpr := (State.gap_onBus s _).gpr
@[simp] theorem State.gap_ip (s : State) (a : Nat) : (s.gap a).ip = s.ip := (State.gap_onBus s _).ip
@[simp] theorem State.gap_flags (s : State) (a : Nat) : (s.gap a).flags = s.flags := (State.gap_onBus s _).flags
@[simp] theorem State.gap_msw (s : State) (a : Nat) : (s.gap a).msw = s.msw := (State.gap_onBus s _).msw
@[simp] theorem State.gap_es (s : State) (a : Nat) : (s.gap a).es = s.es := (State.gap_onBus s _).es
@[simp] theorem State.gap_cs (s : State) (a : Nat) : (s.gap a).cs = s.cs := (State.gap_onBus s _).cs
@[simp] theorem State.gap_ss (s : State) (a : Nat) : (s.gap a).ss = s.ss := (State.gap_onBus s _).ss
@[simp] theorem State.gap_ds (s : State) (a : Nat) : (s.gap a).ds = s.ds := (State.gap_onBus s _).ds
@[simp] theorem State.gap_gdtr (s : State) (a : Nat) : (s.gap a).gdtr = s.gdtr := (State.gap_onBus s _).gdtr
@[simp] theorem State.gap_idtr (s : State) (a : Nat) : (s.gap a).idtr = s.idtr := (State.gap_onBus s _).idtr
@[simp] theorem State.gap_ldtr (s : State) (a : Nat) : (s.gap a).ldtr = s.ldtr := (State.gap_onBus s _).ldtr
@[simp] theorem State.gap_tr (s : State) (a : Nat) : (s.gap a).tr = s.tr := (State.gap_onBus s _).tr
@[simp] theorem State.gap_run (s : State) (a : Nat) : (s.gap a).run = s.run := (State.gap_onBus s _).run
@[simp] theorem State.gap_nmiMasked (s : State) (a : Nat) : (s.gap a).nmiMasked = s.nmiMasked :=
  (State.gap_onBus s _).nmiMasked
@[simp] theorem State.gap_nmiPending (s : State) (a : Nat) : (s.gap a).nmiPending = s.nmiPending :=
  (State.gap_onBus s _).nmiPending
@[simp] theorem State.gap_inhibitNext (s : State) (a : Nat) : (s.gap a).inhibitNext = s.inhibitNext :=
  (State.gap_onBus s _).inhibitNext
@[simp] theorem State.gap_tfAtStart (s : State) (a : Nat) : (s.gap a).tfAtStart = s.tfAtStart :=
  (State.gap_onBus s _).tfAtStart
@[simp] theorem State.gap_int9Pending (s : State) (a : Nat) : (s.gap a).int9Pending = s.int9Pending :=
  (State.gap_onBus s _).int9Pending
@[simp] theorem State.gap_portFeed (s : State) (a : Nat) : (s.gap a).portFeed = s.portFeed := (State.gap_onBus s _).portFeed
@[simp] theorem State.gap_portLog (s : State) (a : Nat) : (s.gap a).portLog = s.portLog := (State.gap_onBus s _).portLog
@[simp] theorem State.gap_npxReplies (s : State) (a : Nat) : (s.gap a).npxReplies = s.npxReplies :=
  (State.gap_onBus s _).npxReplies
@[simp] theorem State.gap_pins (s : State) (a : Nat) : (s.gap a).pins = s.pins := (State.gap_onBus s _).pins
@[simp] theorem State.gap_inputs (s : State) (a : Nat) : (s.gap a).inputs = s.inputs := (State.gap_onBus s _).inputs
@[simp] theorem State.gap_platform (s : State) (a : Nat) : (s.gap a).platform = s.platform := (State.gap_onBus s _).platform
@[simp] theorem State.gap_pfx (s : State) (a : Nat) : (s.gap a).pfx = s.pfx := (State.gap_onBus s _).pfx
@[simp] theorem State.gap_nextIp (s : State) (a : Nat) : (s.gap a).nextIp = s.nextIp := (State.gap_onBus s _).nextIp
@[simp] theorem State.gap_lmsw (s : State) (a : Nat) : (s.gap a).lmsw = s.lmsw := (State.gap_onBus s _).lmsw
@[simp] theorem State.gap_hazardLmswNoJmp (s : State) (a : Nat) : (s.gap a).hazardLmswNoJmp = s.hazardLmswNoJmp :=
  (State.gap_onBus s _).hazardLmswNoJmp
@[simp] theorem State.gap_hazardStaleCode (s : State) (a : Nat) : (s.gap a).hazardStaleCode = s.hazardStaleCode :=
  (State.gap_onBus s _).hazardStaleCode
@[simp] theorem State.gap_storedSince (s : State) (a : Nat) : (s.gap a).storedSince = s.storedSince :=
  (State.gap_onBus s _).storedSince
@[simp] theorem State.gap_queueFlushed (s : State) (a : Nat) : (s.gap a).queueFlushed = s.queueFlushed :=
  (State.gap_onBus s _).queueFlushed
@[simp] theorem State.gap_stiShadow (s : State) (a : Nat) : (s.gap a).stiShadow = s.stiShadow :=
  (State.gap_onBus s _).stiShadow
@[simp] theorem State.gap_freeCtr (s : State) (a : Nat) : (s.gap a).freeCtr = s.freeCtr := (State.gap_onBus s _).freeCtr

/-! ### `State.release`: a bus cycle leaves the processor as it was -/

@[simp] theorem State.release_gpr (s : State) : s.release.gpr = s.gpr := (State.release_onBus s).gpr
@[simp] theorem State.release_ip (s : State) : s.release.ip = s.ip := (State.release_onBus s).ip
@[simp] theorem State.release_flags (s : State) : s.release.flags = s.flags := (State.release_onBus s).flags
@[simp] theorem State.release_msw (s : State) : s.release.msw = s.msw := (State.release_onBus s).msw
@[simp] theorem State.release_es (s : State) : s.release.es = s.es := (State.release_onBus s).es
@[simp] theorem State.release_cs (s : State) : s.release.cs = s.cs := (State.release_onBus s).cs
@[simp] theorem State.release_ss (s : State) : s.release.ss = s.ss := (State.release_onBus s).ss
@[simp] theorem State.release_ds (s : State) : s.release.ds = s.ds := (State.release_onBus s).ds
@[simp] theorem State.release_gdtr (s : State) : s.release.gdtr = s.gdtr := (State.release_onBus s).gdtr
@[simp] theorem State.release_idtr (s : State) : s.release.idtr = s.idtr := (State.release_onBus s).idtr
@[simp] theorem State.release_ldtr (s : State) : s.release.ldtr = s.ldtr := (State.release_onBus s).ldtr
@[simp] theorem State.release_tr (s : State) : s.release.tr = s.tr := (State.release_onBus s).tr
@[simp] theorem State.release_run (s : State) : s.release.run = s.run := (State.release_onBus s).run
@[simp] theorem State.release_nmiMasked (s : State) : s.release.nmiMasked = s.nmiMasked := (State.release_onBus s).nmiMasked
@[simp] theorem State.release_nmiPending (s : State) : s.release.nmiPending = s.nmiPending :=
  (State.release_onBus s).nmiPending
@[simp] theorem State.release_inhibitNext (s : State) : s.release.inhibitNext = s.inhibitNext :=
  (State.release_onBus s).inhibitNext
@[simp] theorem State.release_tfAtStart (s : State) : s.release.tfAtStart = s.tfAtStart := (State.release_onBus s).tfAtStart
@[simp] theorem State.release_int9Pending (s : State) : s.release.int9Pending = s.int9Pending :=
  (State.release_onBus s).int9Pending
@[simp] theorem State.release_portFeed (s : State) : s.release.portFeed = s.portFeed := (State.release_onBus s).portFeed
@[simp] theorem State.release_portLog (s : State) : s.release.portLog = s.portLog := (State.release_onBus s).portLog
@[simp] theorem State.release_npxReplies (s : State) : s.release.npxReplies = s.npxReplies :=
  (State.release_onBus s).npxReplies
@[simp] theorem State.release_pins (s : State) : s.release.pins = s.pins := (State.release_onBus s).pins
@[simp] theorem State.release_inputs (s : State) : s.release.inputs = s.inputs := (State.release_onBus s).inputs
@[simp] theorem State.release_platform (s : State) : s.release.platform = s.platform := (State.release_onBus s).platform
@[simp] theorem State.release_pfx (s : State) : s.release.pfx = s.pfx := (State.release_onBus s).pfx
@[simp] theorem State.release_nextIp (s : State) : s.release.nextIp = s.nextIp := (State.release_onBus s).nextIp
@[simp] theorem State.release_lmsw (s : State) : s.release.lmsw = s.lmsw := (State.release_onBus s).lmsw
@[simp] theorem State.release_hazardLmswNoJmp (s : State) : s.release.hazardLmswNoJmp = s.hazardLmswNoJmp :=
  (State.release_onBus s).hazardLmswNoJmp
@[simp] theorem State.release_hazardStaleCode (s : State) : s.release.hazardStaleCode = s.hazardStaleCode :=
  (State.release_onBus s).hazardStaleCode
@[simp] theorem State.release_storedSince (s : State) : s.release.storedSince = s.storedSince :=
  (State.release_onBus s).storedSince
@[simp] theorem State.release_queueFlushed (s : State) : s.release.queueFlushed = s.queueFlushed :=
  (State.release_onBus s).queueFlushed
@[simp] theorem State.release_stiShadow (s : State) : s.release.stiShadow = s.stiShadow := (State.release_onBus s).stiShadow
@[simp] theorem State.release_freeCtr (s : State) : s.release.freeCtr = s.freeCtr := (State.release_onBus s).freeCtr

/-! ### `State.loadWord`: a bus cycle leaves the processor as it was -/

@[simp] theorem State.loadWord_gpr (s : State) (a b : Nat) : (s.loadWord a b).2.gpr = s.gpr :=
  (State.loadWord_onBus s _ _).gpr
@[simp] theorem State.loadWord_ip (s : State) (a b : Nat) : (s.loadWord a b).2.ip = s.ip := (State.loadWord_onBus s _ _).ip
@[simp] theorem State.loadWord_flags (s : State) (a b : Nat) : (s.loadWord a b).2.flags = s.flags :=
  (State.loadWord_onBus s _ _).flags
@[simp] theorem State.loadWord_msw (s : State) (a b : Nat) : (s.loadWord a b).2.msw = s.msw :=
  (State.loadWord_onBus s _ _).msw
@[simp] theorem State.loadWord_es (s : State) (a b : Nat) : (s.loadWord a b).2.es = s.es := (State.loadWord_onBus s _ _).es
@[simp] theorem State.loadWord_cs (s : State) (a b : Nat) : (s.loadWord a b).2.cs = s.cs := (State.loadWord_onBus s _ _).cs
@[simp] theorem State.loadWord_ss (s : State) (a b : Nat) : (s.loadWord a b).2.ss = s.ss := (State.loadWord_onBus s _ _).ss
@[simp] theorem State.loadWord_ds (s : State) (a b : Nat) : (s.loadWord a b).2.ds = s.ds := (State.loadWord_onBus s _ _).ds
@[simp] theorem State.loadWord_gdtr (s : State) (a b : Nat) : (s.loadWord a b).2.gdtr = s.gdtr :=
  (State.loadWord_onBus s _ _).gdtr
@[simp] theorem State.loadWord_idtr (s : State) (a b : Nat) : (s.loadWord a b).2.idtr = s.idtr :=
  (State.loadWord_onBus s _ _).idtr
@[simp] theorem State.loadWord_ldtr (s : State) (a b : Nat) : (s.loadWord a b).2.ldtr = s.ldtr :=
  (State.loadWord_onBus s _ _).ldtr
@[simp] theorem State.loadWord_tr (s : State) (a b : Nat) : (s.loadWord a b).2.tr = s.tr := (State.loadWord_onBus s _ _).tr
@[simp] theorem State.loadWord_run (s : State) (a b : Nat) : (s.loadWord a b).2.run = s.run :=
  (State.loadWord_onBus s _ _).run
@[simp] theorem State.loadWord_nmiMasked (s : State) (a b : Nat) : (s.loadWord a b).2.nmiMasked = s.nmiMasked :=
  (State.loadWord_onBus s _ _).nmiMasked
@[simp] theorem State.loadWord_nmiPending (s : State) (a b : Nat) : (s.loadWord a b).2.nmiPending = s.nmiPending :=
  (State.loadWord_onBus s _ _).nmiPending
@[simp] theorem State.loadWord_inhibitNext (s : State) (a b : Nat) : (s.loadWord a b).2.inhibitNext = s.inhibitNext :=
  (State.loadWord_onBus s _ _).inhibitNext
@[simp] theorem State.loadWord_tfAtStart (s : State) (a b : Nat) : (s.loadWord a b).2.tfAtStart = s.tfAtStart :=
  (State.loadWord_onBus s _ _).tfAtStart
@[simp] theorem State.loadWord_int9Pending (s : State) (a b : Nat) : (s.loadWord a b).2.int9Pending = s.int9Pending :=
  (State.loadWord_onBus s _ _).int9Pending
@[simp] theorem State.loadWord_portFeed (s : State) (a b : Nat) : (s.loadWord a b).2.portFeed = s.portFeed :=
  (State.loadWord_onBus s _ _).portFeed
@[simp] theorem State.loadWord_portLog (s : State) (a b : Nat) : (s.loadWord a b).2.portLog = s.portLog :=
  (State.loadWord_onBus s _ _).portLog
@[simp] theorem State.loadWord_npxReplies (s : State) (a b : Nat) : (s.loadWord a b).2.npxReplies = s.npxReplies :=
  (State.loadWord_onBus s _ _).npxReplies
@[simp] theorem State.loadWord_pins (s : State) (a b : Nat) : (s.loadWord a b).2.pins = s.pins :=
  (State.loadWord_onBus s _ _).pins
@[simp] theorem State.loadWord_inputs (s : State) (a b : Nat) : (s.loadWord a b).2.inputs = s.inputs :=
  (State.loadWord_onBus s _ _).inputs
@[simp] theorem State.loadWord_platform (s : State) (a b : Nat) : (s.loadWord a b).2.platform = s.platform :=
  (State.loadWord_onBus s _ _).platform
@[simp] theorem State.loadWord_pfx (s : State) (a b : Nat) : (s.loadWord a b).2.pfx = s.pfx :=
  (State.loadWord_onBus s _ _).pfx
@[simp] theorem State.loadWord_nextIp (s : State) (a b : Nat) : (s.loadWord a b).2.nextIp = s.nextIp :=
  (State.loadWord_onBus s _ _).nextIp
@[simp] theorem State.loadWord_lmsw (s : State) (a b : Nat) : (s.loadWord a b).2.lmsw = s.lmsw :=
  (State.loadWord_onBus s _ _).lmsw
@[simp] theorem State.loadWord_hazardLmswNoJmp (s : State) (a b : Nat) : (s.loadWord a b).2.hazardLmswNoJmp = s.hazardLmswNoJmp :=
  (State.loadWord_onBus s _ _).hazardLmswNoJmp
@[simp] theorem State.loadWord_hazardStaleCode (s : State) (a b : Nat) : (s.loadWord a b).2.hazardStaleCode = s.hazardStaleCode :=
  (State.loadWord_onBus s _ _).hazardStaleCode
@[simp] theorem State.loadWord_storedSince (s : State) (a b : Nat) : (s.loadWord a b).2.storedSince = s.storedSince :=
  (State.loadWord_onBus s _ _).storedSince
@[simp] theorem State.loadWord_queueFlushed (s : State) (a b : Nat) : (s.loadWord a b).2.queueFlushed = s.queueFlushed :=
  (State.loadWord_onBus s _ _).queueFlushed
@[simp] theorem State.loadWord_stiShadow (s : State) (a b : Nat) : (s.loadWord a b).2.stiShadow = s.stiShadow :=
  (State.loadWord_onBus s _ _).stiShadow
@[simp] theorem State.loadWord_freeCtr (s : State) (a b : Nat) : (s.loadWord a b).2.freeCtr = s.freeCtr :=
  (State.loadWord_onBus s _ _).freeCtr

/-! ### `State.storeWord`: a bus cycle leaves the processor as it was -/

@[simp] theorem State.storeWord_gpr (s : State) (a b : Nat) (v : Word) : (s.storeWord a b v).gpr = s.gpr :=
  (State.storeWord_onBus s _ _ _).gpr
@[simp] theorem State.storeWord_ip (s : State) (a b : Nat) (v : Word) : (s.storeWord a b v).ip = s.ip :=
  (State.storeWord_onBus s _ _ _).ip
@[simp] theorem State.storeWord_flags (s : State) (a b : Nat) (v : Word) : (s.storeWord a b v).flags = s.flags :=
  (State.storeWord_onBus s _ _ _).flags
@[simp] theorem State.storeWord_msw (s : State) (a b : Nat) (v : Word) : (s.storeWord a b v).msw = s.msw :=
  (State.storeWord_onBus s _ _ _).msw
@[simp] theorem State.storeWord_es (s : State) (a b : Nat) (v : Word) : (s.storeWord a b v).es = s.es :=
  (State.storeWord_onBus s _ _ _).es
@[simp] theorem State.storeWord_cs (s : State) (a b : Nat) (v : Word) : (s.storeWord a b v).cs = s.cs :=
  (State.storeWord_onBus s _ _ _).cs
@[simp] theorem State.storeWord_ss (s : State) (a b : Nat) (v : Word) : (s.storeWord a b v).ss = s.ss :=
  (State.storeWord_onBus s _ _ _).ss
@[simp] theorem State.storeWord_ds (s : State) (a b : Nat) (v : Word) : (s.storeWord a b v).ds = s.ds :=
  (State.storeWord_onBus s _ _ _).ds
@[simp] theorem State.storeWord_gdtr (s : State) (a b : Nat) (v : Word) : (s.storeWord a b v).gdtr = s.gdtr :=
  (State.storeWord_onBus s _ _ _).gdtr
@[simp] theorem State.storeWord_idtr (s : State) (a b : Nat) (v : Word) : (s.storeWord a b v).idtr = s.idtr :=
  (State.storeWord_onBus s _ _ _).idtr
@[simp] theorem State.storeWord_ldtr (s : State) (a b : Nat) (v : Word) : (s.storeWord a b v).ldtr = s.ldtr :=
  (State.storeWord_onBus s _ _ _).ldtr
@[simp] theorem State.storeWord_tr (s : State) (a b : Nat) (v : Word) : (s.storeWord a b v).tr = s.tr :=
  (State.storeWord_onBus s _ _ _).tr
@[simp] theorem State.storeWord_run (s : State) (a b : Nat) (v : Word) : (s.storeWord a b v).run = s.run :=
  (State.storeWord_onBus s _ _ _).run
@[simp] theorem State.storeWord_nmiMasked (s : State) (a b : Nat) (v : Word) : (s.storeWord a b v).nmiMasked = s.nmiMasked :=
  (State.storeWord_onBus s _ _ _).nmiMasked
@[simp] theorem State.storeWord_nmiPending (s : State) (a b : Nat) (v : Word) : (s.storeWord a b v).nmiPending = s.nmiPending :=
  (State.storeWord_onBus s _ _ _).nmiPending
@[simp] theorem State.storeWord_inhibitNext (s : State) (a b : Nat) (v : Word) : (s.storeWord a b v).inhibitNext = s.inhibitNext :=
  (State.storeWord_onBus s _ _ _).inhibitNext
@[simp] theorem State.storeWord_tfAtStart (s : State) (a b : Nat) (v : Word) : (s.storeWord a b v).tfAtStart = s.tfAtStart :=
  (State.storeWord_onBus s _ _ _).tfAtStart
@[simp] theorem State.storeWord_int9Pending (s : State) (a b : Nat) (v : Word) : (s.storeWord a b v).int9Pending = s.int9Pending :=
  (State.storeWord_onBus s _ _ _).int9Pending
@[simp] theorem State.storeWord_portFeed (s : State) (a b : Nat) (v : Word) : (s.storeWord a b v).portFeed = s.portFeed :=
  (State.storeWord_onBus s _ _ _).portFeed
@[simp] theorem State.storeWord_portLog (s : State) (a b : Nat) (v : Word) : (s.storeWord a b v).portLog = s.portLog :=
  (State.storeWord_onBus s _ _ _).portLog
@[simp] theorem State.storeWord_npxReplies (s : State) (a b : Nat) (v : Word) : (s.storeWord a b v).npxReplies = s.npxReplies :=
  (State.storeWord_onBus s _ _ _).npxReplies
@[simp] theorem State.storeWord_pins (s : State) (a b : Nat) (v : Word) : (s.storeWord a b v).pins = s.pins :=
  (State.storeWord_onBus s _ _ _).pins
@[simp] theorem State.storeWord_inputs (s : State) (a b : Nat) (v : Word) : (s.storeWord a b v).inputs = s.inputs :=
  (State.storeWord_onBus s _ _ _).inputs
@[simp] theorem State.storeWord_platform (s : State) (a b : Nat) (v : Word) : (s.storeWord a b v).platform = s.platform :=
  (State.storeWord_onBus s _ _ _).platform
@[simp] theorem State.storeWord_pfx (s : State) (a b : Nat) (v : Word) : (s.storeWord a b v).pfx = s.pfx :=
  (State.storeWord_onBus s _ _ _).pfx
@[simp] theorem State.storeWord_nextIp (s : State) (a b : Nat) (v : Word) : (s.storeWord a b v).nextIp = s.nextIp :=
  (State.storeWord_onBus s _ _ _).nextIp
@[simp] theorem State.storeWord_lmsw (s : State) (a b : Nat) (v : Word) : (s.storeWord a b v).lmsw = s.lmsw :=
  (State.storeWord_onBus s _ _ _).lmsw
@[simp] theorem State.storeWord_hazardLmswNoJmp (s : State) (a b : Nat) (v : Word) : (s.storeWord a b v).hazardLmswNoJmp = s.hazardLmswNoJmp :=
  (State.storeWord_onBus s _ _ _).hazardLmswNoJmp
@[simp] theorem State.storeWord_hazardStaleCode (s : State) (a b : Nat) (v : Word) : (s.storeWord a b v).hazardStaleCode = s.hazardStaleCode :=
  (State.storeWord_onBus s _ _ _).hazardStaleCode
@[simp] theorem State.storeWord_storedSince (s : State) (a b : Nat) (v : Word) : (s.storeWord a b v).storedSince = s.storedSince :=
  (State.storeWord_onBus s _ _ _).storedSince
@[simp] theorem State.storeWord_queueFlushed (s : State) (a b : Nat) (v : Word) : (s.storeWord a b v).queueFlushed = s.queueFlushed :=
  (State.storeWord_onBus s _ _ _).queueFlushed
@[simp] theorem State.storeWord_stiShadow (s : State) (a b : Nat) (v : Word) : (s.storeWord a b v).stiShadow = s.stiShadow :=
  (State.storeWord_onBus s _ _ _).stiShadow
@[simp] theorem State.storeWord_freeCtr (s : State) (a b : Nat) (v : Word) : (s.storeWord a b v).freeCtr = s.freeCtr :=
  (State.storeWord_onBus s _ _ _).freeCtr

/-! ### `State.fetch16`: a bus cycle leaves the processor as it was -/

@[simp] theorem State.fetch16_gpr (s : State) (a : Addr) (k : Nat) : (s.fetch16 a k).2.gpr = s.gpr :=
  (State.fetch16_onBus s _ _).gpr
@[simp] theorem State.fetch16_ip (s : State) (a : Addr) (k : Nat) : (s.fetch16 a k).2.ip = s.ip :=
  (State.fetch16_onBus s _ _).ip
@[simp] theorem State.fetch16_flags (s : State) (a : Addr) (k : Nat) : (s.fetch16 a k).2.flags = s.flags :=
  (State.fetch16_onBus s _ _).flags
@[simp] theorem State.fetch16_msw (s : State) (a : Addr) (k : Nat) : (s.fetch16 a k).2.msw = s.msw :=
  (State.fetch16_onBus s _ _).msw
@[simp] theorem State.fetch16_es (s : State) (a : Addr) (k : Nat) : (s.fetch16 a k).2.es = s.es :=
  (State.fetch16_onBus s _ _).es
@[simp] theorem State.fetch16_cs (s : State) (a : Addr) (k : Nat) : (s.fetch16 a k).2.cs = s.cs :=
  (State.fetch16_onBus s _ _).cs
@[simp] theorem State.fetch16_ss (s : State) (a : Addr) (k : Nat) : (s.fetch16 a k).2.ss = s.ss :=
  (State.fetch16_onBus s _ _).ss
@[simp] theorem State.fetch16_ds (s : State) (a : Addr) (k : Nat) : (s.fetch16 a k).2.ds = s.ds :=
  (State.fetch16_onBus s _ _).ds
@[simp] theorem State.fetch16_gdtr (s : State) (a : Addr) (k : Nat) : (s.fetch16 a k).2.gdtr = s.gdtr :=
  (State.fetch16_onBus s _ _).gdtr
@[simp] theorem State.fetch16_idtr (s : State) (a : Addr) (k : Nat) : (s.fetch16 a k).2.idtr = s.idtr :=
  (State.fetch16_onBus s _ _).idtr
@[simp] theorem State.fetch16_ldtr (s : State) (a : Addr) (k : Nat) : (s.fetch16 a k).2.ldtr = s.ldtr :=
  (State.fetch16_onBus s _ _).ldtr
@[simp] theorem State.fetch16_tr (s : State) (a : Addr) (k : Nat) : (s.fetch16 a k).2.tr = s.tr :=
  (State.fetch16_onBus s _ _).tr
@[simp] theorem State.fetch16_run (s : State) (a : Addr) (k : Nat) : (s.fetch16 a k).2.run = s.run :=
  (State.fetch16_onBus s _ _).run
@[simp] theorem State.fetch16_nmiMasked (s : State) (a : Addr) (k : Nat) : (s.fetch16 a k).2.nmiMasked = s.nmiMasked :=
  (State.fetch16_onBus s _ _).nmiMasked
@[simp] theorem State.fetch16_nmiPending (s : State) (a : Addr) (k : Nat) : (s.fetch16 a k).2.nmiPending = s.nmiPending :=
  (State.fetch16_onBus s _ _).nmiPending
@[simp] theorem State.fetch16_inhibitNext (s : State) (a : Addr) (k : Nat) : (s.fetch16 a k).2.inhibitNext = s.inhibitNext :=
  (State.fetch16_onBus s _ _).inhibitNext
@[simp] theorem State.fetch16_tfAtStart (s : State) (a : Addr) (k : Nat) : (s.fetch16 a k).2.tfAtStart = s.tfAtStart :=
  (State.fetch16_onBus s _ _).tfAtStart
@[simp] theorem State.fetch16_int9Pending (s : State) (a : Addr) (k : Nat) : (s.fetch16 a k).2.int9Pending = s.int9Pending :=
  (State.fetch16_onBus s _ _).int9Pending
@[simp] theorem State.fetch16_portFeed (s : State) (a : Addr) (k : Nat) : (s.fetch16 a k).2.portFeed = s.portFeed :=
  (State.fetch16_onBus s _ _).portFeed
@[simp] theorem State.fetch16_portLog (s : State) (a : Addr) (k : Nat) : (s.fetch16 a k).2.portLog = s.portLog :=
  (State.fetch16_onBus s _ _).portLog
@[simp] theorem State.fetch16_npxReplies (s : State) (a : Addr) (k : Nat) : (s.fetch16 a k).2.npxReplies = s.npxReplies :=
  (State.fetch16_onBus s _ _).npxReplies
@[simp] theorem State.fetch16_pins (s : State) (a : Addr) (k : Nat) : (s.fetch16 a k).2.pins = s.pins :=
  (State.fetch16_onBus s _ _).pins
@[simp] theorem State.fetch16_inputs (s : State) (a : Addr) (k : Nat) : (s.fetch16 a k).2.inputs = s.inputs :=
  (State.fetch16_onBus s _ _).inputs
@[simp] theorem State.fetch16_platform (s : State) (a : Addr) (k : Nat) : (s.fetch16 a k).2.platform = s.platform :=
  (State.fetch16_onBus s _ _).platform
@[simp] theorem State.fetch16_pfx (s : State) (a : Addr) (k : Nat) : (s.fetch16 a k).2.pfx = s.pfx :=
  (State.fetch16_onBus s _ _).pfx
@[simp] theorem State.fetch16_nextIp (s : State) (a : Addr) (k : Nat) : (s.fetch16 a k).2.nextIp = s.nextIp :=
  (State.fetch16_onBus s _ _).nextIp
@[simp] theorem State.fetch16_lmsw (s : State) (a : Addr) (k : Nat) : (s.fetch16 a k).2.lmsw = s.lmsw :=
  (State.fetch16_onBus s _ _).lmsw
@[simp] theorem State.fetch16_hazardLmswNoJmp (s : State) (a : Addr) (k : Nat) : (s.fetch16 a k).2.hazardLmswNoJmp = s.hazardLmswNoJmp :=
  (State.fetch16_onBus s _ _).hazardLmswNoJmp
@[simp] theorem State.fetch16_hazardStaleCode (s : State) (a : Addr) (k : Nat) : (s.fetch16 a k).2.hazardStaleCode = s.hazardStaleCode :=
  (State.fetch16_onBus s _ _).hazardStaleCode
@[simp] theorem State.fetch16_storedSince (s : State) (a : Addr) (k : Nat) : (s.fetch16 a k).2.storedSince = s.storedSince :=
  (State.fetch16_onBus s _ _).storedSince
@[simp] theorem State.fetch16_queueFlushed (s : State) (a : Addr) (k : Nat) : (s.fetch16 a k).2.queueFlushed = s.queueFlushed :=
  (State.fetch16_onBus s _ _).queueFlushed
@[simp] theorem State.fetch16_stiShadow (s : State) (a : Addr) (k : Nat) : (s.fetch16 a k).2.stiShadow = s.stiShadow :=
  (State.fetch16_onBus s _ _).stiShadow
@[simp] theorem State.fetch16_freeCtr (s : State) (a : Addr) (k : Nat) : (s.fetch16 a k).2.freeCtr = s.freeCtr :=
  (State.fetch16_onBus s _ _).freeCtr

/-! ### `State.segGet8`: a bus cycle leaves the processor as it was -/

@[simp] theorem State.segGet8_gpr (s : State) (r : SegReg) (off : Word) (k : Nat) : (s.segGet8 r off k).2.gpr = s.gpr :=
  (State.segGet8_onBus s _ _ _).gpr
@[simp] theorem State.segGet8_ip (s : State) (r : SegReg) (off : Word) (k : Nat) : (s.segGet8 r off k).2.ip = s.ip :=
  (State.segGet8_onBus s _ _ _).ip
@[simp] theorem State.segGet8_flags (s : State) (r : SegReg) (off : Word) (k : Nat) : (s.segGet8 r off k).2.flags = s.flags :=
  (State.segGet8_onBus s _ _ _).flags
@[simp] theorem State.segGet8_msw (s : State) (r : SegReg) (off : Word) (k : Nat) : (s.segGet8 r off k).2.msw = s.msw :=
  (State.segGet8_onBus s _ _ _).msw
@[simp] theorem State.segGet8_es (s : State) (r : SegReg) (off : Word) (k : Nat) : (s.segGet8 r off k).2.es = s.es :=
  (State.segGet8_onBus s _ _ _).es
@[simp] theorem State.segGet8_cs (s : State) (r : SegReg) (off : Word) (k : Nat) : (s.segGet8 r off k).2.cs = s.cs :=
  (State.segGet8_onBus s _ _ _).cs
@[simp] theorem State.segGet8_ss (s : State) (r : SegReg) (off : Word) (k : Nat) : (s.segGet8 r off k).2.ss = s.ss :=
  (State.segGet8_onBus s _ _ _).ss
@[simp] theorem State.segGet8_ds (s : State) (r : SegReg) (off : Word) (k : Nat) : (s.segGet8 r off k).2.ds = s.ds :=
  (State.segGet8_onBus s _ _ _).ds
@[simp] theorem State.segGet8_gdtr (s : State) (r : SegReg) (off : Word) (k : Nat) : (s.segGet8 r off k).2.gdtr = s.gdtr :=
  (State.segGet8_onBus s _ _ _).gdtr
@[simp] theorem State.segGet8_idtr (s : State) (r : SegReg) (off : Word) (k : Nat) : (s.segGet8 r off k).2.idtr = s.idtr :=
  (State.segGet8_onBus s _ _ _).idtr
@[simp] theorem State.segGet8_ldtr (s : State) (r : SegReg) (off : Word) (k : Nat) : (s.segGet8 r off k).2.ldtr = s.ldtr :=
  (State.segGet8_onBus s _ _ _).ldtr
@[simp] theorem State.segGet8_tr (s : State) (r : SegReg) (off : Word) (k : Nat) : (s.segGet8 r off k).2.tr = s.tr :=
  (State.segGet8_onBus s _ _ _).tr
@[simp] theorem State.segGet8_run (s : State) (r : SegReg) (off : Word) (k : Nat) : (s.segGet8 r off k).2.run = s.run :=
  (State.segGet8_onBus s _ _ _).run
@[simp] theorem State.segGet8_nmiMasked (s : State) (r : SegReg) (off : Word) (k : Nat) : (s.segGet8 r off k).2.nmiMasked = s.nmiMasked :=
  (State.segGet8_onBus s _ _ _).nmiMasked
@[simp] theorem State.segGet8_nmiPending (s : State) (r : SegReg) (off : Word) (k : Nat) : (s.segGet8 r off k).2.nmiPending = s.nmiPending :=
  (State.segGet8_onBus s _ _ _).nmiPending
@[simp] theorem State.segGet8_inhibitNext (s : State) (r : SegReg) (off : Word) (k : Nat) : (s.segGet8 r off k).2.inhibitNext = s.inhibitNext :=
  (State.segGet8_onBus s _ _ _).inhibitNext
@[simp] theorem State.segGet8_tfAtStart (s : State) (r : SegReg) (off : Word) (k : Nat) : (s.segGet8 r off k).2.tfAtStart = s.tfAtStart :=
  (State.segGet8_onBus s _ _ _).tfAtStart
@[simp] theorem State.segGet8_int9Pending (s : State) (r : SegReg) (off : Word) (k : Nat) : (s.segGet8 r off k).2.int9Pending = s.int9Pending :=
  (State.segGet8_onBus s _ _ _).int9Pending
@[simp] theorem State.segGet8_portFeed (s : State) (r : SegReg) (off : Word) (k : Nat) : (s.segGet8 r off k).2.portFeed = s.portFeed :=
  (State.segGet8_onBus s _ _ _).portFeed
@[simp] theorem State.segGet8_portLog (s : State) (r : SegReg) (off : Word) (k : Nat) : (s.segGet8 r off k).2.portLog = s.portLog :=
  (State.segGet8_onBus s _ _ _).portLog
@[simp] theorem State.segGet8_npxReplies (s : State) (r : SegReg) (off : Word) (k : Nat) : (s.segGet8 r off k).2.npxReplies = s.npxReplies :=
  (State.segGet8_onBus s _ _ _).npxReplies
@[simp] theorem State.segGet8_pins (s : State) (r : SegReg) (off : Word) (k : Nat) : (s.segGet8 r off k).2.pins = s.pins :=
  (State.segGet8_onBus s _ _ _).pins
@[simp] theorem State.segGet8_inputs (s : State) (r : SegReg) (off : Word) (k : Nat) : (s.segGet8 r off k).2.inputs = s.inputs :=
  (State.segGet8_onBus s _ _ _).inputs
@[simp] theorem State.segGet8_platform (s : State) (r : SegReg) (off : Word) (k : Nat) : (s.segGet8 r off k).2.platform = s.platform :=
  (State.segGet8_onBus s _ _ _).platform
@[simp] theorem State.segGet8_pfx (s : State) (r : SegReg) (off : Word) (k : Nat) : (s.segGet8 r off k).2.pfx = s.pfx :=
  (State.segGet8_onBus s _ _ _).pfx
@[simp] theorem State.segGet8_nextIp (s : State) (r : SegReg) (off : Word) (k : Nat) : (s.segGet8 r off k).2.nextIp = s.nextIp :=
  (State.segGet8_onBus s _ _ _).nextIp
@[simp] theorem State.segGet8_lmsw (s : State) (r : SegReg) (off : Word) (k : Nat) : (s.segGet8 r off k).2.lmsw = s.lmsw :=
  (State.segGet8_onBus s _ _ _).lmsw
@[simp] theorem State.segGet8_hazardLmswNoJmp (s : State) (r : SegReg) (off : Word) (k : Nat) : (s.segGet8 r off k).2.hazardLmswNoJmp = s.hazardLmswNoJmp :=
  (State.segGet8_onBus s _ _ _).hazardLmswNoJmp
@[simp] theorem State.segGet8_hazardStaleCode (s : State) (r : SegReg) (off : Word) (k : Nat) : (s.segGet8 r off k).2.hazardStaleCode = s.hazardStaleCode :=
  (State.segGet8_onBus s _ _ _).hazardStaleCode
@[simp] theorem State.segGet8_storedSince (s : State) (r : SegReg) (off : Word) (k : Nat) : (s.segGet8 r off k).2.storedSince = s.storedSince :=
  (State.segGet8_onBus s _ _ _).storedSince
@[simp] theorem State.segGet8_queueFlushed (s : State) (r : SegReg) (off : Word) (k : Nat) : (s.segGet8 r off k).2.queueFlushed = s.queueFlushed :=
  (State.segGet8_onBus s _ _ _).queueFlushed
@[simp] theorem State.segGet8_stiShadow (s : State) (r : SegReg) (off : Word) (k : Nat) : (s.segGet8 r off k).2.stiShadow = s.stiShadow :=
  (State.segGet8_onBus s _ _ _).stiShadow
@[simp] theorem State.segGet8_freeCtr (s : State) (r : SegReg) (off : Word) (k : Nat) : (s.segGet8 r off k).2.freeCtr = s.freeCtr :=
  (State.segGet8_onBus s _ _ _).freeCtr

/-! ### `State.segGet16`: a bus cycle leaves the processor as it was -/

@[simp] theorem State.segGet16_gpr (s : State) (r : SegReg) (off : Word) : (s.segGet16 r off).2.gpr = s.gpr :=
  (State.segGet16_onBus s _ _).gpr
@[simp] theorem State.segGet16_ip (s : State) (r : SegReg) (off : Word) : (s.segGet16 r off).2.ip = s.ip :=
  (State.segGet16_onBus s _ _).ip
@[simp] theorem State.segGet16_flags (s : State) (r : SegReg) (off : Word) : (s.segGet16 r off).2.flags = s.flags :=
  (State.segGet16_onBus s _ _).flags
@[simp] theorem State.segGet16_msw (s : State) (r : SegReg) (off : Word) : (s.segGet16 r off).2.msw = s.msw :=
  (State.segGet16_onBus s _ _).msw
@[simp] theorem State.segGet16_es (s : State) (r : SegReg) (off : Word) : (s.segGet16 r off).2.es = s.es :=
  (State.segGet16_onBus s _ _).es
@[simp] theorem State.segGet16_cs (s : State) (r : SegReg) (off : Word) : (s.segGet16 r off).2.cs = s.cs :=
  (State.segGet16_onBus s _ _).cs
@[simp] theorem State.segGet16_ss (s : State) (r : SegReg) (off : Word) : (s.segGet16 r off).2.ss = s.ss :=
  (State.segGet16_onBus s _ _).ss
@[simp] theorem State.segGet16_ds (s : State) (r : SegReg) (off : Word) : (s.segGet16 r off).2.ds = s.ds :=
  (State.segGet16_onBus s _ _).ds
@[simp] theorem State.segGet16_gdtr (s : State) (r : SegReg) (off : Word) : (s.segGet16 r off).2.gdtr = s.gdtr :=
  (State.segGet16_onBus s _ _).gdtr
@[simp] theorem State.segGet16_idtr (s : State) (r : SegReg) (off : Word) : (s.segGet16 r off).2.idtr = s.idtr :=
  (State.segGet16_onBus s _ _).idtr
@[simp] theorem State.segGet16_ldtr (s : State) (r : SegReg) (off : Word) : (s.segGet16 r off).2.ldtr = s.ldtr :=
  (State.segGet16_onBus s _ _).ldtr
@[simp] theorem State.segGet16_tr (s : State) (r : SegReg) (off : Word) : (s.segGet16 r off).2.tr = s.tr :=
  (State.segGet16_onBus s _ _).tr
@[simp] theorem State.segGet16_run (s : State) (r : SegReg) (off : Word) : (s.segGet16 r off).2.run = s.run :=
  (State.segGet16_onBus s _ _).run
@[simp] theorem State.segGet16_nmiMasked (s : State) (r : SegReg) (off : Word) : (s.segGet16 r off).2.nmiMasked = s.nmiMasked :=
  (State.segGet16_onBus s _ _).nmiMasked
@[simp] theorem State.segGet16_nmiPending (s : State) (r : SegReg) (off : Word) : (s.segGet16 r off).2.nmiPending = s.nmiPending :=
  (State.segGet16_onBus s _ _).nmiPending
@[simp] theorem State.segGet16_inhibitNext (s : State) (r : SegReg) (off : Word) : (s.segGet16 r off).2.inhibitNext = s.inhibitNext :=
  (State.segGet16_onBus s _ _).inhibitNext
@[simp] theorem State.segGet16_tfAtStart (s : State) (r : SegReg) (off : Word) : (s.segGet16 r off).2.tfAtStart = s.tfAtStart :=
  (State.segGet16_onBus s _ _).tfAtStart
@[simp] theorem State.segGet16_int9Pending (s : State) (r : SegReg) (off : Word) : (s.segGet16 r off).2.int9Pending = s.int9Pending :=
  (State.segGet16_onBus s _ _).int9Pending
@[simp] theorem State.segGet16_portFeed (s : State) (r : SegReg) (off : Word) : (s.segGet16 r off).2.portFeed = s.portFeed :=
  (State.segGet16_onBus s _ _).portFeed
@[simp] theorem State.segGet16_portLog (s : State) (r : SegReg) (off : Word) : (s.segGet16 r off).2.portLog = s.portLog :=
  (State.segGet16_onBus s _ _).portLog
@[simp] theorem State.segGet16_npxReplies (s : State) (r : SegReg) (off : Word) : (s.segGet16 r off).2.npxReplies = s.npxReplies :=
  (State.segGet16_onBus s _ _).npxReplies
@[simp] theorem State.segGet16_pins (s : State) (r : SegReg) (off : Word) : (s.segGet16 r off).2.pins = s.pins :=
  (State.segGet16_onBus s _ _).pins
@[simp] theorem State.segGet16_inputs (s : State) (r : SegReg) (off : Word) : (s.segGet16 r off).2.inputs = s.inputs :=
  (State.segGet16_onBus s _ _).inputs
@[simp] theorem State.segGet16_platform (s : State) (r : SegReg) (off : Word) : (s.segGet16 r off).2.platform = s.platform :=
  (State.segGet16_onBus s _ _).platform
@[simp] theorem State.segGet16_pfx (s : State) (r : SegReg) (off : Word) : (s.segGet16 r off).2.pfx = s.pfx :=
  (State.segGet16_onBus s _ _).pfx
@[simp] theorem State.segGet16_nextIp (s : State) (r : SegReg) (off : Word) : (s.segGet16 r off).2.nextIp = s.nextIp :=
  (State.segGet16_onBus s _ _).nextIp
@[simp] theorem State.segGet16_lmsw (s : State) (r : SegReg) (off : Word) : (s.segGet16 r off).2.lmsw = s.lmsw :=
  (State.segGet16_onBus s _ _).lmsw
@[simp] theorem State.segGet16_hazardLmswNoJmp (s : State) (r : SegReg) (off : Word) : (s.segGet16 r off).2.hazardLmswNoJmp = s.hazardLmswNoJmp :=
  (State.segGet16_onBus s _ _).hazardLmswNoJmp
@[simp] theorem State.segGet16_hazardStaleCode (s : State) (r : SegReg) (off : Word) : (s.segGet16 r off).2.hazardStaleCode = s.hazardStaleCode :=
  (State.segGet16_onBus s _ _).hazardStaleCode
@[simp] theorem State.segGet16_storedSince (s : State) (r : SegReg) (off : Word) : (s.segGet16 r off).2.storedSince = s.storedSince :=
  (State.segGet16_onBus s _ _).storedSince
@[simp] theorem State.segGet16_queueFlushed (s : State) (r : SegReg) (off : Word) : (s.segGet16 r off).2.queueFlushed = s.queueFlushed :=
  (State.segGet16_onBus s _ _).queueFlushed
@[simp] theorem State.segGet16_stiShadow (s : State) (r : SegReg) (off : Word) : (s.segGet16 r off).2.stiShadow = s.stiShadow :=
  (State.segGet16_onBus s _ _).stiShadow
@[simp] theorem State.segGet16_freeCtr (s : State) (r : SegReg) (off : Word) : (s.segGet16 r off).2.freeCtr = s.freeCtr :=
  (State.segGet16_onBus s _ _).freeCtr

/-! ### `State.stackGet`: a bus cycle leaves the processor as it was -/

@[simp] theorem State.stackGet_gpr (s : State) (k : Nat) : (s.stackGet k).2.gpr = s.gpr := (State.stackGet_onBus s _).gpr
@[simp] theorem State.stackGet_ip (s : State) (k : Nat) : (s.stackGet k).2.ip = s.ip := (State.stackGet_onBus s _).ip
@[simp] theorem State.stackGet_flags (s : State) (k : Nat) : (s.stackGet k).2.flags = s.flags :=
  (State.stackGet_onBus s _).flags
@[simp] theorem State.stackGet_msw (s : State) (k : Nat) : (s.stackGet k).2.msw = s.msw := (State.stackGet_onBus s _).msw
@[simp] theorem State.stackGet_es (s : State) (k : Nat) : (s.stackGet k).2.es = s.es := (State.stackGet_onBus s _).es
@[simp] theorem State.stackGet_cs (s : State) (k : Nat) : (s.stackGet k).2.cs = s.cs := (State.stackGet_onBus s _).cs
@[simp] theorem State.stackGet_ss (s : State) (k : Nat) : (s.stackGet k).2.ss = s.ss := (State.stackGet_onBus s _).ss
@[simp] theorem State.stackGet_ds (s : State) (k : Nat) : (s.stackGet k).2.ds = s.ds := (State.stackGet_onBus s _).ds
@[simp] theorem State.stackGet_gdtr (s : State) (k : Nat) : (s.stackGet k).2.gdtr = s.gdtr := (State.stackGet_onBus s _).gdtr
@[simp] theorem State.stackGet_idtr (s : State) (k : Nat) : (s.stackGet k).2.idtr = s.idtr := (State.stackGet_onBus s _).idtr
@[simp] theorem State.stackGet_ldtr (s : State) (k : Nat) : (s.stackGet k).2.ldtr = s.ldtr := (State.stackGet_onBus s _).ldtr
@[simp] theorem State.stackGet_tr (s : State) (k : Nat) : (s.stackGet k).2.tr = s.tr := (State.stackGet_onBus s _).tr
@[simp] theorem State.stackGet_run (s : State) (k : Nat) : (s.stackGet k).2.run = s.run := (State.stackGet_onBus s _).run
@[simp] theorem State.stackGet_nmiMasked (s : State) (k : Nat) : (s.stackGet k).2.nmiMasked = s.nmiMasked :=
  (State.stackGet_onBus s _).nmiMasked
@[simp] theorem State.stackGet_nmiPending (s : State) (k : Nat) : (s.stackGet k).2.nmiPending = s.nmiPending :=
  (State.stackGet_onBus s _).nmiPending
@[simp] theorem State.stackGet_inhibitNext (s : State) (k : Nat) : (s.stackGet k).2.inhibitNext = s.inhibitNext :=
  (State.stackGet_onBus s _).inhibitNext
@[simp] theorem State.stackGet_tfAtStart (s : State) (k : Nat) : (s.stackGet k).2.tfAtStart = s.tfAtStart :=
  (State.stackGet_onBus s _).tfAtStart
@[simp] theorem State.stackGet_int9Pending (s : State) (k : Nat) : (s.stackGet k).2.int9Pending = s.int9Pending :=
  (State.stackGet_onBus s _).int9Pending
@[simp] theorem State.stackGet_portFeed (s : State) (k : Nat) : (s.stackGet k).2.portFeed = s.portFeed :=
  (State.stackGet_onBus s _).portFeed
@[simp] theorem State.stackGet_portLog (s : State) (k : Nat) : (s.stackGet k).2.portLog = s.portLog :=
  (State.stackGet_onBus s _).portLog
@[simp] theorem State.stackGet_npxReplies (s : State) (k : Nat) : (s.stackGet k).2.npxReplies = s.npxReplies :=
  (State.stackGet_onBus s _).npxReplies
@[simp] theorem State.stackGet_pins (s : State) (k : Nat) : (s.stackGet k).2.pins = s.pins := (State.stackGet_onBus s _).pins
@[simp] theorem State.stackGet_inputs (s : State) (k : Nat) : (s.stackGet k).2.inputs = s.inputs :=
  (State.stackGet_onBus s _).inputs
@[simp] theorem State.stackGet_platform (s : State) (k : Nat) : (s.stackGet k).2.platform = s.platform :=
  (State.stackGet_onBus s _).platform
@[simp] theorem State.stackGet_pfx (s : State) (k : Nat) : (s.stackGet k).2.pfx = s.pfx := (State.stackGet_onBus s _).pfx
@[simp] theorem State.stackGet_nextIp (s : State) (k : Nat) : (s.stackGet k).2.nextIp = s.nextIp :=
  (State.stackGet_onBus s _).nextIp
@[simp] theorem State.stackGet_lmsw (s : State) (k : Nat) : (s.stackGet k).2.lmsw = s.lmsw := (State.stackGet_onBus s _).lmsw
@[simp] theorem State.stackGet_hazardLmswNoJmp (s : State) (k : Nat) : (s.stackGet k).2.hazardLmswNoJmp = s.hazardLmswNoJmp :=
  (State.stackGet_onBus s _).hazardLmswNoJmp
@[simp] theorem State.stackGet_hazardStaleCode (s : State) (k : Nat) : (s.stackGet k).2.hazardStaleCode = s.hazardStaleCode :=
  (State.stackGet_onBus s _).hazardStaleCode
@[simp] theorem State.stackGet_storedSince (s : State) (k : Nat) : (s.stackGet k).2.storedSince = s.storedSince :=
  (State.stackGet_onBus s _).storedSince
@[simp] theorem State.stackGet_queueFlushed (s : State) (k : Nat) : (s.stackGet k).2.queueFlushed = s.queueFlushed :=
  (State.stackGet_onBus s _).queueFlushed
@[simp] theorem State.stackGet_stiShadow (s : State) (k : Nat) : (s.stackGet k).2.stiShadow = s.stiShadow :=
  (State.stackGet_onBus s _).stiShadow
@[simp] theorem State.stackGet_freeCtr (s : State) (k : Nat) : (s.stackGet k).2.freeCtr = s.freeCtr :=
  (State.stackGet_onBus s _).freeCtr

/-! ### `State.vectorWord`: a bus cycle leaves the processor as it was -/

@[simp] theorem State.vectorWord_gpr (s : State) (k : Nat) : (s.vectorWord k).2.gpr = s.gpr :=
  (State.vectorWord_onBus s _).gpr
@[simp] theorem State.vectorWord_ip (s : State) (k : Nat) : (s.vectorWord k).2.ip = s.ip := (State.vectorWord_onBus s _).ip
@[simp] theorem State.vectorWord_flags (s : State) (k : Nat) : (s.vectorWord k).2.flags = s.flags :=
  (State.vectorWord_onBus s _).flags
@[simp] theorem State.vectorWord_msw (s : State) (k : Nat) : (s.vectorWord k).2.msw = s.msw :=
  (State.vectorWord_onBus s _).msw
@[simp] theorem State.vectorWord_es (s : State) (k : Nat) : (s.vectorWord k).2.es = s.es := (State.vectorWord_onBus s _).es
@[simp] theorem State.vectorWord_cs (s : State) (k : Nat) : (s.vectorWord k).2.cs = s.cs := (State.vectorWord_onBus s _).cs
@[simp] theorem State.vectorWord_ss (s : State) (k : Nat) : (s.vectorWord k).2.ss = s.ss := (State.vectorWord_onBus s _).ss
@[simp] theorem State.vectorWord_ds (s : State) (k : Nat) : (s.vectorWord k).2.ds = s.ds := (State.vectorWord_onBus s _).ds
@[simp] theorem State.vectorWord_gdtr (s : State) (k : Nat) : (s.vectorWord k).2.gdtr = s.gdtr :=
  (State.vectorWord_onBus s _).gdtr
@[simp] theorem State.vectorWord_idtr (s : State) (k : Nat) : (s.vectorWord k).2.idtr = s.idtr :=
  (State.vectorWord_onBus s _).idtr
@[simp] theorem State.vectorWord_ldtr (s : State) (k : Nat) : (s.vectorWord k).2.ldtr = s.ldtr :=
  (State.vectorWord_onBus s _).ldtr
@[simp] theorem State.vectorWord_tr (s : State) (k : Nat) : (s.vectorWord k).2.tr = s.tr := (State.vectorWord_onBus s _).tr
@[simp] theorem State.vectorWord_run (s : State) (k : Nat) : (s.vectorWord k).2.run = s.run :=
  (State.vectorWord_onBus s _).run
@[simp] theorem State.vectorWord_nmiMasked (s : State) (k : Nat) : (s.vectorWord k).2.nmiMasked = s.nmiMasked :=
  (State.vectorWord_onBus s _).nmiMasked
@[simp] theorem State.vectorWord_nmiPending (s : State) (k : Nat) : (s.vectorWord k).2.nmiPending = s.nmiPending :=
  (State.vectorWord_onBus s _).nmiPending
@[simp] theorem State.vectorWord_inhibitNext (s : State) (k : Nat) : (s.vectorWord k).2.inhibitNext = s.inhibitNext :=
  (State.vectorWord_onBus s _).inhibitNext
@[simp] theorem State.vectorWord_tfAtStart (s : State) (k : Nat) : (s.vectorWord k).2.tfAtStart = s.tfAtStart :=
  (State.vectorWord_onBus s _).tfAtStart
@[simp] theorem State.vectorWord_int9Pending (s : State) (k : Nat) : (s.vectorWord k).2.int9Pending = s.int9Pending :=
  (State.vectorWord_onBus s _).int9Pending
@[simp] theorem State.vectorWord_portFeed (s : State) (k : Nat) : (s.vectorWord k).2.portFeed = s.portFeed :=
  (State.vectorWord_onBus s _).portFeed
@[simp] theorem State.vectorWord_portLog (s : State) (k : Nat) : (s.vectorWord k).2.portLog = s.portLog :=
  (State.vectorWord_onBus s _).portLog
@[simp] theorem State.vectorWord_npxReplies (s : State) (k : Nat) : (s.vectorWord k).2.npxReplies = s.npxReplies :=
  (State.vectorWord_onBus s _).npxReplies
@[simp] theorem State.vectorWord_pins (s : State) (k : Nat) : (s.vectorWord k).2.pins = s.pins :=
  (State.vectorWord_onBus s _).pins
@[simp] theorem State.vectorWord_inputs (s : State) (k : Nat) : (s.vectorWord k).2.inputs = s.inputs :=
  (State.vectorWord_onBus s _).inputs
@[simp] theorem State.vectorWord_platform (s : State) (k : Nat) : (s.vectorWord k).2.platform = s.platform :=
  (State.vectorWord_onBus s _).platform
@[simp] theorem State.vectorWord_pfx (s : State) (k : Nat) : (s.vectorWord k).2.pfx = s.pfx :=
  (State.vectorWord_onBus s _).pfx
@[simp] theorem State.vectorWord_nextIp (s : State) (k : Nat) : (s.vectorWord k).2.nextIp = s.nextIp :=
  (State.vectorWord_onBus s _).nextIp
@[simp] theorem State.vectorWord_lmsw (s : State) (k : Nat) : (s.vectorWord k).2.lmsw = s.lmsw :=
  (State.vectorWord_onBus s _).lmsw
@[simp] theorem State.vectorWord_hazardLmswNoJmp (s : State) (k : Nat) : (s.vectorWord k).2.hazardLmswNoJmp = s.hazardLmswNoJmp :=
  (State.vectorWord_onBus s _).hazardLmswNoJmp
@[simp] theorem State.vectorWord_hazardStaleCode (s : State) (k : Nat) : (s.vectorWord k).2.hazardStaleCode = s.hazardStaleCode :=
  (State.vectorWord_onBus s _).hazardStaleCode
@[simp] theorem State.vectorWord_storedSince (s : State) (k : Nat) : (s.vectorWord k).2.storedSince = s.storedSince :=
  (State.vectorWord_onBus s _).storedSince
@[simp] theorem State.vectorWord_queueFlushed (s : State) (k : Nat) : (s.vectorWord k).2.queueFlushed = s.queueFlushed :=
  (State.vectorWord_onBus s _).queueFlushed
@[simp] theorem State.vectorWord_stiShadow (s : State) (k : Nat) : (s.vectorWord k).2.stiShadow = s.stiShadow :=
  (State.vectorWord_onBus s _).stiShadow
@[simp] theorem State.vectorWord_freeCtr (s : State) (k : Nat) : (s.vectorWord k).2.freeCtr = s.freeCtr :=
  (State.vectorWord_onBus s _).freeCtr

/-! ### `State.segPut8`: a bus cycle leaves the processor as it was -/

@[simp] theorem State.segPut8_gpr (s : State) (r : SegReg) (off : Word) (k : Nat) (v : Byte) : (s.segPut8 r off k v).gpr = s.gpr :=
  (State.segPut8_onBus s _ _ _ _).gpr
@[simp] theorem State.segPut8_ip (s : State) (r : SegReg) (off : Word) (k : Nat) (v : Byte) : (s.segPut8 r off k v).ip = s.ip :=
  (State.segPut8_onBus s _ _ _ _).ip
@[simp] theorem State.segPut8_flags (s : State) (r : SegReg) (off : Word) (k : Nat) (v : Byte) : (s.segPut8 r off k v).flags = s.flags :=
  (State.segPut8_onBus s _ _ _ _).flags
@[simp] theorem State.segPut8_msw (s : State) (r : SegReg) (off : Word) (k : Nat) (v : Byte) : (s.segPut8 r off k v).msw = s.msw :=
  (State.segPut8_onBus s _ _ _ _).msw
@[simp] theorem State.segPut8_es (s : State) (r : SegReg) (off : Word) (k : Nat) (v : Byte) : (s.segPut8 r off k v).es = s.es :=
  (State.segPut8_onBus s _ _ _ _).es
@[simp] theorem State.segPut8_cs (s : State) (r : SegReg) (off : Word) (k : Nat) (v : Byte) : (s.segPut8 r off k v).cs = s.cs :=
  (State.segPut8_onBus s _ _ _ _).cs
@[simp] theorem State.segPut8_ss (s : State) (r : SegReg) (off : Word) (k : Nat) (v : Byte) : (s.segPut8 r off k v).ss = s.ss :=
  (State.segPut8_onBus s _ _ _ _).ss
@[simp] theorem State.segPut8_ds (s : State) (r : SegReg) (off : Word) (k : Nat) (v : Byte) : (s.segPut8 r off k v).ds = s.ds :=
  (State.segPut8_onBus s _ _ _ _).ds
@[simp] theorem State.segPut8_gdtr (s : State) (r : SegReg) (off : Word) (k : Nat) (v : Byte) : (s.segPut8 r off k v).gdtr = s.gdtr :=
  (State.segPut8_onBus s _ _ _ _).gdtr
@[simp] theorem State.segPut8_idtr (s : State) (r : SegReg) (off : Word) (k : Nat) (v : Byte) : (s.segPut8 r off k v).idtr = s.idtr :=
  (State.segPut8_onBus s _ _ _ _).idtr
@[simp] theorem State.segPut8_ldtr (s : State) (r : SegReg) (off : Word) (k : Nat) (v : Byte) : (s.segPut8 r off k v).ldtr = s.ldtr :=
  (State.segPut8_onBus s _ _ _ _).ldtr
@[simp] theorem State.segPut8_tr (s : State) (r : SegReg) (off : Word) (k : Nat) (v : Byte) : (s.segPut8 r off k v).tr = s.tr :=
  (State.segPut8_onBus s _ _ _ _).tr
@[simp] theorem State.segPut8_run (s : State) (r : SegReg) (off : Word) (k : Nat) (v : Byte) : (s.segPut8 r off k v).run = s.run :=
  (State.segPut8_onBus s _ _ _ _).run
@[simp] theorem State.segPut8_nmiMasked (s : State) (r : SegReg) (off : Word) (k : Nat) (v : Byte) : (s.segPut8 r off k v).nmiMasked = s.nmiMasked :=
  (State.segPut8_onBus s _ _ _ _).nmiMasked
@[simp] theorem State.segPut8_nmiPending (s : State) (r : SegReg) (off : Word) (k : Nat) (v : Byte) : (s.segPut8 r off k v).nmiPending = s.nmiPending :=
  (State.segPut8_onBus s _ _ _ _).nmiPending
@[simp] theorem State.segPut8_inhibitNext (s : State) (r : SegReg) (off : Word) (k : Nat) (v : Byte) : (s.segPut8 r off k v).inhibitNext = s.inhibitNext :=
  (State.segPut8_onBus s _ _ _ _).inhibitNext
@[simp] theorem State.segPut8_tfAtStart (s : State) (r : SegReg) (off : Word) (k : Nat) (v : Byte) : (s.segPut8 r off k v).tfAtStart = s.tfAtStart :=
  (State.segPut8_onBus s _ _ _ _).tfAtStart
@[simp] theorem State.segPut8_int9Pending (s : State) (r : SegReg) (off : Word) (k : Nat) (v : Byte) : (s.segPut8 r off k v).int9Pending = s.int9Pending :=
  (State.segPut8_onBus s _ _ _ _).int9Pending
@[simp] theorem State.segPut8_portFeed (s : State) (r : SegReg) (off : Word) (k : Nat) (v : Byte) : (s.segPut8 r off k v).portFeed = s.portFeed :=
  (State.segPut8_onBus s _ _ _ _).portFeed
@[simp] theorem State.segPut8_portLog (s : State) (r : SegReg) (off : Word) (k : Nat) (v : Byte) : (s.segPut8 r off k v).portLog = s.portLog :=
  (State.segPut8_onBus s _ _ _ _).portLog
@[simp] theorem State.segPut8_npxReplies (s : State) (r : SegReg) (off : Word) (k : Nat) (v : Byte) : (s.segPut8 r off k v).npxReplies = s.npxReplies :=
  (State.segPut8_onBus s _ _ _ _).npxReplies
@[simp] theorem State.segPut8_pins (s : State) (r : SegReg) (off : Word) (k : Nat) (v : Byte) : (s.segPut8 r off k v).pins = s.pins :=
  (State.segPut8_onBus s _ _ _ _).pins
@[simp] theorem State.segPut8_inputs (s : State) (r : SegReg) (off : Word) (k : Nat) (v : Byte) : (s.segPut8 r off k v).inputs = s.inputs :=
  (State.segPut8_onBus s _ _ _ _).inputs
@[simp] theorem State.segPut8_platform (s : State) (r : SegReg) (off : Word) (k : Nat) (v : Byte) : (s.segPut8 r off k v).platform = s.platform :=
  (State.segPut8_onBus s _ _ _ _).platform
@[simp] theorem State.segPut8_pfx (s : State) (r : SegReg) (off : Word) (k : Nat) (v : Byte) : (s.segPut8 r off k v).pfx = s.pfx :=
  (State.segPut8_onBus s _ _ _ _).pfx
@[simp] theorem State.segPut8_nextIp (s : State) (r : SegReg) (off : Word) (k : Nat) (v : Byte) : (s.segPut8 r off k v).nextIp = s.nextIp :=
  (State.segPut8_onBus s _ _ _ _).nextIp
@[simp] theorem State.segPut8_lmsw (s : State) (r : SegReg) (off : Word) (k : Nat) (v : Byte) : (s.segPut8 r off k v).lmsw = s.lmsw :=
  (State.segPut8_onBus s _ _ _ _).lmsw
@[simp] theorem State.segPut8_hazardLmswNoJmp (s : State) (r : SegReg) (off : Word) (k : Nat) (v : Byte) : (s.segPut8 r off k v).hazardLmswNoJmp = s.hazardLmswNoJmp :=
  (State.segPut8_onBus s _ _ _ _).hazardLmswNoJmp
@[simp] theorem State.segPut8_hazardStaleCode (s : State) (r : SegReg) (off : Word) (k : Nat) (v : Byte) : (s.segPut8 r off k v).hazardStaleCode = s.hazardStaleCode :=
  (State.segPut8_onBus s _ _ _ _).hazardStaleCode
@[simp] theorem State.segPut8_storedSince (s : State) (r : SegReg) (off : Word) (k : Nat) (v : Byte) : (s.segPut8 r off k v).storedSince = s.storedSince :=
  (State.segPut8_onBus s _ _ _ _).storedSince
@[simp] theorem State.segPut8_queueFlushed (s : State) (r : SegReg) (off : Word) (k : Nat) (v : Byte) : (s.segPut8 r off k v).queueFlushed = s.queueFlushed :=
  (State.segPut8_onBus s _ _ _ _).queueFlushed
@[simp] theorem State.segPut8_stiShadow (s : State) (r : SegReg) (off : Word) (k : Nat) (v : Byte) : (s.segPut8 r off k v).stiShadow = s.stiShadow :=
  (State.segPut8_onBus s _ _ _ _).stiShadow
@[simp] theorem State.segPut8_freeCtr (s : State) (r : SegReg) (off : Word) (k : Nat) (v : Byte) : (s.segPut8 r off k v).freeCtr = s.freeCtr :=
  (State.segPut8_onBus s _ _ _ _).freeCtr

/-! ### `State.segPut16`: a bus cycle leaves the processor as it was -/

@[simp] theorem State.segPut16_gpr (s : State) (r : SegReg) (off v : Word) : (s.segPut16 r off v).gpr = s.gpr :=
  (State.segPut16_onBus s _ _ _).gpr
@[simp] theorem State.segPut16_ip (s : State) (r : SegReg) (off v : Word) : (s.segPut16 r off v).ip = s.ip :=
  (State.segPut16_onBus s _ _ _).ip
@[simp] theorem State.segPut16_flags (s : State) (r : SegReg) (off v : Word) : (s.segPut16 r off v).flags = s.flags :=
  (State.segPut16_onBus s _ _ _).flags
@[simp] theorem State.segPut16_msw (s : State) (r : SegReg) (off v : Word) : (s.segPut16 r off v).msw = s.msw :=
  (State.segPut16_onBus s _ _ _).msw
@[simp] theorem State.segPut16_es (s : State) (r : SegReg) (off v : Word) : (s.segPut16 r off v).es = s.es :=
  (State.segPut16_onBus s _ _ _).es
@[simp] theorem State.segPut16_cs (s : State) (r : SegReg) (off v : Word) : (s.segPut16 r off v).cs = s.cs :=
  (State.segPut16_onBus s _ _ _).cs
@[simp] theorem State.segPut16_ss (s : State) (r : SegReg) (off v : Word) : (s.segPut16 r off v).ss = s.ss :=
  (State.segPut16_onBus s _ _ _).ss
@[simp] theorem State.segPut16_ds (s : State) (r : SegReg) (off v : Word) : (s.segPut16 r off v).ds = s.ds :=
  (State.segPut16_onBus s _ _ _).ds
@[simp] theorem State.segPut16_gdtr (s : State) (r : SegReg) (off v : Word) : (s.segPut16 r off v).gdtr = s.gdtr :=
  (State.segPut16_onBus s _ _ _).gdtr
@[simp] theorem State.segPut16_idtr (s : State) (r : SegReg) (off v : Word) : (s.segPut16 r off v).idtr = s.idtr :=
  (State.segPut16_onBus s _ _ _).idtr
@[simp] theorem State.segPut16_ldtr (s : State) (r : SegReg) (off v : Word) : (s.segPut16 r off v).ldtr = s.ldtr :=
  (State.segPut16_onBus s _ _ _).ldtr
@[simp] theorem State.segPut16_tr (s : State) (r : SegReg) (off v : Word) : (s.segPut16 r off v).tr = s.tr :=
  (State.segPut16_onBus s _ _ _).tr
@[simp] theorem State.segPut16_run (s : State) (r : SegReg) (off v : Word) : (s.segPut16 r off v).run = s.run :=
  (State.segPut16_onBus s _ _ _).run
@[simp] theorem State.segPut16_nmiMasked (s : State) (r : SegReg) (off v : Word) : (s.segPut16 r off v).nmiMasked = s.nmiMasked :=
  (State.segPut16_onBus s _ _ _).nmiMasked
@[simp] theorem State.segPut16_nmiPending (s : State) (r : SegReg) (off v : Word) : (s.segPut16 r off v).nmiPending = s.nmiPending :=
  (State.segPut16_onBus s _ _ _).nmiPending
@[simp] theorem State.segPut16_inhibitNext (s : State) (r : SegReg) (off v : Word) : (s.segPut16 r off v).inhibitNext = s.inhibitNext :=
  (State.segPut16_onBus s _ _ _).inhibitNext
@[simp] theorem State.segPut16_tfAtStart (s : State) (r : SegReg) (off v : Word) : (s.segPut16 r off v).tfAtStart = s.tfAtStart :=
  (State.segPut16_onBus s _ _ _).tfAtStart
@[simp] theorem State.segPut16_int9Pending (s : State) (r : SegReg) (off v : Word) : (s.segPut16 r off v).int9Pending = s.int9Pending :=
  (State.segPut16_onBus s _ _ _).int9Pending
@[simp] theorem State.segPut16_portFeed (s : State) (r : SegReg) (off v : Word) : (s.segPut16 r off v).portFeed = s.portFeed :=
  (State.segPut16_onBus s _ _ _).portFeed
@[simp] theorem State.segPut16_portLog (s : State) (r : SegReg) (off v : Word) : (s.segPut16 r off v).portLog = s.portLog :=
  (State.segPut16_onBus s _ _ _).portLog
@[simp] theorem State.segPut16_npxReplies (s : State) (r : SegReg) (off v : Word) : (s.segPut16 r off v).npxReplies = s.npxReplies :=
  (State.segPut16_onBus s _ _ _).npxReplies
@[simp] theorem State.segPut16_pins (s : State) (r : SegReg) (off v : Word) : (s.segPut16 r off v).pins = s.pins :=
  (State.segPut16_onBus s _ _ _).pins
@[simp] theorem State.segPut16_inputs (s : State) (r : SegReg) (off v : Word) : (s.segPut16 r off v).inputs = s.inputs :=
  (State.segPut16_onBus s _ _ _).inputs
@[simp] theorem State.segPut16_platform (s : State) (r : SegReg) (off v : Word) : (s.segPut16 r off v).platform = s.platform :=
  (State.segPut16_onBus s _ _ _).platform
@[simp] theorem State.segPut16_pfx (s : State) (r : SegReg) (off v : Word) : (s.segPut16 r off v).pfx = s.pfx :=
  (State.segPut16_onBus s _ _ _).pfx
@[simp] theorem State.segPut16_nextIp (s : State) (r : SegReg) (off v : Word) : (s.segPut16 r off v).nextIp = s.nextIp :=
  (State.segPut16_onBus s _ _ _).nextIp
@[simp] theorem State.segPut16_lmsw (s : State) (r : SegReg) (off v : Word) : (s.segPut16 r off v).lmsw = s.lmsw :=
  (State.segPut16_onBus s _ _ _).lmsw
@[simp] theorem State.segPut16_hazardLmswNoJmp (s : State) (r : SegReg) (off v : Word) : (s.segPut16 r off v).hazardLmswNoJmp = s.hazardLmswNoJmp :=
  (State.segPut16_onBus s _ _ _).hazardLmswNoJmp
@[simp] theorem State.segPut16_hazardStaleCode (s : State) (r : SegReg) (off v : Word) : (s.segPut16 r off v).hazardStaleCode = s.hazardStaleCode :=
  (State.segPut16_onBus s _ _ _).hazardStaleCode
@[simp] theorem State.segPut16_storedSince (s : State) (r : SegReg) (off v : Word) : (s.segPut16 r off v).storedSince = s.storedSince :=
  (State.segPut16_onBus s _ _ _).storedSince
@[simp] theorem State.segPut16_queueFlushed (s : State) (r : SegReg) (off v : Word) : (s.segPut16 r off v).queueFlushed = s.queueFlushed :=
  (State.segPut16_onBus s _ _ _).queueFlushed
@[simp] theorem State.segPut16_stiShadow (s : State) (r : SegReg) (off v : Word) : (s.segPut16 r off v).stiShadow = s.stiShadow :=
  (State.segPut16_onBus s _ _ _).stiShadow
@[simp] theorem State.segPut16_freeCtr (s : State) (r : SegReg) (off v : Word) : (s.segPut16 r off v).freeCtr = s.freeCtr :=
  (State.segPut16_onBus s _ _ _).freeCtr

/-! ### `State.poke8`: a bus cycle leaves the processor as it was -/

@[simp] theorem State.poke8_gpr (s : State) (a : Addr) (k : Nat) (v : Byte) : (s.poke8 a k v).gpr = s.gpr :=
  (State.poke8_onBus s _ _ _).gpr
@[simp] theorem State.poke8_ip (s : State) (a : Addr) (k : Nat) (v : Byte) : (s.poke8 a k v).ip = s.ip :=
  (State.poke8_onBus s _ _ _).ip
@[simp] theorem State.poke8_flags (s : State) (a : Addr) (k : Nat) (v : Byte) : (s.poke8 a k v).flags = s.flags :=
  (State.poke8_onBus s _ _ _).flags
@[simp] theorem State.poke8_msw (s : State) (a : Addr) (k : Nat) (v : Byte) : (s.poke8 a k v).msw = s.msw :=
  (State.poke8_onBus s _ _ _).msw
@[simp] theorem State.poke8_es (s : State) (a : Addr) (k : Nat) (v : Byte) : (s.poke8 a k v).es = s.es :=
  (State.poke8_onBus s _ _ _).es
@[simp] theorem State.poke8_cs (s : State) (a : Addr) (k : Nat) (v : Byte) : (s.poke8 a k v).cs = s.cs :=
  (State.poke8_onBus s _ _ _).cs
@[simp] theorem State.poke8_ss (s : State) (a : Addr) (k : Nat) (v : Byte) : (s.poke8 a k v).ss = s.ss :=
  (State.poke8_onBus s _ _ _).ss
@[simp] theorem State.poke8_ds (s : State) (a : Addr) (k : Nat) (v : Byte) : (s.poke8 a k v).ds = s.ds :=
  (State.poke8_onBus s _ _ _).ds
@[simp] theorem State.poke8_gdtr (s : State) (a : Addr) (k : Nat) (v : Byte) : (s.poke8 a k v).gdtr = s.gdtr :=
  (State.poke8_onBus s _ _ _).gdtr
@[simp] theorem State.poke8_idtr (s : State) (a : Addr) (k : Nat) (v : Byte) : (s.poke8 a k v).idtr = s.idtr :=
  (State.poke8_onBus s _ _ _).idtr
@[simp] theorem State.poke8_ldtr (s : State) (a : Addr) (k : Nat) (v : Byte) : (s.poke8 a k v).ldtr = s.ldtr :=
  (State.poke8_onBus s _ _ _).ldtr
@[simp] theorem State.poke8_tr (s : State) (a : Addr) (k : Nat) (v : Byte) : (s.poke8 a k v).tr = s.tr :=
  (State.poke8_onBus s _ _ _).tr
@[simp] theorem State.poke8_run (s : State) (a : Addr) (k : Nat) (v : Byte) : (s.poke8 a k v).run = s.run :=
  (State.poke8_onBus s _ _ _).run
@[simp] theorem State.poke8_nmiMasked (s : State) (a : Addr) (k : Nat) (v : Byte) : (s.poke8 a k v).nmiMasked = s.nmiMasked :=
  (State.poke8_onBus s _ _ _).nmiMasked
@[simp] theorem State.poke8_nmiPending (s : State) (a : Addr) (k : Nat) (v : Byte) : (s.poke8 a k v).nmiPending = s.nmiPending :=
  (State.poke8_onBus s _ _ _).nmiPending
@[simp] theorem State.poke8_inhibitNext (s : State) (a : Addr) (k : Nat) (v : Byte) : (s.poke8 a k v).inhibitNext = s.inhibitNext :=
  (State.poke8_onBus s _ _ _).inhibitNext
@[simp] theorem State.poke8_tfAtStart (s : State) (a : Addr) (k : Nat) (v : Byte) : (s.poke8 a k v).tfAtStart = s.tfAtStart :=
  (State.poke8_onBus s _ _ _).tfAtStart
@[simp] theorem State.poke8_int9Pending (s : State) (a : Addr) (k : Nat) (v : Byte) : (s.poke8 a k v).int9Pending = s.int9Pending :=
  (State.poke8_onBus s _ _ _).int9Pending
@[simp] theorem State.poke8_portFeed (s : State) (a : Addr) (k : Nat) (v : Byte) : (s.poke8 a k v).portFeed = s.portFeed :=
  (State.poke8_onBus s _ _ _).portFeed
@[simp] theorem State.poke8_portLog (s : State) (a : Addr) (k : Nat) (v : Byte) : (s.poke8 a k v).portLog = s.portLog :=
  (State.poke8_onBus s _ _ _).portLog
@[simp] theorem State.poke8_escLog (s : State) (a : Addr) (k : Nat) (v : Byte) : (s.poke8 a k v).escLog = s.escLog :=
  State.store_escLog _ _ _
@[simp] theorem State.poke8_npxReplies (s : State) (a : Addr) (k : Nat) (v : Byte) : (s.poke8 a k v).npxReplies = s.npxReplies :=
  (State.poke8_onBus s _ _ _).npxReplies
@[simp] theorem State.poke8_pins (s : State) (a : Addr) (k : Nat) (v : Byte) : (s.poke8 a k v).pins = s.pins :=
  (State.poke8_onBus s _ _ _).pins
@[simp] theorem State.poke8_inputs (s : State) (a : Addr) (k : Nat) (v : Byte) : (s.poke8 a k v).inputs = s.inputs :=
  (State.poke8_onBus s _ _ _).inputs
@[simp] theorem State.poke8_platform (s : State) (a : Addr) (k : Nat) (v : Byte) : (s.poke8 a k v).platform = s.platform :=
  (State.poke8_onBus s _ _ _).platform
@[simp] theorem State.poke8_pfx (s : State) (a : Addr) (k : Nat) (v : Byte) : (s.poke8 a k v).pfx = s.pfx :=
  (State.poke8_onBus s _ _ _).pfx
@[simp] theorem State.poke8_nextIp (s : State) (a : Addr) (k : Nat) (v : Byte) : (s.poke8 a k v).nextIp = s.nextIp :=
  (State.poke8_onBus s _ _ _).nextIp
@[simp] theorem State.poke8_lmsw (s : State) (a : Addr) (k : Nat) (v : Byte) : (s.poke8 a k v).lmsw = s.lmsw :=
  (State.poke8_onBus s _ _ _).lmsw
@[simp] theorem State.poke8_hazardLmswNoJmp (s : State) (a : Addr) (k : Nat) (v : Byte) : (s.poke8 a k v).hazardLmswNoJmp = s.hazardLmswNoJmp :=
  (State.poke8_onBus s _ _ _).hazardLmswNoJmp
@[simp] theorem State.poke8_hazardStaleCode (s : State) (a : Addr) (k : Nat) (v : Byte) : (s.poke8 a k v).hazardStaleCode = s.hazardStaleCode :=
  (State.poke8_onBus s _ _ _).hazardStaleCode
@[simp] theorem State.poke8_storedSince (s : State) (a : Addr) (k : Nat) (v : Byte) : (s.poke8 a k v).storedSince = s.storedSince :=
  (State.poke8_onBus s _ _ _).storedSince
@[simp] theorem State.poke8_queueFlushed (s : State) (a : Addr) (k : Nat) (v : Byte) : (s.poke8 a k v).queueFlushed = s.queueFlushed :=
  (State.poke8_onBus s _ _ _).queueFlushed
@[simp] theorem State.poke8_stiShadow (s : State) (a : Addr) (k : Nat) (v : Byte) : (s.poke8 a k v).stiShadow = s.stiShadow :=
  (State.poke8_onBus s _ _ _).stiShadow
@[simp] theorem State.poke8_freeCtr (s : State) (a : Addr) (k : Nat) (v : Byte) : (s.poke8 a k v).freeCtr = s.freeCtr :=
  (State.poke8_onBus s _ _ _).freeCtr

/-! ### `State.poke16`: a bus cycle leaves the processor as it was -/

@[simp] theorem State.poke16_gpr (s : State) (a : Addr) (k : Nat) (v : Word) : (s.poke16 a k v).gpr = s.gpr :=
  (State.poke16_onBus s _ _ _).gpr
@[simp] theorem State.poke16_ip (s : State) (a : Addr) (k : Nat) (v : Word) : (s.poke16 a k v).ip = s.ip :=
  (State.poke16_onBus s _ _ _).ip
@[simp] theorem State.poke16_flags (s : State) (a : Addr) (k : Nat) (v : Word) : (s.poke16 a k v).flags = s.flags :=
  (State.poke16_onBus s _ _ _).flags
@[simp] theorem State.poke16_msw (s : State) (a : Addr) (k : Nat) (v : Word) : (s.poke16 a k v).msw = s.msw :=
  (State.poke16_onBus s _ _ _).msw
@[simp] theorem State.poke16_es (s : State) (a : Addr) (k : Nat) (v : Word) : (s.poke16 a k v).es = s.es :=
  (State.poke16_onBus s _ _ _).es
@[simp] theorem State.poke16_cs (s : State) (a : Addr) (k : Nat) (v : Word) : (s.poke16 a k v).cs = s.cs :=
  (State.poke16_onBus s _ _ _).cs
@[simp] theorem State.poke16_ss (s : State) (a : Addr) (k : Nat) (v : Word) : (s.poke16 a k v).ss = s.ss :=
  (State.poke16_onBus s _ _ _).ss
@[simp] theorem State.poke16_ds (s : State) (a : Addr) (k : Nat) (v : Word) : (s.poke16 a k v).ds = s.ds :=
  (State.poke16_onBus s _ _ _).ds
@[simp] theorem State.poke16_gdtr (s : State) (a : Addr) (k : Nat) (v : Word) : (s.poke16 a k v).gdtr = s.gdtr :=
  (State.poke16_onBus s _ _ _).gdtr
@[simp] theorem State.poke16_idtr (s : State) (a : Addr) (k : Nat) (v : Word) : (s.poke16 a k v).idtr = s.idtr :=
  (State.poke16_onBus s _ _ _).idtr
@[simp] theorem State.poke16_ldtr (s : State) (a : Addr) (k : Nat) (v : Word) : (s.poke16 a k v).ldtr = s.ldtr :=
  (State.poke16_onBus s _ _ _).ldtr
@[simp] theorem State.poke16_tr (s : State) (a : Addr) (k : Nat) (v : Word) : (s.poke16 a k v).tr = s.tr :=
  (State.poke16_onBus s _ _ _).tr
@[simp] theorem State.poke16_run (s : State) (a : Addr) (k : Nat) (v : Word) : (s.poke16 a k v).run = s.run :=
  (State.poke16_onBus s _ _ _).run
@[simp] theorem State.poke16_nmiMasked (s : State) (a : Addr) (k : Nat) (v : Word) : (s.poke16 a k v).nmiMasked = s.nmiMasked :=
  (State.poke16_onBus s _ _ _).nmiMasked
@[simp] theorem State.poke16_nmiPending (s : State) (a : Addr) (k : Nat) (v : Word) : (s.poke16 a k v).nmiPending = s.nmiPending :=
  (State.poke16_onBus s _ _ _).nmiPending
@[simp] theorem State.poke16_inhibitNext (s : State) (a : Addr) (k : Nat) (v : Word) : (s.poke16 a k v).inhibitNext = s.inhibitNext :=
  (State.poke16_onBus s _ _ _).inhibitNext
@[simp] theorem State.poke16_tfAtStart (s : State) (a : Addr) (k : Nat) (v : Word) : (s.poke16 a k v).tfAtStart = s.tfAtStart :=
  (State.poke16_onBus s _ _ _).tfAtStart
@[simp] theorem State.poke16_int9Pending (s : State) (a : Addr) (k : Nat) (v : Word) : (s.poke16 a k v).int9Pending = s.int9Pending :=
  (State.poke16_onBus s _ _ _).int9Pending
@[simp] theorem State.poke16_portFeed (s : State) (a : Addr) (k : Nat) (v : Word) : (s.poke16 a k v).portFeed = s.portFeed :=
  (State.poke16_onBus s _ _ _).portFeed
@[simp] theorem State.poke16_portLog (s : State) (a : Addr) (k : Nat) (v : Word) : (s.poke16 a k v).portLog = s.portLog :=
  (State.poke16_onBus s _ _ _).portLog
@[simp] theorem State.poke16_npxReplies (s : State) (a : Addr) (k : Nat) (v : Word) : (s.poke16 a k v).npxReplies = s.npxReplies :=
  (State.poke16_onBus s _ _ _).npxReplies
@[simp] theorem State.poke16_pins (s : State) (a : Addr) (k : Nat) (v : Word) : (s.poke16 a k v).pins = s.pins :=
  (State.poke16_onBus s _ _ _).pins
@[simp] theorem State.poke16_inputs (s : State) (a : Addr) (k : Nat) (v : Word) : (s.poke16 a k v).inputs = s.inputs :=
  (State.poke16_onBus s _ _ _).inputs
@[simp] theorem State.poke16_platform (s : State) (a : Addr) (k : Nat) (v : Word) : (s.poke16 a k v).platform = s.platform :=
  (State.poke16_onBus s _ _ _).platform
@[simp] theorem State.poke16_pfx (s : State) (a : Addr) (k : Nat) (v : Word) : (s.poke16 a k v).pfx = s.pfx :=
  (State.poke16_onBus s _ _ _).pfx
@[simp] theorem State.poke16_nextIp (s : State) (a : Addr) (k : Nat) (v : Word) : (s.poke16 a k v).nextIp = s.nextIp :=
  (State.poke16_onBus s _ _ _).nextIp
@[simp] theorem State.poke16_lmsw (s : State) (a : Addr) (k : Nat) (v : Word) : (s.poke16 a k v).lmsw = s.lmsw :=
  (State.poke16_onBus s _ _ _).lmsw
@[simp] theorem State.poke16_hazardLmswNoJmp (s : State) (a : Addr) (k : Nat) (v : Word) : (s.poke16 a k v).hazardLmswNoJmp = s.hazardLmswNoJmp :=
  (State.poke16_onBus s _ _ _).hazardLmswNoJmp
@[simp] theorem State.poke16_hazardStaleCode (s : State) (a : Addr) (k : Nat) (v : Word) : (s.poke16 a k v).hazardStaleCode = s.hazardStaleCode :=
  (State.poke16_onBus s _ _ _).hazardStaleCode
@[simp] theorem State.poke16_storedSince (s : State) (a : Addr) (k : Nat) (v : Word) : (s.poke16 a k v).storedSince = s.storedSince :=
  (State.poke16_onBus s _ _ _).storedSince
@[simp] theorem State.poke16_queueFlushed (s : State) (a : Addr) (k : Nat) (v : Word) : (s.poke16 a k v).queueFlushed = s.queueFlushed :=
  (State.poke16_onBus s _ _ _).queueFlushed
@[simp] theorem State.poke16_stiShadow (s : State) (a : Addr) (k : Nat) (v : Word) : (s.poke16 a k v).stiShadow = s.stiShadow :=
  (State.poke16_onBus s _ _ _).stiShadow
@[simp] theorem State.poke16_freeCtr (s : State) (a : Addr) (k : Nat) (v : Word) : (s.poke16 a k v).freeCtr = s.freeCtr :=
  (State.poke16_onBus s _ _ _).freeCtr

/-! ### `State.setAccessed`: a bus cycle leaves the processor as it was -/

@[simp] theorem State.setAccessed_gpr (s : State) (d : Desc) : (s.setAccessed d).gpr = s.gpr :=
  (State.setAccessed_onBus s _).gpr
@[simp] theorem State.setAccessed_ip (s : State) (d : Desc) : (s.setAccessed d).ip = s.ip := (State.setAccessed_onBus s _).ip
@[simp] theorem State.setAccessed_flags (s : State) (d : Desc) : (s.setAccessed d).flags = s.flags :=
  (State.setAccessed_onBus s _).flags
@[simp] theorem State.setAccessed_msw (s : State) (d : Desc) : (s.setAccessed d).msw = s.msw :=
  (State.setAccessed_onBus s _).msw
@[simp] theorem State.setAccessed_es (s : State) (d : Desc) : (s.setAccessed d).es = s.es := (State.setAccessed_onBus s _).es
@[simp] theorem State.setAccessed_cs (s : State) (d : Desc) : (s.setAccessed d).cs = s.cs := (State.setAccessed_onBus s _).cs
@[simp] theorem State.setAccessed_ss (s : State) (d : Desc) : (s.setAccessed d).ss = s.ss := (State.setAccessed_onBus s _).ss
@[simp] theorem State.setAccessed_ds (s : State) (d : Desc) : (s.setAccessed d).ds = s.ds := (State.setAccessed_onBus s _).ds
@[simp] theorem State.setAccessed_gdtr (s : State) (d : Desc) : (s.setAccessed d).gdtr = s.gdtr :=
  (State.setAccessed_onBus s _).gdtr
@[simp] theorem State.setAccessed_idtr (s : State) (d : Desc) : (s.setAccessed d).idtr = s.idtr :=
  (State.setAccessed_onBus s _).idtr
@[simp] theorem State.setAccessed_ldtr (s : State) (d : Desc) : (s.setAccessed d).ldtr = s.ldtr :=
  (State.setAccessed_onBus s _).ldtr
@[simp] theorem State.setAccessed_tr (s : State) (d : Desc) : (s.setAccessed d).tr = s.tr := (State.setAccessed_onBus s _).tr
@[simp] theorem State.setAccessed_run (s : State) (d : Desc) : (s.setAccessed d).run = s.run :=
  (State.setAccessed_onBus s _).run
@[simp] theorem State.setAccessed_nmiMasked (s : State) (d : Desc) : (s.setAccessed d).nmiMasked = s.nmiMasked :=
  (State.setAccessed_onBus s _).nmiMasked
@[simp] theorem State.setAccessed_nmiPending (s : State) (d : Desc) : (s.setAccessed d).nmiPending = s.nmiPending :=
  (State.setAccessed_onBus s _).nmiPending
@[simp] theorem State.setAccessed_inhibitNext (s : State) (d : Desc) : (s.setAccessed d).inhibitNext = s.inhibitNext :=
  (State.setAccessed_onBus s _).inhibitNext
@[simp] theorem State.setAccessed_tfAtStart (s : State) (d : Desc) : (s.setAccessed d).tfAtStart = s.tfAtStart :=
  (State.setAccessed_onBus s _).tfAtStart
@[simp] theorem State.setAccessed_int9Pending (s : State) (d : Desc) : (s.setAccessed d).int9Pending = s.int9Pending :=
  (State.setAccessed_onBus s _).int9Pending
@[simp] theorem State.setAccessed_portFeed (s : State) (d : Desc) : (s.setAccessed d).portFeed = s.portFeed :=
  (State.setAccessed_onBus s _).portFeed
@[simp] theorem State.setAccessed_portLog (s : State) (d : Desc) : (s.setAccessed d).portLog = s.portLog :=
  (State.setAccessed_onBus s _).portLog
@[simp] theorem State.setAccessed_npxReplies (s : State) (d : Desc) : (s.setAccessed d).npxReplies = s.npxReplies :=
  (State.setAccessed_onBus s _).npxReplies
@[simp] theorem State.setAccessed_pins (s : State) (d : Desc) : (s.setAccessed d).pins = s.pins :=
  (State.setAccessed_onBus s _).pins
@[simp] theorem State.setAccessed_inputs (s : State) (d : Desc) : (s.setAccessed d).inputs = s.inputs :=
  (State.setAccessed_onBus s _).inputs
@[simp] theorem State.setAccessed_platform (s : State) (d : Desc) : (s.setAccessed d).platform = s.platform :=
  (State.setAccessed_onBus s _).platform
@[simp] theorem State.setAccessed_pfx (s : State) (d : Desc) : (s.setAccessed d).pfx = s.pfx :=
  (State.setAccessed_onBus s _).pfx
@[simp] theorem State.setAccessed_nextIp (s : State) (d : Desc) : (s.setAccessed d).nextIp = s.nextIp :=
  (State.setAccessed_onBus s _).nextIp
@[simp] theorem State.setAccessed_lmsw (s : State) (d : Desc) : (s.setAccessed d).lmsw = s.lmsw :=
  (State.setAccessed_onBus s _).lmsw
@[simp] theorem State.setAccessed_hazardLmswNoJmp (s : State) (d : Desc) : (s.setAccessed d).hazardLmswNoJmp = s.hazardLmswNoJmp :=
  (State.setAccessed_onBus s _).hazardLmswNoJmp
@[simp] theorem State.setAccessed_hazardStaleCode (s : State) (d : Desc) : (s.setAccessed d).hazardStaleCode = s.hazardStaleCode :=
  (State.setAccessed_onBus s _).hazardStaleCode
@[simp] theorem State.setAccessed_storedSince (s : State) (d : Desc) : (s.setAccessed d).storedSince = s.storedSince :=
  (State.setAccessed_onBus s _).storedSince
@[simp] theorem State.setAccessed_queueFlushed (s : State) (d : Desc) : (s.setAccessed d).queueFlushed = s.queueFlushed :=
  (State.setAccessed_onBus s _).queueFlushed
@[simp] theorem State.setAccessed_stiShadow (s : State) (d : Desc) : (s.setAccessed d).stiShadow = s.stiShadow :=
  (State.setAccessed_onBus s _).stiShadow
@[simp] theorem State.setAccessed_freeCtr (s : State) (d : Desc) : (s.setAccessed d).freeCtr = s.freeCtr :=
  (State.setAccessed_onBus s _).freeCtr

/-! ### `State.setSp` -/

@[simp] theorem State.setSp_ip (s : State) (v : Word) : (s.setSp v).ip = s.ip := rfl
@[simp] theorem State.setSp_flags (s : State) (v : Word) : (s.setSp v).flags = s.flags := rfl
@[simp] theorem State.setSp_msw (s : State) (v : Word) : (s.setSp v).msw = s.msw := rfl
@[simp] theorem State.setSp_es (s : State) (v : Word) : (s.setSp v).es = s.es := rfl
@[simp] theorem State.setSp_cs (s : State) (v : Word) : (s.setSp v).cs = s.cs := rfl
@[simp] theorem State.setSp_ss (s : State) (v : Word) : (s.setSp v).ss = s.ss := rfl
@[simp] theorem State.setSp_ds (s : State) (v : Word) : (s.setSp v).ds = s.ds := rfl
@[simp] theorem State.setSp_gdtr (s : State) (v : Word) : (s.setSp v).gdtr = s.gdtr := rfl
@[simp] theorem State.setSp_idtr (s : State) (v : Word) : (s.setSp v).idtr = s.idtr := rfl
@[simp] theorem State.setSp_ldtr (s : State) (v : Word) : (s.setSp v).ldtr = s.ldtr := rfl
@[simp] theorem State.setSp_tr (s : State) (v : Word) : (s.setSp v).tr = s.tr := rfl
@[simp] theorem State.setSp_run (s : State) (v : Word) : (s.setSp v).run = s.run := rfl
@[simp] theorem State.setSp_nmiMasked (s : State) (v : Word) : (s.setSp v).nmiMasked = s.nmiMasked := rfl
@[simp] theorem State.setSp_nmiPending (s : State) (v : Word) : (s.setSp v).nmiPending = s.nmiPending := rfl
@[simp] theorem State.setSp_inhibitNext (s : State) (v : Word) : (s.setSp v).inhibitNext = s.inhibitNext := rfl
@[simp] theorem State.setSp_tfAtStart (s : State) (v : Word) : (s.setSp v).tfAtStart = s.tfAtStart := rfl
@[simp] theorem State.setSp_int9Pending (s : State) (v : Word) : (s.setSp v).int9Pending = s.int9Pending := rfl
@[simp] theorem State.setSp_mem (s : State) (v : Word) : (s.setSp v).mem = s.mem := rfl
@[simp] theorem State.setSp_bus (s : State) (v : Word) : (s.setSp v).bus = s.bus := rfl
@[simp] theorem State.setSp_portFeed (s : State) (v : Word) : (s.setSp v).portFeed = s.portFeed := rfl
@[simp] theorem State.setSp_portLog (s : State) (v : Word) : (s.setSp v).portLog = s.portLog := rfl
@[simp] theorem State.setSp_escLog (s : State) (v : Word) : (s.setSp v).escLog = s.escLog := rfl
@[simp] theorem State.setSp_npxReplies (s : State) (v : Word) : (s.setSp v).npxReplies = s.npxReplies := rfl
@[simp] theorem State.setSp_pins (s : State) (v : Word) : (s.setSp v).pins = s.pins := rfl
@[simp] theorem State.setSp_inputs (s : State) (v : Word) : (s.setSp v).inputs = s.inputs := rfl
@[simp] theorem State.setSp_platform (s : State) (v : Word) : (s.setSp v).platform = s.platform := rfl
@[simp] theorem State.setSp_pfx (s : State) (v : Word) : (s.setSp v).pfx = s.pfx := rfl
@[simp] theorem State.setSp_nextIp (s : State) (v : Word) : (s.setSp v).nextIp = s.nextIp := rfl
@[simp] theorem State.setSp_lmsw (s : State) (v : Word) : (s.setSp v).lmsw = s.lmsw := rfl
@[simp] theorem State.setSp_hazardLmswNoJmp (s : State) (v : Word) : (s.setSp v).hazardLmswNoJmp = s.hazardLmswNoJmp := rfl
@[simp] theorem State.setSp_hazardStaleCode (s : State) (v : Word) : (s.setSp v).hazardStaleCode = s.hazardStaleCode := rfl
@[simp] theorem State.setSp_storedSince (s : State) (v : Word) : (s.setSp v).storedSince = s.storedSince := rfl
@[simp] theorem State.setSp_queueFlushed (s : State) (v : Word) : (s.setSp v).queueFlushed = s.queueFlushed := rfl
@[simp] theorem State.setSp_stiShadow (s : State) (v : Word) : (s.setSp v).stiShadow = s.stiShadow := rfl
@[simp] theorem State.setSp_freeCtr (s : State) (v : Word) : (s.setSp v).freeCtr = s.freeCtr := rfl

/-! ### `State.setReg16` -/

@[simp] theorem State.setReg16_ip (s : State) (r : Reg16) (v : Word) : (s.setReg16 r v).ip = s.ip := rfl
@[simp] theorem State.setReg16_flags (s : State) (r : Reg16) (v : Word) : (s.setReg16 r v).flags = s.flags := rfl
@[simp] theorem State.setReg16_msw (s : State) (r : Reg16) (v : Word) : (s.setReg16 r v).msw = s.msw := rfl
@[simp] theorem State.setReg16_es (s : State) (r : Reg16) (v : Word) : (s.setReg16 r v).es = s.es := rfl
@[simp] theorem State.setReg16_cs (s : State) (r : Reg16) (v : Word) : (s.setReg16 r v).cs = s.cs := rfl
@[simp] theorem State.setReg16_ss (s : State) (r : Reg16) (v : Word) : (s.setReg16 r v).ss = s.ss := rfl
@[simp] theorem State.setReg16_ds (s : State) (r : Reg16) (v : Word) : (s.setReg16 r v).ds = s.ds := rfl
@[simp] theorem State.setReg16_gdtr (s : State) (r : Reg16) (v : Word) : (s.setReg16 r v).gdtr = s.gdtr := rfl
@[simp] theorem State.setReg16_idtr (s : State) (r : Reg16) (v : Word) : (s.setReg16 r v).idtr = s.idtr := rfl
@[simp] theorem State.setReg16_ldtr (s : State) (r : Reg16) (v : Word) : (s.setReg16 r v).ldtr = s.ldtr := rfl
@[simp] theorem State.setReg16_tr (s : State) (r : Reg16) (v : Word) : (s.setReg16 r v).tr = s.tr := rfl
@[simp] theorem State.setReg16_run (s : State) (r : Reg16) (v : Word) : (s.setReg16 r v).run = s.run := rfl
@[simp] theorem State.setReg16_nmiMasked (s : State) (r : Reg16) (v : Word) : (s.setReg16 r v).nmiMasked = s.nmiMasked := rfl
@[simp] theorem State.setReg16_nmiPending (s : State) (r : Reg16) (v : Word) : (s.setReg16 r v).nmiPending = s.nmiPending :=
  rfl
@[simp] theorem State.setReg16_inhibitNext (s : State) (r : Reg16) (v : Word) : (s.setReg16 r v).inhibitNext = s.inhibitNext :=
  rfl
@[simp] theorem State.setReg16_tfAtStart (s : State) (r : Reg16) (v : Word) : (s.setReg16 r v).tfAtStart = s.tfAtStart := rfl
@[simp] theorem State.setReg16_int9Pending (s : State) (r : Reg16) (v : Word) : (s.setReg16 r v).int9Pending = s.int9Pending :=
  rfl
@[simp] theorem State.setReg16_mem (s : State) (r : Reg16) (v : Word) : (s.setReg16 r v).mem = s.mem := rfl
@[simp] theorem State.setReg16_bus (s : State) (r : Reg16) (v : Word) : (s.setReg16 r v).bus = s.bus := rfl
@[simp] theorem State.setReg16_portFeed (s : State) (r : Reg16) (v : Word) : (s.setReg16 r v).portFeed = s.portFeed := rfl
@[simp] theorem State.setReg16_portLog (s : State) (r : Reg16) (v : Word) : (s.setReg16 r v).portLog = s.portLog := rfl
@[simp] theorem State.setReg16_escLog (s : State) (r : Reg16) (v : Word) : (s.setReg16 r v).escLog = s.escLog := rfl
@[simp] theorem State.setReg16_npxReplies (s : State) (r : Reg16) (v : Word) : (s.setReg16 r v).npxReplies = s.npxReplies :=
  rfl
@[simp] theorem State.setReg16_pins (s : State) (r : Reg16) (v : Word) : (s.setReg16 r v).pins = s.pins := rfl
@[simp] theorem State.setReg16_inputs (s : State) (r : Reg16) (v : Word) : (s.setReg16 r v).inputs = s.inputs := rfl
@[simp] theorem State.setReg16_platform (s : State) (r : Reg16) (v : Word) : (s.setReg16 r v).platform = s.platform := rfl
@[simp] theorem State.setReg16_pfx (s : State) (r : Reg16) (v : Word) : (s.setReg16 r v).pfx = s.pfx := rfl
@[simp] theorem State.setReg16_nextIp (s : State) (r : Reg16) (v : Word) : (s.setReg16 r v).nextIp = s.nextIp := rfl
@[simp] theorem State.setReg16_lmsw (s : State) (r : Reg16) (v : Word) : (s.setReg16 r v).lmsw = s.lmsw := rfl
@[simp] theorem State.setReg16_hazardLmswNoJmp (s : State) (r : Reg16) (v : Word) : (s.setReg16 r v).hazardLmswNoJmp = s.hazardLmswNoJmp :=
  rfl
@[simp] theorem State.setReg16_hazardStaleCode (s : State) (r : Reg16) (v : Word) : (s.setReg16 r v).hazardStaleCode = s.hazardStaleCode :=
  rfl
@[simp] theorem State.setReg16_storedSince (s : State) (r : Reg16) (v : Word) : (s.setReg16 r v).storedSince = s.storedSince :=
  rfl
@[simp] theorem State.setReg16_queueFlushed (s : State) (r : Reg16) (v : Word) : (s.setReg16 r v).queueFlushed = s.queueFlushed :=
  rfl
@[simp] theorem State.setReg16_stiShadow (s : State) (r : Reg16) (v : Word) : (s.setReg16 r v).stiShadow = s.stiShadow := rfl
@[simp] theorem State.setReg16_freeCtr (s : State) (r : Reg16) (v : Word) : (s.setReg16 r v).freeCtr = s.freeCtr := rfl

/-! ### `State.setReg8` -/

@[simp] theorem State.setReg8_ip (s : State) (r : Reg8) (v : Byte) : (s.setReg8 r v).ip = s.ip := rfl
@[simp] theorem State.setReg8_flags (s : State) (r : Reg8) (v : Byte) : (s.setReg8 r v).flags = s.flags := rfl
@[simp] theorem State.setReg8_msw (s : State) (r : Reg8) (v : Byte) : (s.setReg8 r v).msw = s.msw := rfl
@[simp] theorem State.setReg8_es (s : State) (r : Reg8) (v : Byte) : (s.setReg8 r v).es = s.es := rfl
@[simp] theorem State.setReg8_cs (s : State) (r : Reg8) (v : Byte) : (s.setReg8 r v).cs = s.cs := rfl
@[simp] theorem State.setReg8_ss (s : State) (r : Reg8) (v : Byte) : (s.setReg8 r v).ss = s.ss := rfl
@[simp] theorem State.setReg8_ds (s : State) (r : Reg8) (v : Byte) : (s.setReg8 r v).ds = s.ds := rfl
@[simp] theorem State.setReg8_gdtr (s : State) (r : Reg8) (v : Byte) : (s.setReg8 r v).gdtr = s.gdtr := rfl
@[simp] theorem State.setReg8_idtr (s : State) (r : Reg8) (v : Byte) : (s.setReg8 r v).idtr = s.idtr := rfl
@[simp] theorem State.setReg8_ldtr (s : State) (r : Reg8) (v : Byte) : (s.setReg8 r v).ldtr = s.ldtr := rfl
@[simp] theorem State.setReg8_tr (s : State) (r : Reg8) (v : Byte) : (s.setReg8 r v).tr = s.tr := rfl
@[simp] theorem State.setReg8_run (s : State) (r : Reg8) (v : Byte) : (s.setReg8 r v).run = s.run := rfl
@[simp] theorem State.setReg8_nmiMasked (s : State) (r : Reg8) (v : Byte) : (s.setReg8 r v).nmiMasked = s.nmiMasked := rfl
@[simp] theorem State.setReg8_nmiPending (s : State) (r : Reg8) (v : Byte) : (s.setReg8 r v).nmiPending = s.nmiPending := rfl
@[simp] theorem State.setReg8_inhibitNext (s : State) (r : Reg8) (v : Byte) : (s.setReg8 r v).inhibitNext = s.inhibitNext :=
  rfl
@[simp] theorem State.setReg8_tfAtStart (s : State) (r : Reg8) (v : Byte) : (s.setReg8 r v).tfAtStart = s.tfAtStart := rfl
@[simp] theorem State.setReg8_int9Pending (s : State) (r : Reg8) (v : Byte) : (s.setReg8 r v).int9Pending = s.int9Pending :=
  rfl
@[simp] theorem State.setReg8_mem (s : State) (r : Reg8) (v : Byte) : (s.setReg8 r v).mem = s.mem := rfl
@[simp] theorem State.setReg8_bus (s : State) (r : Reg8) (v : Byte) : (s.setReg8 r v).bus = s.bus := rfl
@[simp] theorem State.setReg8_portFeed (s : State) (r : Reg8) (v : Byte) : (s.setReg8 r v).portFeed = s.portFeed := rfl
@[simp] theorem State.setReg8_portLog (s : State) (r : Reg8) (v : Byte) : (s.setReg8 r v).portLog = s.portLog := rfl
@[simp] theorem State.setReg8_escLog (s : State) (r : Reg8) (v : Byte) : (s.setReg8 r v).escLog = s.escLog := rfl
@[simp] theorem State.setReg8_npxReplies (s : State) (r : Reg8) (v : Byte) : (s.setReg8 r v).npxReplies = s.npxReplies := rfl
@[simp] theorem State.setReg8_pins (s : State) (r : Reg8) (v : Byte) : (s.setReg8 r v).pins = s.pins := rfl
@[simp] theorem State.setReg8_inputs (s : State) (r : Reg8) (v : Byte) : (s.setReg8 r v).inputs = s.inputs := rfl
@[simp] theorem State.setReg8_platform (s : State) (r : Reg8) (v : Byte) : (s.setReg8 r v).platform = s.platform := rfl
@[simp] theorem State.setReg8_pfx (s : State) (r : Reg8) (v : Byte) : (s.setReg8 r v).pfx = s.pfx := rfl
@[simp] theorem State.setReg8_nextIp (s : State) (r : Reg8) (v : Byte) : (s.setReg8 r v).nextIp = s.nextIp := rfl
@[simp] theorem State.setReg8_lmsw (s : State) (r : Reg8) (v : Byte) : (s.setReg8 r v).lmsw = s.lmsw := rfl
@[simp] theorem State.setReg8_hazardLmswNoJmp (s : State) (r : Reg8) (v : Byte) : (s.setReg8 r v).hazardLmswNoJmp = s.hazardLmswNoJmp :=
  rfl
@[simp] theorem State.setReg8_hazardStaleCode (s : State) (r : Reg8) (v : Byte) : (s.setReg8 r v).hazardStaleCode = s.hazardStaleCode :=
  rfl
@[simp] theorem State.setReg8_storedSince (s : State) (r : Reg8) (v : Byte) : (s.setReg8 r v).storedSince = s.storedSince :=
  rfl
@[simp] theorem State.setReg8_queueFlushed (s : State) (r : Reg8) (v : Byte) : (s.setReg8 r v).queueFlushed = s.queueFlushed :=
  rfl
@[simp] theorem State.setReg8_stiShadow (s : State) (r : Reg8) (v : Byte) : (s.setReg8 r v).stiShadow = s.stiShadow := rfl
@[simp] theorem State.setReg8_freeCtr (s : State) (r : Reg8) (v : Byte) : (s.setReg8 r v).freeCtr = s.freeCtr := rfl

/-! ### `State.setFlags` -/

@[simp] theorem State.setFlags_gpr (s : State) (f : Flags) : (s.setFlags f).gpr = s.gpr := rfl
@[simp] theorem State.setFlags_ip (s : State) (f : Flags) : (s.setFlags f).ip = s.ip := rfl
@[simp] theorem State.setFlags_msw (s : State) (f : Flags) : (s.setFlags f).msw = s.msw := rfl
@[simp] theorem State.setFlags_es (s : State) (f : Flags) : (s.setFlags f).es = s.es := rfl
@[simp] theorem State.setFlags_cs (s : State) (f : Flags) : (s.setFlags f).cs = s.cs := rfl
@[simp] theorem State.setFlags_ss (s : State) (f : Flags) : (s.setFlags f).ss = s.ss := rfl
@[simp] theorem State.setFlags_ds (s : State) (f : Flags) : (s.setFlags f).ds = s.ds := rfl
@[simp] theorem State.setFlags_gdtr (s : State) (f : Flags) : (s.setFlags f).gdtr = s.gdtr := rfl
@[simp] theorem State.setFlags_idtr (s : State) (f : Flags) : (s.setFlags f).idtr = s.idtr := rfl
@[simp] theorem State.setFlags_ldtr (s : State) (f : Flags) : (s.setFlags f).ldtr = s.ldtr := rfl
@[simp] theorem State.setFlags_tr (s : State) (f : Flags) : (s.setFlags f).tr = s.tr := rfl
@[simp] theorem State.setFlags_run (s : State) (f : Flags) : (s.setFlags f).run = s.run := rfl
@[simp] theorem State.setFlags_nmiMasked (s : State) (f : Flags) : (s.setFlags f).nmiMasked = s.nmiMasked := rfl
@[simp] theorem State.setFlags_nmiPending (s : State) (f : Flags) : (s.setFlags f).nmiPending = s.nmiPending := rfl
@[simp] theorem State.setFlags_inhibitNext (s : State) (f : Flags) : (s.setFlags f).inhibitNext = s.inhibitNext := rfl
@[simp] theorem State.setFlags_tfAtStart (s : State) (f : Flags) : (s.setFlags f).tfAtStart = s.tfAtStart := rfl
@[simp] theorem State.setFlags_int9Pending (s : State) (f : Flags) : (s.setFlags f).int9Pending = s.int9Pending := rfl
@[simp] theorem State.setFlags_mem (s : State) (f : Flags) : (s.setFlags f).mem = s.mem := rfl
@[simp] theorem State.setFlags_bus (s : State) (f : Flags) : (s.setFlags f).bus = s.bus := rfl
@[simp] theorem State.setFlags_portFeed (s : State) (f : Flags) : (s.setFlags f).portFeed = s.portFeed := rfl
@[simp] theorem State.setFlags_portLog (s : State) (f : Flags) : (s.setFlags f).portLog = s.portLog := rfl
@[simp] theorem State.setFlags_escLog (s : State) (f : Flags) : (s.setFlags f).escLog = s.escLog := rfl
@[simp] theorem State.setFlags_npxReplies (s : State) (f : Flags) : (s.setFlags f).npxReplies = s.npxReplies := rfl
@[simp] theorem State.setFlags_pins (s : State) (f : Flags) : (s.setFlags f).pins = s.pins := rfl
@[simp] theorem State.setFlags_inputs (s : State) (f : Flags) : (s.setFlags f).inputs = s.inputs := rfl
@[simp] theorem State.setFlags_platform (s : State) (f : Flags) : (s.setFlags f).platform = s.platform := rfl
@[simp] theorem State.setFlags_pfx (s : State) (f : Flags) : (s.setFlags f).pfx = s.pfx := rfl
@[simp] theorem State.setFlags_nextIp (s : State) (f : Flags) : (s.setFlags f).nextIp = s.nextIp := rfl
@[simp] theorem State.setFlags_lmsw (s : State) (f : Flags) : (s.setFlags f).lmsw = s.lmsw := rfl
@[simp] theorem State.setFlags_hazardLmswNoJmp (s : State) (f : Flags) : (s.setFlags f).hazardLmswNoJmp = s.hazardLmswNoJmp :=
  rfl
@[simp] theorem State.setFlags_hazardStaleCode (s : State) (f : Flags) : (s.setFlags f).hazardStaleCode = s.hazardStaleCode :=
  rfl
@[simp] theorem State.setFlags_storedSince (s : State) (f : Flags) : (s.setFlags f).storedSince = s.storedSince := rfl
@[simp] theorem State.setFlags_queueFlushed (s : State) (f : Flags) : (s.setFlags f).queueFlushed = s.queueFlushed := rfl
@[simp] theorem State.setFlags_stiShadow (s : State) (f : Flags) : (s.setFlags f).stiShadow = s.stiShadow := rfl
@[simp] theorem State.setFlags_freeCtr (s : State) (f : Flags) : (s.setFlags f).freeCtr = s.freeCtr := rfl

/-! ### `State.drew` -/

@[simp] theorem State.drew_gpr (s : State) (n : Nat) : (s.drew n).gpr = s.gpr := rfl
@[simp] theorem State.drew_ip (s : State) (n : Nat) : (s.drew n).ip = s.ip := rfl
@[simp] theorem State.drew_flags (s : State) (n : Nat) : (s.drew n).flags = s.flags := rfl
@[simp] theorem State.drew_msw (s : State) (n : Nat) : (s.drew n).msw = s.msw := rfl
@[simp] theorem State.drew_es (s : State) (n : Nat) : (s.drew n).es = s.es := rfl
@[simp] theorem State.drew_cs (s : State) (n : Nat) : (s.drew n).cs = s.cs := rfl
@[simp] theorem State.drew_ss (s : State) (n : Nat) : (s.drew n).ss = s.ss := rfl
@[simp] theorem State.drew_ds (s : State) (n : Nat) : (s.drew n).ds = s.ds := rfl
@[simp] theorem State.drew_gdtr (s : State) (n : Nat) : (s.drew n).gdtr = s.gdtr := rfl
@[simp] theorem State.drew_idtr (s : State) (n : Nat) : (s.drew n).idtr = s.idtr := rfl
@[simp] theorem State.drew_ldtr (s : State) (n : Nat) : (s.drew n).ldtr = s.ldtr := rfl
@[simp] theorem State.drew_tr (s : State) (n : Nat) : (s.drew n).tr = s.tr := rfl
@[simp] theorem State.drew_run (s : State) (n : Nat) : (s.drew n).run = s.run := rfl
@[simp] theorem State.drew_nmiMasked (s : State) (n : Nat) : (s.drew n).nmiMasked = s.nmiMasked := rfl
@[simp] theorem State.drew_nmiPending (s : State) (n : Nat) : (s.drew n).nmiPending = s.nmiPending := rfl
@[simp] theorem State.drew_inhibitNext (s : State) (n : Nat) : (s.drew n).inhibitNext = s.inhibitNext := rfl
@[simp] theorem State.drew_tfAtStart (s : State) (n : Nat) : (s.drew n).tfAtStart = s.tfAtStart := rfl
@[simp] theorem State.drew_int9Pending (s : State) (n : Nat) : (s.drew n).int9Pending = s.int9Pending := rfl
@[simp] theorem State.drew_mem (s : State) (n : Nat) : (s.drew n).mem = s.mem := rfl
@[simp] theorem State.drew_bus (s : State) (n : Nat) : (s.drew n).bus = s.bus := rfl
@[simp] theorem State.drew_portFeed (s : State) (n : Nat) : (s.drew n).portFeed = s.portFeed := rfl
@[simp] theorem State.drew_portLog (s : State) (n : Nat) : (s.drew n).portLog = s.portLog := rfl
@[simp] theorem State.drew_escLog (s : State) (n : Nat) : (s.drew n).escLog = s.escLog := rfl
@[simp] theorem State.drew_npxReplies (s : State) (n : Nat) : (s.drew n).npxReplies = s.npxReplies := rfl
@[simp] theorem State.drew_pins (s : State) (n : Nat) : (s.drew n).pins = s.pins := rfl
@[simp] theorem State.drew_inputs (s : State) (n : Nat) : (s.drew n).inputs = s.inputs := rfl
@[simp] theorem State.drew_platform (s : State) (n : Nat) : (s.drew n).platform = s.platform := rfl
@[simp] theorem State.drew_pfx (s : State) (n : Nat) : (s.drew n).pfx = s.pfx := rfl
@[simp] theorem State.drew_nextIp (s : State) (n : Nat) : (s.drew n).nextIp = s.nextIp := rfl
@[simp] theorem State.drew_lmsw (s : State) (n : Nat) : (s.drew n).lmsw = s.lmsw := rfl
@[simp] theorem State.drew_hazardLmswNoJmp (s : State) (n : Nat) : (s.drew n).hazardLmswNoJmp = s.hazardLmswNoJmp := rfl
@[simp] theorem State.drew_hazardStaleCode (s : State) (n : Nat) : (s.drew n).hazardStaleCode = s.hazardStaleCode := rfl
@[simp] theorem State.drew_storedSince (s : State) (n : Nat) : (s.drew n).storedSince = s.storedSince := rfl
@[simp] theorem State.drew_queueFlushed (s : State) (n : Nat) : (s.drew n).queueFlushed = s.queueFlushed := rfl
@[simp] theorem State.drew_stiShadow (s : State) (n : Nat) : (s.drew n).stiShadow = s.stiShadow := rfl

/-! ### `State.retire` -/

@[simp] theorem State.retire_gpr (s : State) : s.retire.gpr = s.gpr := rfl
@[simp] theorem State.retire_flags (s : State) : s.retire.flags = s.flags := rfl
@[simp] theorem State.retire_msw (s : State) : s.retire.msw = s.msw := rfl
@[simp] theorem State.retire_es (s : State) : s.retire.es = s.es := rfl
@[simp] theorem State.retire_cs (s : State) : s.retire.cs = s.cs := rfl
@[simp] theorem State.retire_ss (s : State) : s.retire.ss = s.ss := rfl
@[simp] theorem State.retire_ds (s : State) : s.retire.ds = s.ds := rfl
@[simp] theorem State.retire_gdtr (s : State) : s.retire.gdtr = s.gdtr := rfl
@[simp] theorem State.retire_idtr (s : State) : s.retire.idtr = s.idtr := rfl
@[simp] theorem State.retire_ldtr (s : State) : s.retire.ldtr = s.ldtr := rfl
@[simp] theorem State.retire_tr (s : State) : s.retire.tr = s.tr := rfl
@[simp] theorem State.retire_run (s : State) : s.retire.run = s.run := rfl
@[simp] theorem State.retire_nmiMasked (s : State) : s.retire.nmiMasked = s.nmiMasked := rfl
@[simp] theorem State.retire_nmiPending (s : State) : s.retire.nmiPending = s.nmiPending := rfl
@[simp] theorem State.retire_inhibitNext (s : State) : s.retire.inhibitNext = s.inhibitNext := rfl
@[simp] theorem State.retire_tfAtStart (s : State) : s.retire.tfAtStart = s.tfAtStart := rfl
@[simp] theorem State.retire_int9Pending (s : State) : s.retire.int9Pending = s.int9Pending := rfl
@[simp] theorem State.retire_mem (s : State) : s.retire.mem = s.mem := rfl
@[simp] theorem State.retire_bus (s : State) : s.retire.bus = s.bus := rfl
@[simp] theorem State.retire_portFeed (s : State) : s.retire.portFeed = s.portFeed := rfl
@[simp] theorem State.retire_portLog (s : State) : s.retire.portLog = s.portLog := rfl
@[simp] theorem State.retire_escLog (s : State) : s.retire.escLog = s.escLog := rfl
@[simp] theorem State.retire_npxReplies (s : State) : s.retire.npxReplies = s.npxReplies := rfl
@[simp] theorem State.retire_pins (s : State) : s.retire.pins = s.pins := rfl
@[simp] theorem State.retire_inputs (s : State) : s.retire.inputs = s.inputs := rfl
@[simp] theorem State.retire_platform (s : State) : s.retire.platform = s.platform := rfl
@[simp] theorem State.retire_nextIp (s : State) : s.retire.nextIp = s.nextIp := rfl
@[simp] theorem State.retire_lmsw (s : State) : s.retire.lmsw = s.lmsw := rfl
@[simp] theorem State.retire_hazardLmswNoJmp (s : State) : s.retire.hazardLmswNoJmp = s.hazardLmswNoJmp := rfl
@[simp] theorem State.retire_hazardStaleCode (s : State) : s.retire.hazardStaleCode = s.hazardStaleCode := rfl
@[simp] theorem State.retire_storedSince (s : State) : s.retire.storedSince = s.storedSince := rfl
@[simp] theorem State.retire_queueFlushed (s : State) : s.retire.queueFlushed = s.queueFlushed := rfl
@[simp] theorem State.retire_stiShadow (s : State) : s.retire.stiShadow = s.stiShadow := rfl
@[simp] theorem State.retire_freeCtr (s : State) : s.retire.freeCtr = s.freeCtr := rfl

/-! ### `State.retireNear` -/

@[simp] theorem State.retireNear_gpr (s : State) : s.retireNear.gpr = s.gpr := rfl
@[simp] theorem State.retireNear_ip (s : State) : s.retireNear.ip = s.ip := rfl
@[simp] theorem State.retireNear_flags (s : State) : s.retireNear.flags = s.flags := rfl
@[simp] theorem State.retireNear_msw (s : State) : s.retireNear.msw = s.msw := rfl
@[simp] theorem State.retireNear_es (s : State) : s.retireNear.es = s.es := rfl
@[simp] theorem State.retireNear_cs (s : State) : s.retireNear.cs = s.cs := rfl
@[simp] theorem State.retireNear_ss (s : State) : s.retireNear.ss = s.ss := rfl
@[simp] theorem State.retireNear_ds (s : State) : s.retireNear.ds = s.ds := rfl
@[simp] theorem State.retireNear_gdtr (s : State) : s.retireNear.gdtr = s.gdtr := rfl
@[simp] theorem State.retireNear_idtr (s : State) : s.retireNear.idtr = s.idtr := rfl
@[simp] theorem State.retireNear_ldtr (s : State) : s.retireNear.ldtr = s.ldtr := rfl
@[simp] theorem State.retireNear_tr (s : State) : s.retireNear.tr = s.tr := rfl
@[simp] theorem State.retireNear_run (s : State) : s.retireNear.run = s.run := rfl
@[simp] theorem State.retireNear_nmiMasked (s : State) : s.retireNear.nmiMasked = s.nmiMasked := rfl
@[simp] theorem State.retireNear_nmiPending (s : State) : s.retireNear.nmiPending = s.nmiPending := rfl
@[simp] theorem State.retireNear_inhibitNext (s : State) : s.retireNear.inhibitNext = s.inhibitNext := rfl
@[simp] theorem State.retireNear_tfAtStart (s : State) : s.retireNear.tfAtStart = s.tfAtStart := rfl
@[simp] theorem State.retireNear_int9Pending (s : State) : s.retireNear.int9Pending = s.int9Pending := rfl
@[simp] theorem State.retireNear_mem (s : State) : s.retireNear.mem = s.mem := rfl
@[simp] theorem State.retireNear_bus (s : State) : s.retireNear.bus = s.bus := rfl
@[simp] theorem State.retireNear_portFeed (s : State) : s.retireNear.portFeed = s.portFeed := rfl
@[simp] theorem State.retireNear_portLog (s : State) : s.retireNear.portLog = s.portLog := rfl
@[simp] theorem State.retireNear_escLog (s : State) : s.retireNear.escLog = s.escLog := rfl
@[simp] theorem State.retireNear_npxReplies (s : State) : s.retireNear.npxReplies = s.npxReplies := rfl
@[simp] theorem State.retireNear_pins (s : State) : s.retireNear.pins = s.pins := rfl
@[simp] theorem State.retireNear_inputs (s : State) : s.retireNear.inputs = s.inputs := rfl
@[simp] theorem State.retireNear_platform (s : State) : s.retireNear.platform = s.platform := rfl
@[simp] theorem State.retireNear_nextIp (s : State) : s.retireNear.nextIp = s.nextIp := rfl
@[simp] theorem State.retireNear_hazardLmswNoJmp (s : State) : s.retireNear.hazardLmswNoJmp = s.hazardLmswNoJmp := rfl
@[simp] theorem State.retireNear_hazardStaleCode (s : State) : s.retireNear.hazardStaleCode = s.hazardStaleCode := rfl
@[simp] theorem State.retireNear_storedSince (s : State) : s.retireNear.storedSince = s.storedSince := rfl
@[simp] theorem State.retireNear_stiShadow (s : State) : s.retireNear.stiShadow = s.stiShadow := rfl
@[simp] theorem State.retireNear_freeCtr (s : State) : s.retireNear.freeCtr = s.freeCtr := rfl

/-! ### `State.retireFar` -/

@[simp] theorem State.retireFar_gpr (s : State) : s.retireFar.gpr = s.gpr := rfl
@[simp] theorem State.retireFar_ip (s : State) : s.retireFar.ip = s.ip := rfl
@[simp] theorem State.retireFar_flags (s : State) : s.retireFar.flags = s.flags := rfl
@[simp] theorem State.retireFar_msw (s : State) : s.retireFar.msw = s.msw := rfl
@[simp] theorem State.retireFar_es (s : State) : s.retireFar.es = s.es := rfl
@[simp] theorem State.retireFar_cs (s : State) : s.retireFar.cs = s.cs := rfl
@[simp] theorem State.retireFar_ss (s : State) : s.retireFar.ss = s.ss := rfl
@[simp] theorem State.retireFar_ds (s : State) : s.retireFar.ds = s.ds := rfl
@[simp] theorem State.retireFar_gdtr (s : State) : s.retireFar.gdtr = s.gdtr := rfl
@[simp] theorem State.retireFar_idtr (s : State) : s.retireFar.idtr = s.idtr := rfl
@[simp] theorem State.retireFar_ldtr (s : State) : s.retireFar.ldtr = s.ldtr := rfl
@[simp] theorem State.retireFar_tr (s : State) : s.retireFar.tr = s.tr := rfl
@[simp] theorem State.retireFar_run (s : State) : s.retireFar.run = s.run := rfl
@[simp] theorem State.retireFar_nmiMasked (s : State) : s.retireFar.nmiMasked = s.nmiMasked := rfl
@[simp] theorem State.retireFar_nmiPending (s : State) : s.retireFar.nmiPending = s.nmiPending := rfl
@[simp] theorem State.retireFar_inhibitNext (s : State) : s.retireFar.inhibitNext = s.inhibitNext := rfl
@[simp] theorem State.retireFar_tfAtStart (s : State) : s.retireFar.tfAtStart = s.tfAtStart := rfl
@[simp] theorem State.retireFar_int9Pending (s : State) : s.retireFar.int9Pending = s.int9Pending := rfl
@[simp] theorem State.retireFar_mem (s : State) : s.retireFar.mem = s.mem := rfl
@[simp] theorem State.retireFar_bus (s : State) : s.retireFar.bus = s.bus := rfl
@[simp] theorem State.retireFar_portFeed (s : State) : s.retireFar.portFeed = s.portFeed := rfl
@[simp] theorem State.retireFar_portLog (s : State) : s.retireFar.portLog = s.portLog := rfl
@[simp] theorem State.retireFar_escLog (s : State) : s.retireFar.escLog = s.escLog := rfl
@[simp] theorem State.retireFar_npxReplies (s : State) : s.retireFar.npxReplies = s.npxReplies := rfl
@[simp] theorem State.retireFar_pins (s : State) : s.retireFar.pins = s.pins := rfl
@[simp] theorem State.retireFar_inputs (s : State) : s.retireFar.inputs = s.inputs := rfl
@[simp] theorem State.retireFar_platform (s : State) : s.retireFar.platform = s.platform := rfl
@[simp] theorem State.retireFar_nextIp (s : State) : s.retireFar.nextIp = s.nextIp := rfl
@[simp] theorem State.retireFar_lmsw (s : State) : s.retireFar.lmsw = s.lmsw := rfl
@[simp] theorem State.retireFar_hazardLmswNoJmp (s : State) : s.retireFar.hazardLmswNoJmp = s.hazardLmswNoJmp := rfl
@[simp] theorem State.retireFar_hazardStaleCode (s : State) : s.retireFar.hazardStaleCode = s.hazardStaleCode := rfl
@[simp] theorem State.retireFar_storedSince (s : State) : s.retireFar.storedSince = s.storedSince := rfl
@[simp] theorem State.retireFar_stiShadow (s : State) : s.retireFar.stiShadow = s.stiShadow := rfl
@[simp] theorem State.retireFar_freeCtr (s : State) : s.retireFar.freeCtr = s.freeCtr := rfl

/-! ### `State.noStep` -/

@[simp] theorem State.noStep_gpr (s : State) : s.noStep.gpr = s.gpr := rfl
@[simp] theorem State.noStep_ip (s : State) : s.noStep.ip = s.ip := rfl
@[simp] theorem State.noStep_flags (s : State) : s.noStep.flags = s.flags := rfl
@[simp] theorem State.noStep_msw (s : State) : s.noStep.msw = s.msw := rfl
@[simp] theorem State.noStep_es (s : State) : s.noStep.es = s.es := rfl
@[simp] theorem State.noStep_cs (s : State) : s.noStep.cs = s.cs := rfl
@[simp] theorem State.noStep_ss (s : State) : s.noStep.ss = s.ss := rfl
@[simp] theorem State.noStep_ds (s : State) : s.noStep.ds = s.ds := rfl
@[simp] theorem State.noStep_gdtr (s : State) : s.noStep.gdtr = s.gdtr := rfl
@[simp] theorem State.noStep_idtr (s : State) : s.noStep.idtr = s.idtr := rfl
@[simp] theorem State.noStep_ldtr (s : State) : s.noStep.ldtr = s.ldtr := rfl
@[simp] theorem State.noStep_tr (s : State) : s.noStep.tr = s.tr := rfl
@[simp] theorem State.noStep_run (s : State) : s.noStep.run = s.run := rfl
@[simp] theorem State.noStep_nmiMasked (s : State) : s.noStep.nmiMasked = s.nmiMasked := rfl
@[simp] theorem State.noStep_nmiPending (s : State) : s.noStep.nmiPending = s.nmiPending := rfl
@[simp] theorem State.noStep_inhibitNext (s : State) : s.noStep.inhibitNext = s.inhibitNext := rfl
@[simp] theorem State.noStep_int9Pending (s : State) : s.noStep.int9Pending = s.int9Pending := rfl
@[simp] theorem State.noStep_mem (s : State) : s.noStep.mem = s.mem := rfl
@[simp] theorem State.noStep_bus (s : State) : s.noStep.bus = s.bus := rfl
@[simp] theorem State.noStep_portFeed (s : State) : s.noStep.portFeed = s.portFeed := rfl
@[simp] theorem State.noStep_portLog (s : State) : s.noStep.portLog = s.portLog := rfl
@[simp] theorem State.noStep_escLog (s : State) : s.noStep.escLog = s.escLog := rfl
@[simp] theorem State.noStep_npxReplies (s : State) : s.noStep.npxReplies = s.npxReplies := rfl
@[simp] theorem State.noStep_pins (s : State) : s.noStep.pins = s.pins := rfl
@[simp] theorem State.noStep_inputs (s : State) : s.noStep.inputs = s.inputs := rfl
@[simp] theorem State.noStep_platform (s : State) : s.noStep.platform = s.platform := rfl
@[simp] theorem State.noStep_pfx (s : State) : s.noStep.pfx = s.pfx := rfl
@[simp] theorem State.noStep_nextIp (s : State) : s.noStep.nextIp = s.nextIp := rfl
@[simp] theorem State.noStep_lmsw (s : State) : s.noStep.lmsw = s.lmsw := rfl
@[simp] theorem State.noStep_hazardLmswNoJmp (s : State) : s.noStep.hazardLmswNoJmp = s.hazardLmswNoJmp := rfl
@[simp] theorem State.noStep_hazardStaleCode (s : State) : s.noStep.hazardStaleCode = s.hazardStaleCode := rfl
@[simp] theorem State.noStep_storedSince (s : State) : s.noStep.storedSince = s.storedSince := rfl
@[simp] theorem State.noStep_queueFlushed (s : State) : s.noStep.queueFlushed = s.queueFlushed := rfl
@[simp] theorem State.noStep_stiShadow (s : State) : s.noStep.stiShadow = s.stiShadow := rfl
@[simp] theorem State.noStep_freeCtr (s : State) : s.noStep.freeCtr = s.freeCtr := rfl

/-! ### `State.withLock` -/

@[simp] theorem State.withLock_gpr (s : State) (l : BusLock) : (s.withLock l).gpr = s.gpr := rfl
@[simp] theorem State.withLock_ip (s : State) (l : BusLock) : (s.withLock l).ip = s.ip := rfl
@[simp] theorem State.withLock_flags (s : State) (l : BusLock) : (s.withLock l).flags = s.flags := rfl
@[simp] theorem State.withLock_msw (s : State) (l : BusLock) : (s.withLock l).msw = s.msw := rfl
@[simp] theorem State.withLock_es (s : State) (l : BusLock) : (s.withLock l).es = s.es := rfl
@[simp] theorem State.withLock_cs (s : State) (l : BusLock) : (s.withLock l).cs = s.cs := rfl
@[simp] theorem State.withLock_ss (s : State) (l : BusLock) : (s.withLock l).ss = s.ss := rfl
@[simp] theorem State.withLock_ds (s : State) (l : BusLock) : (s.withLock l).ds = s.ds := rfl
@[simp] theorem State.withLock_gdtr (s : State) (l : BusLock) : (s.withLock l).gdtr = s.gdtr := rfl
@[simp] theorem State.withLock_idtr (s : State) (l : BusLock) : (s.withLock l).idtr = s.idtr := rfl
@[simp] theorem State.withLock_ldtr (s : State) (l : BusLock) : (s.withLock l).ldtr = s.ldtr := rfl
@[simp] theorem State.withLock_tr (s : State) (l : BusLock) : (s.withLock l).tr = s.tr := rfl
@[simp] theorem State.withLock_run (s : State) (l : BusLock) : (s.withLock l).run = s.run := rfl
@[simp] theorem State.withLock_nmiMasked (s : State) (l : BusLock) : (s.withLock l).nmiMasked = s.nmiMasked := rfl
@[simp] theorem State.withLock_nmiPending (s : State) (l : BusLock) : (s.withLock l).nmiPending = s.nmiPending := rfl
@[simp] theorem State.withLock_inhibitNext (s : State) (l : BusLock) : (s.withLock l).inhibitNext = s.inhibitNext := rfl
@[simp] theorem State.withLock_tfAtStart (s : State) (l : BusLock) : (s.withLock l).tfAtStart = s.tfAtStart := rfl
@[simp] theorem State.withLock_int9Pending (s : State) (l : BusLock) : (s.withLock l).int9Pending = s.int9Pending := rfl
@[simp] theorem State.withLock_mem (s : State) (l : BusLock) : (s.withLock l).mem = s.mem := rfl
@[simp] theorem State.withLock_portFeed (s : State) (l : BusLock) : (s.withLock l).portFeed = s.portFeed := rfl
@[simp] theorem State.withLock_portLog (s : State) (l : BusLock) : (s.withLock l).portLog = s.portLog := rfl
@[simp] theorem State.withLock_escLog (s : State) (l : BusLock) : (s.withLock l).escLog = s.escLog := rfl
@[simp] theorem State.withLock_npxReplies (s : State) (l : BusLock) : (s.withLock l).npxReplies = s.npxReplies := rfl
@[simp] theorem State.withLock_pins (s : State) (l : BusLock) : (s.withLock l).pins = s.pins := rfl
@[simp] theorem State.withLock_inputs (s : State) (l : BusLock) : (s.withLock l).inputs = s.inputs := rfl
@[simp] theorem State.withLock_platform (s : State) (l : BusLock) : (s.withLock l).platform = s.platform := rfl
@[simp] theorem State.withLock_pfx (s : State) (l : BusLock) : (s.withLock l).pfx = s.pfx := rfl
@[simp] theorem State.withLock_nextIp (s : State) (l : BusLock) : (s.withLock l).nextIp = s.nextIp := rfl
@[simp] theorem State.withLock_lmsw (s : State) (l : BusLock) : (s.withLock l).lmsw = s.lmsw := rfl
@[simp] theorem State.withLock_hazardLmswNoJmp (s : State) (l : BusLock) : (s.withLock l).hazardLmswNoJmp = s.hazardLmswNoJmp :=
  rfl
@[simp] theorem State.withLock_hazardStaleCode (s : State) (l : BusLock) : (s.withLock l).hazardStaleCode = s.hazardStaleCode :=
  rfl
@[simp] theorem State.withLock_storedSince (s : State) (l : BusLock) : (s.withLock l).storedSince = s.storedSince := rfl
@[simp] theorem State.withLock_queueFlushed (s : State) (l : BusLock) : (s.withLock l).queueFlushed = s.queueFlushed := rfl
@[simp] theorem State.withLock_stiShadow (s : State) (l : BusLock) : (s.withLock l).stiShadow = s.stiShadow := rfl
@[simp] theorem State.withLock_freeCtr (s : State) (l : BusLock) : (s.withLock l).freeCtr = s.freeCtr := rfl

/-! ### `State.inhibit` -/

@[simp] theorem State.inhibit_gpr (s : State) : s.inhibit.gpr = s.gpr := rfl
@[simp] theorem State.inhibit_ip (s : State) : s.inhibit.ip = s.ip := rfl
@[simp] theorem State.inhibit_flags (s : State) : s.inhibit.flags = s.flags := rfl
@[simp] theorem State.inhibit_msw (s : State) : s.inhibit.msw = s.msw := rfl
@[simp] theorem State.inhibit_es (s : State) : s.inhibit.es = s.es := rfl
@[simp] theorem State.inhibit_cs (s : State) : s.inhibit.cs = s.cs := rfl
@[simp] theorem State.inhibit_ss (s : State) : s.inhibit.ss = s.ss := rfl
@[simp] theorem State.inhibit_ds (s : State) : s.inhibit.ds = s.ds := rfl
@[simp] theorem State.inhibit_gdtr (s : State) : s.inhibit.gdtr = s.gdtr := rfl
@[simp] theorem State.inhibit_idtr (s : State) : s.inhibit.idtr = s.idtr := rfl
@[simp] theorem State.inhibit_ldtr (s : State) : s.inhibit.ldtr = s.ldtr := rfl
@[simp] theorem State.inhibit_tr (s : State) : s.inhibit.tr = s.tr := rfl
@[simp] theorem State.inhibit_run (s : State) : s.inhibit.run = s.run := rfl
@[simp] theorem State.inhibit_nmiMasked (s : State) : s.inhibit.nmiMasked = s.nmiMasked := rfl
@[simp] theorem State.inhibit_nmiPending (s : State) : s.inhibit.nmiPending = s.nmiPending := rfl
@[simp] theorem State.inhibit_tfAtStart (s : State) : s.inhibit.tfAtStart = s.tfAtStart := rfl
@[simp] theorem State.inhibit_int9Pending (s : State) : s.inhibit.int9Pending = s.int9Pending := rfl
@[simp] theorem State.inhibit_mem (s : State) : s.inhibit.mem = s.mem := rfl
@[simp] theorem State.inhibit_bus (s : State) : s.inhibit.bus = s.bus := rfl
@[simp] theorem State.inhibit_portFeed (s : State) : s.inhibit.portFeed = s.portFeed := rfl
@[simp] theorem State.inhibit_portLog (s : State) : s.inhibit.portLog = s.portLog := rfl
@[simp] theorem State.inhibit_escLog (s : State) : s.inhibit.escLog = s.escLog := rfl
@[simp] theorem State.inhibit_npxReplies (s : State) : s.inhibit.npxReplies = s.npxReplies := rfl
@[simp] theorem State.inhibit_pins (s : State) : s.inhibit.pins = s.pins := rfl
@[simp] theorem State.inhibit_inputs (s : State) : s.inhibit.inputs = s.inputs := rfl
@[simp] theorem State.inhibit_platform (s : State) : s.inhibit.platform = s.platform := rfl
@[simp] theorem State.inhibit_pfx (s : State) : s.inhibit.pfx = s.pfx := rfl
@[simp] theorem State.inhibit_nextIp (s : State) : s.inhibit.nextIp = s.nextIp := rfl
@[simp] theorem State.inhibit_lmsw (s : State) : s.inhibit.lmsw = s.lmsw := rfl
@[simp] theorem State.inhibit_hazardLmswNoJmp (s : State) : s.inhibit.hazardLmswNoJmp = s.hazardLmswNoJmp := rfl
@[simp] theorem State.inhibit_hazardStaleCode (s : State) : s.inhibit.hazardStaleCode = s.hazardStaleCode := rfl
@[simp] theorem State.inhibit_storedSince (s : State) : s.inhibit.storedSince = s.storedSince := rfl
@[simp] theorem State.inhibit_queueFlushed (s : State) : s.inhibit.queueFlushed = s.queueFlushed := rfl
@[simp] theorem State.inhibit_stiShadow (s : State) : s.inhibit.stiShadow = s.stiShadow := rfl
@[simp] theorem State.inhibit_freeCtr (s : State) : s.inhibit.freeCtr = s.freeCtr := rfl

/-! ### `State.setZf` -/

@[simp] theorem State.setZf_gpr (s : State) (b : Bool) : (s.setZf b).gpr = s.gpr := rfl
@[simp] theorem State.setZf_ip (s : State) (b : Bool) : (s.setZf b).ip = s.ip := rfl
@[simp] theorem State.setZf_msw (s : State) (b : Bool) : (s.setZf b).msw = s.msw := rfl
@[simp] theorem State.setZf_es (s : State) (b : Bool) : (s.setZf b).es = s.es := rfl
@[simp] theorem State.setZf_cs (s : State) (b : Bool) : (s.setZf b).cs = s.cs := rfl
@[simp] theorem State.setZf_ss (s : State) (b : Bool) : (s.setZf b).ss = s.ss := rfl
@[simp] theorem State.setZf_ds (s : State) (b : Bool) : (s.setZf b).ds = s.ds := rfl
@[simp] theorem State.setZf_gdtr (s : State) (b : Bool) : (s.setZf b).gdtr = s.gdtr := rfl
@[simp] theorem State.setZf_idtr (s : State) (b : Bool) : (s.setZf b).idtr = s.idtr := rfl
@[simp] theorem State.setZf_ldtr (s : State) (b : Bool) : (s.setZf b).ldtr = s.ldtr := rfl
@[simp] theorem State.setZf_tr (s : State) (b : Bool) : (s.setZf b).tr = s.tr := rfl
@[simp] theorem State.setZf_run (s : State) (b : Bool) : (s.setZf b).run = s.run := rfl
@[simp] theorem State.setZf_nmiMasked (s : State) (b : Bool) : (s.setZf b).nmiMasked = s.nmiMasked := rfl
@[simp] theorem State.setZf_nmiPending (s : State) (b : Bool) : (s.setZf b).nmiPending = s.nmiPending := rfl
@[simp] theorem State.setZf_inhibitNext (s : State) (b : Bool) : (s.setZf b).inhibitNext = s.inhibitNext := rfl
@[simp] theorem State.setZf_tfAtStart (s : State) (b : Bool) : (s.setZf b).tfAtStart = s.tfAtStart := rfl
@[simp] theorem State.setZf_int9Pending (s : State) (b : Bool) : (s.setZf b).int9Pending = s.int9Pending := rfl
@[simp] theorem State.setZf_mem (s : State) (b : Bool) : (s.setZf b).mem = s.mem := rfl
@[simp] theorem State.setZf_bus (s : State) (b : Bool) : (s.setZf b).bus = s.bus := rfl
@[simp] theorem State.setZf_portFeed (s : State) (b : Bool) : (s.setZf b).portFeed = s.portFeed := rfl
@[simp] theorem State.setZf_portLog (s : State) (b : Bool) : (s.setZf b).portLog = s.portLog := rfl
@[simp] theorem State.setZf_escLog (s : State) (b : Bool) : (s.setZf b).escLog = s.escLog := rfl
@[simp] theorem State.setZf_npxReplies (s : State) (b : Bool) : (s.setZf b).npxReplies = s.npxReplies := rfl
@[simp] theorem State.setZf_pins (s : State) (b : Bool) : (s.setZf b).pins = s.pins := rfl
@[simp] theorem State.setZf_inputs (s : State) (b : Bool) : (s.setZf b).inputs = s.inputs := rfl
@[simp] theorem State.setZf_platform (s : State) (b : Bool) : (s.setZf b).platform = s.platform := rfl
@[simp] theorem State.setZf_pfx (s : State) (b : Bool) : (s.setZf b).pfx = s.pfx := rfl
@[simp] theorem State.setZf_nextIp (s : State) (b : Bool) : (s.setZf b).nextIp = s.nextIp := rfl
@[simp] theorem State.setZf_lmsw (s : State) (b : Bool) : (s.setZf b).lmsw = s.lmsw := rfl
@[simp] theorem State.setZf_hazardLmswNoJmp (s : State) (b : Bool) : (s.setZf b).hazardLmswNoJmp = s.hazardLmswNoJmp := rfl
@[simp] theorem State.setZf_hazardStaleCode (s : State) (b : Bool) : (s.setZf b).hazardStaleCode = s.hazardStaleCode := rfl
@[simp] theorem State.setZf_storedSince (s : State) (b : Bool) : (s.setZf b).storedSince = s.storedSince := rfl
@[simp] theorem State.setZf_queueFlushed (s : State) (b : Bool) : (s.setZf b).queueFlushed = s.queueFlushed := rfl
@[simp] theorem State.setZf_stiShadow (s : State) (b : Bool) : (s.setZf b).stiShadow = s.stiShadow := rfl
@[simp] theorem State.setZf_freeCtr (s : State) (b : Bool) : (s.setZf b).freeCtr = s.freeCtr := rfl

/-! ### `State.setCx` -/

@[simp] theorem State.setCx_ip (s : State) (v : Word) : (s.setCx v).ip = s.ip := rfl
@[simp] theorem State.setCx_flags (s : State) (v : Word) : (s.setCx v).flags = s.flags := rfl
@[simp] theorem State.setCx_msw (s : State) (v : Word) : (s.setCx v).msw = s.msw := rfl
@[simp] theorem State.setCx_es (s : State) (v : Word) : (s.setCx v).es = s.es := rfl
@[simp] theorem State.setCx_cs (s : State) (v : Word) : (s.setCx v).cs = s.cs := rfl
@[simp] theorem State.setCx_ss (s : State) (v : Word) : (s.setCx v).ss = s.ss := rfl
@[simp] theorem State.setCx_ds (s : State) (v : Word) : (s.setCx v).ds = s.ds := rfl
@[simp] theorem State.setCx_gdtr (s : State) (v : Word) : (s.setCx v).gdtr = s.gdtr := rfl
@[simp] theorem State.setCx_idtr (s : State) (v : Word) : (s.setCx v).idtr = s.idtr := rfl
@[simp] theorem State.setCx_ldtr (s : State) (v : Word) : (s.setCx v).ldtr = s.ldtr := rfl
@[simp] theorem State.setCx_tr (s : State) (v : Word) : (s.setCx v).tr = s.tr := rfl
@[simp] theorem State.setCx_run (s : State) (v : Word) : (s.setCx v).run = s.run := rfl
@[simp] theorem State.setCx_nmiMasked (s : State) (v : Word) : (s.setCx v).nmiMasked = s.nmiMasked := rfl
@[simp] theorem State.setCx_nmiPending (s : State) (v : Word) : (s.setCx v).nmiPending = s.nmiPending := rfl
@[simp] theorem State.setCx_inhibitNext (s : State) (v : Word) : (s.setCx v).inhibitNext = s.inhibitNext := rfl
@[simp] theorem State.setCx_tfAtStart (s : State) (v : Word) : (s.setCx v).tfAtStart = s.tfAtStart := rfl
@[simp] theorem State.setCx_int9Pending (s : State) (v : Word) : (s.setCx v).int9Pending = s.int9Pending := rfl
@[simp] theorem State.setCx_mem (s : State) (v : Word) : (s.setCx v).mem = s.mem := rfl
@[simp] theorem State.setCx_bus (s : State) (v : Word) : (s.setCx v).bus = s.bus := rfl
@[simp] theorem State.setCx_portFeed (s : State) (v : Word) : (s.setCx v).portFeed = s.portFeed := rfl
@[simp] theorem State.setCx_portLog (s : State) (v : Word) : (s.setCx v).portLog = s.portLog := rfl
@[simp] theorem State.setCx_escLog (s : State) (v : Word) : (s.setCx v).escLog = s.escLog := rfl
@[simp] theorem State.setCx_npxReplies (s : State) (v : Word) : (s.setCx v).npxReplies = s.npxReplies := rfl
@[simp] theorem State.setCx_pins (s : State) (v : Word) : (s.setCx v).pins = s.pins := rfl
@[simp] theorem State.setCx_inputs (s : State) (v : Word) : (s.setCx v).inputs = s.inputs := rfl
@[simp] theorem State.setCx_platform (s : State) (v : Word) : (s.setCx v).platform = s.platform := rfl
@[simp] theorem State.setCx_pfx (s : State) (v : Word) : (s.setCx v).pfx = s.pfx := rfl
@[simp] theorem State.setCx_nextIp (s : State) (v : Word) : (s.setCx v).nextIp = s.nextIp := rfl
@[simp] theorem State.setCx_lmsw (s : State) (v : Word) : (s.setCx v).lmsw = s.lmsw := rfl
@[simp] theorem State.setCx_hazardLmswNoJmp (s : State) (v : Word) : (s.setCx v).hazardLmswNoJmp = s.hazardLmswNoJmp := rfl
@[simp] theorem State.setCx_hazardStaleCode (s : State) (v : Word) : (s.setCx v).hazardStaleCode = s.hazardStaleCode := rfl
@[simp] theorem State.setCx_storedSince (s : State) (v : Word) : (s.setCx v).storedSince = s.storedSince := rfl
@[simp] theorem State.setCx_queueFlushed (s : State) (v : Word) : (s.setCx v).queueFlushed = s.queueFlushed := rfl
@[simp] theorem State.setCx_stiShadow (s : State) (v : Word) : (s.setCx v).stiShadow = s.stiShadow := rfl
@[simp] theorem State.setCx_freeCtr (s : State) (v : Word) : (s.setCx v).freeCtr = s.freeCtr := rfl

/-! ### `State.decCx` -/

@[simp] theorem State.decCx_ip (s : State) : s.decCx.ip = s.ip := rfl
@[simp] theorem State.decCx_flags (s : State) : s.decCx.flags = s.flags := rfl
@[simp] theorem State.decCx_msw (s : State) : s.decCx.msw = s.msw := rfl
@[simp] theorem State.decCx_es (s : State) : s.decCx.es = s.es := rfl
@[simp] theorem State.decCx_cs (s : State) : s.decCx.cs = s.cs := rfl
@[simp] theorem State.decCx_ss (s : State) : s.decCx.ss = s.ss := rfl
@[simp] theorem State.decCx_ds (s : State) : s.decCx.ds = s.ds := rfl
@[simp] theorem State.decCx_gdtr (s : State) : s.decCx.gdtr = s.gdtr := rfl
@[simp] theorem State.decCx_idtr (s : State) : s.decCx.idtr = s.idtr := rfl
@[simp] theorem State.decCx_ldtr (s : State) : s.decCx.ldtr = s.ldtr := rfl
@[simp] theorem State.decCx_tr (s : State) : s.decCx.tr = s.tr := rfl
@[simp] theorem State.decCx_run (s : State) : s.decCx.run = s.run := rfl
@[simp] theorem State.decCx_nmiMasked (s : State) : s.decCx.nmiMasked = s.nmiMasked := rfl
@[simp] theorem State.decCx_nmiPending (s : State) : s.decCx.nmiPending = s.nmiPending := rfl
@[simp] theorem State.decCx_inhibitNext (s : State) : s.decCx.inhibitNext = s.inhibitNext := rfl
@[simp] theorem State.decCx_tfAtStart (s : State) : s.decCx.tfAtStart = s.tfAtStart := rfl
@[simp] theorem State.decCx_int9Pending (s : State) : s.decCx.int9Pending = s.int9Pending := rfl
@[simp] theorem State.decCx_mem (s : State) : s.decCx.mem = s.mem := rfl
@[simp] theorem State.decCx_bus (s : State) : s.decCx.bus = s.bus := rfl
@[simp] theorem State.decCx_portFeed (s : State) : s.decCx.portFeed = s.portFeed := rfl
@[simp] theorem State.decCx_portLog (s : State) : s.decCx.portLog = s.portLog := rfl
@[simp] theorem State.decCx_escLog (s : State) : s.decCx.escLog = s.escLog := rfl
@[simp] theorem State.decCx_npxReplies (s : State) : s.decCx.npxReplies = s.npxReplies := rfl
@[simp] theorem State.decCx_pins (s : State) : s.decCx.pins = s.pins := rfl
@[simp] theorem State.decCx_inputs (s : State) : s.decCx.inputs = s.inputs := rfl
@[simp] theorem State.decCx_platform (s : State) : s.decCx.platform = s.platform := rfl
@[simp] theorem State.decCx_pfx (s : State) : s.decCx.pfx = s.pfx := rfl
@[simp] theorem State.decCx_nextIp (s : State) : s.decCx.nextIp = s.nextIp := rfl
@[simp] theorem State.decCx_lmsw (s : State) : s.decCx.lmsw = s.lmsw := rfl
@[simp] theorem State.decCx_hazardLmswNoJmp (s : State) : s.decCx.hazardLmswNoJmp = s.hazardLmswNoJmp := rfl
@[simp] theorem State.decCx_hazardStaleCode (s : State) : s.decCx.hazardStaleCode = s.hazardStaleCode := rfl
@[simp] theorem State.decCx_storedSince (s : State) : s.decCx.storedSince = s.storedSince := rfl
@[simp] theorem State.decCx_queueFlushed (s : State) : s.decCx.queueFlushed = s.queueFlushed := rfl
@[simp] theorem State.decCx_stiShadow (s : State) : s.decCx.stiShadow = s.stiShadow := rfl
@[simp] theorem State.decCx_freeCtr (s : State) : s.decCx.freeCtr = s.freeCtr := rfl

/-! ### `State.stepSi` -/

@[simp] theorem State.stepSi_ip (s : State) (w : Elem) : (s.stepSi w).ip = s.ip := rfl
@[simp] theorem State.stepSi_flags (s : State) (w : Elem) : (s.stepSi w).flags = s.flags := rfl
@[simp] theorem State.stepSi_msw (s : State) (w : Elem) : (s.stepSi w).msw = s.msw := rfl
@[simp] theorem State.stepSi_es (s : State) (w : Elem) : (s.stepSi w).es = s.es := rfl
@[simp] theorem State.stepSi_cs (s : State) (w : Elem) : (s.stepSi w).cs = s.cs := rfl
@[simp] theorem State.stepSi_ss (s : State) (w : Elem) : (s.stepSi w).ss = s.ss := rfl
@[simp] theorem State.stepSi_ds (s : State) (w : Elem) : (s.stepSi w).ds = s.ds := rfl
@[simp] theorem State.stepSi_gdtr (s : State) (w : Elem) : (s.stepSi w).gdtr = s.gdtr := rfl
@[simp] theorem State.stepSi_idtr (s : State) (w : Elem) : (s.stepSi w).idtr = s.idtr := rfl
@[simp] theorem State.stepSi_ldtr (s : State) (w : Elem) : (s.stepSi w).ldtr = s.ldtr := rfl
@[simp] theorem State.stepSi_tr (s : State) (w : Elem) : (s.stepSi w).tr = s.tr := rfl
@[simp] theorem State.stepSi_run (s : State) (w : Elem) : (s.stepSi w).run = s.run := rfl
@[simp] theorem State.stepSi_nmiMasked (s : State) (w : Elem) : (s.stepSi w).nmiMasked = s.nmiMasked := rfl
@[simp] theorem State.stepSi_nmiPending (s : State) (w : Elem) : (s.stepSi w).nmiPending = s.nmiPending := rfl
@[simp] theorem State.stepSi_inhibitNext (s : State) (w : Elem) : (s.stepSi w).inhibitNext = s.inhibitNext := rfl
@[simp] theorem State.stepSi_tfAtStart (s : State) (w : Elem) : (s.stepSi w).tfAtStart = s.tfAtStart := rfl
@[simp] theorem State.stepSi_int9Pending (s : State) (w : Elem) : (s.stepSi w).int9Pending = s.int9Pending := rfl
@[simp] theorem State.stepSi_mem (s : State) (w : Elem) : (s.stepSi w).mem = s.mem := rfl
@[simp] theorem State.stepSi_bus (s : State) (w : Elem) : (s.stepSi w).bus = s.bus := rfl
@[simp] theorem State.stepSi_portFeed (s : State) (w : Elem) : (s.stepSi w).portFeed = s.portFeed := rfl
@[simp] theorem State.stepSi_portLog (s : State) (w : Elem) : (s.stepSi w).portLog = s.portLog := rfl
@[simp] theorem State.stepSi_escLog (s : State) (w : Elem) : (s.stepSi w).escLog = s.escLog := rfl
@[simp] theorem State.stepSi_npxReplies (s : State) (w : Elem) : (s.stepSi w).npxReplies = s.npxReplies := rfl
@[simp] theorem State.stepSi_pins (s : State) (w : Elem) : (s.stepSi w).pins = s.pins := rfl
@[simp] theorem State.stepSi_inputs (s : State) (w : Elem) : (s.stepSi w).inputs = s.inputs := rfl
@[simp] theorem State.stepSi_platform (s : State) (w : Elem) : (s.stepSi w).platform = s.platform := rfl
@[simp] theorem State.stepSi_pfx (s : State) (w : Elem) : (s.stepSi w).pfx = s.pfx := rfl
@[simp] theorem State.stepSi_nextIp (s : State) (w : Elem) : (s.stepSi w).nextIp = s.nextIp := rfl
@[simp] theorem State.stepSi_lmsw (s : State) (w : Elem) : (s.stepSi w).lmsw = s.lmsw := rfl
@[simp] theorem State.stepSi_hazardLmswNoJmp (s : State) (w : Elem) : (s.stepSi w).hazardLmswNoJmp = s.hazardLmswNoJmp := rfl
@[simp] theorem State.stepSi_hazardStaleCode (s : State) (w : Elem) : (s.stepSi w).hazardStaleCode = s.hazardStaleCode := rfl
@[simp] theorem State.stepSi_storedSince (s : State) (w : Elem) : (s.stepSi w).storedSince = s.storedSince := rfl
@[simp] theorem State.stepSi_queueFlushed (s : State) (w : Elem) : (s.stepSi w).queueFlushed = s.queueFlushed := rfl
@[simp] theorem State.stepSi_stiShadow (s : State) (w : Elem) : (s.stepSi w).stiShadow = s.stiShadow := rfl
@[simp] theorem State.stepSi_freeCtr (s : State) (w : Elem) : (s.stepSi w).freeCtr = s.freeCtr := rfl

/-! ### `State.stepDi` -/

@[simp] theorem State.stepDi_ip (s : State) (w : Elem) : (s.stepDi w).ip = s.ip := rfl
@[simp] theorem State.stepDi_flags (s : State) (w : Elem) : (s.stepDi w).flags = s.flags := rfl
@[simp] theorem State.stepDi_msw (s : State) (w : Elem) : (s.stepDi w).msw = s.msw := rfl
@[simp] theorem State.stepDi_es (s : State) (w : Elem) : (s.stepDi w).es = s.es := rfl
@[simp] theorem State.stepDi_cs (s : State) (w : Elem) : (s.stepDi w).cs = s.cs := rfl
@[simp] theorem State.stepDi_ss (s : State) (w : Elem) : (s.stepDi w).ss = s.ss := rfl
@[simp] theorem State.stepDi_ds (s : State) (w : Elem) : (s.stepDi w).ds = s.ds := rfl
@[simp] theorem State.stepDi_gdtr (s : State) (w : Elem) : (s.stepDi w).gdtr = s.gdtr := rfl
@[simp] theorem State.stepDi_idtr (s : State) (w : Elem) : (s.stepDi w).idtr = s.idtr := rfl
@[simp] theorem State.stepDi_ldtr (s : State) (w : Elem) : (s.stepDi w).ldtr = s.ldtr := rfl
@[simp] theorem State.stepDi_tr (s : State) (w : Elem) : (s.stepDi w).tr = s.tr := rfl
@[simp] theorem State.stepDi_run (s : State) (w : Elem) : (s.stepDi w).run = s.run := rfl
@[simp] theorem State.stepDi_nmiMasked (s : State) (w : Elem) : (s.stepDi w).nmiMasked = s.nmiMasked := rfl
@[simp] theorem State.stepDi_nmiPending (s : State) (w : Elem) : (s.stepDi w).nmiPending = s.nmiPending := rfl
@[simp] theorem State.stepDi_inhibitNext (s : State) (w : Elem) : (s.stepDi w).inhibitNext = s.inhibitNext := rfl
@[simp] theorem State.stepDi_tfAtStart (s : State) (w : Elem) : (s.stepDi w).tfAtStart = s.tfAtStart := rfl
@[simp] theorem State.stepDi_int9Pending (s : State) (w : Elem) : (s.stepDi w).int9Pending = s.int9Pending := rfl
@[simp] theorem State.stepDi_mem (s : State) (w : Elem) : (s.stepDi w).mem = s.mem := rfl
@[simp] theorem State.stepDi_bus (s : State) (w : Elem) : (s.stepDi w).bus = s.bus := rfl
@[simp] theorem State.stepDi_portFeed (s : State) (w : Elem) : (s.stepDi w).portFeed = s.portFeed := rfl
@[simp] theorem State.stepDi_portLog (s : State) (w : Elem) : (s.stepDi w).portLog = s.portLog := rfl
@[simp] theorem State.stepDi_escLog (s : State) (w : Elem) : (s.stepDi w).escLog = s.escLog := rfl
@[simp] theorem State.stepDi_npxReplies (s : State) (w : Elem) : (s.stepDi w).npxReplies = s.npxReplies := rfl
@[simp] theorem State.stepDi_pins (s : State) (w : Elem) : (s.stepDi w).pins = s.pins := rfl
@[simp] theorem State.stepDi_inputs (s : State) (w : Elem) : (s.stepDi w).inputs = s.inputs := rfl
@[simp] theorem State.stepDi_platform (s : State) (w : Elem) : (s.stepDi w).platform = s.platform := rfl
@[simp] theorem State.stepDi_pfx (s : State) (w : Elem) : (s.stepDi w).pfx = s.pfx := rfl
@[simp] theorem State.stepDi_nextIp (s : State) (w : Elem) : (s.stepDi w).nextIp = s.nextIp := rfl
@[simp] theorem State.stepDi_lmsw (s : State) (w : Elem) : (s.stepDi w).lmsw = s.lmsw := rfl
@[simp] theorem State.stepDi_hazardLmswNoJmp (s : State) (w : Elem) : (s.stepDi w).hazardLmswNoJmp = s.hazardLmswNoJmp := rfl
@[simp] theorem State.stepDi_hazardStaleCode (s : State) (w : Elem) : (s.stepDi w).hazardStaleCode = s.hazardStaleCode := rfl
@[simp] theorem State.stepDi_storedSince (s : State) (w : Elem) : (s.stepDi w).storedSince = s.storedSince := rfl
@[simp] theorem State.stepDi_queueFlushed (s : State) (w : Elem) : (s.stepDi w).queueFlushed = s.queueFlushed := rfl
@[simp] theorem State.stepDi_stiShadow (s : State) (w : Elem) : (s.stepDi w).stiShadow = s.stiShadow := rfl
@[simp] theorem State.stepDi_freeCtr (s : State) (w : Elem) : (s.stepDi w).freeCtr = s.freeCtr := rfl

/-! ### `State.missJump` -/

@[simp] theorem State.missJump_gpr (s : State) : s.missJump.gpr = s.gpr := rfl
@[simp] theorem State.missJump_ip (s : State) : s.missJump.ip = s.ip := rfl
@[simp] theorem State.missJump_flags (s : State) : s.missJump.flags = s.flags := rfl
@[simp] theorem State.missJump_msw (s : State) : s.missJump.msw = s.msw := rfl
@[simp] theorem State.missJump_es (s : State) : s.missJump.es = s.es := rfl
@[simp] theorem State.missJump_cs (s : State) : s.missJump.cs = s.cs := rfl
@[simp] theorem State.missJump_ss (s : State) : s.missJump.ss = s.ss := rfl
@[simp] theorem State.missJump_ds (s : State) : s.missJump.ds = s.ds := rfl
@[simp] theorem State.missJump_gdtr (s : State) : s.missJump.gdtr = s.gdtr := rfl
@[simp] theorem State.missJump_idtr (s : State) : s.missJump.idtr = s.idtr := rfl
@[simp] theorem State.missJump_ldtr (s : State) : s.missJump.ldtr = s.ldtr := rfl
@[simp] theorem State.missJump_tr (s : State) : s.missJump.tr = s.tr := rfl
@[simp] theorem State.missJump_run (s : State) : s.missJump.run = s.run := rfl
@[simp] theorem State.missJump_nmiMasked (s : State) : s.missJump.nmiMasked = s.nmiMasked := rfl
@[simp] theorem State.missJump_nmiPending (s : State) : s.missJump.nmiPending = s.nmiPending := rfl
@[simp] theorem State.missJump_inhibitNext (s : State) : s.missJump.inhibitNext = s.inhibitNext := rfl
@[simp] theorem State.missJump_tfAtStart (s : State) : s.missJump.tfAtStart = s.tfAtStart := rfl
@[simp] theorem State.missJump_int9Pending (s : State) : s.missJump.int9Pending = s.int9Pending := rfl
@[simp] theorem State.missJump_mem (s : State) : s.missJump.mem = s.mem := rfl
@[simp] theorem State.missJump_bus (s : State) : s.missJump.bus = s.bus := rfl
@[simp] theorem State.missJump_portFeed (s : State) : s.missJump.portFeed = s.portFeed := rfl
@[simp] theorem State.missJump_portLog (s : State) : s.missJump.portLog = s.portLog := rfl
@[simp] theorem State.missJump_escLog (s : State) : s.missJump.escLog = s.escLog := rfl
@[simp] theorem State.missJump_npxReplies (s : State) : s.missJump.npxReplies = s.npxReplies := rfl
@[simp] theorem State.missJump_pins (s : State) : s.missJump.pins = s.pins := rfl
@[simp] theorem State.missJump_inputs (s : State) : s.missJump.inputs = s.inputs := rfl
@[simp] theorem State.missJump_platform (s : State) : s.missJump.platform = s.platform := rfl
@[simp] theorem State.missJump_pfx (s : State) : s.missJump.pfx = s.pfx := rfl
@[simp] theorem State.missJump_nextIp (s : State) : s.missJump.nextIp = s.nextIp := rfl
@[simp] theorem State.missJump_hazardStaleCode (s : State) : s.missJump.hazardStaleCode = s.hazardStaleCode := rfl
@[simp] theorem State.missJump_storedSince (s : State) : s.missJump.storedSince = s.storedSince := rfl
@[simp] theorem State.missJump_queueFlushed (s : State) : s.missJump.queueFlushed = s.queueFlushed := rfl
@[simp] theorem State.missJump_stiShadow (s : State) : s.missJump.stiShadow = s.stiShadow := rfl
@[simp] theorem State.missJump_freeCtr (s : State) : s.missJump.freeCtr = s.freeCtr := rfl

/-! ### `State.entered` -/

@[simp] theorem State.entered_gpr (s : State) : s.entered.gpr = s.gpr := rfl
@[simp] theorem State.entered_ip (s : State) : s.entered.ip = s.ip := rfl
@[simp] theorem State.entered_flags (s : State) : s.entered.flags = s.flags := rfl
@[simp] theorem State.entered_msw (s : State) : s.entered.msw = s.msw := rfl
@[simp] theorem State.entered_es (s : State) : s.entered.es = s.es := rfl
@[simp] theorem State.entered_cs (s : State) : s.entered.cs = s.cs := rfl
@[simp] theorem State.entered_ss (s : State) : s.entered.ss = s.ss := rfl
@[simp] theorem State.entered_ds (s : State) : s.entered.ds = s.ds := rfl
@[simp] theorem State.entered_gdtr (s : State) : s.entered.gdtr = s.gdtr := rfl
@[simp] theorem State.entered_idtr (s : State) : s.entered.idtr = s.idtr := rfl
@[simp] theorem State.entered_ldtr (s : State) : s.entered.ldtr = s.ldtr := rfl
@[simp] theorem State.entered_tr (s : State) : s.entered.tr = s.tr := rfl
@[simp] theorem State.entered_nmiMasked (s : State) : s.entered.nmiMasked = s.nmiMasked := rfl
@[simp] theorem State.entered_nmiPending (s : State) : s.entered.nmiPending = s.nmiPending := rfl
@[simp] theorem State.entered_inhibitNext (s : State) : s.entered.inhibitNext = s.inhibitNext := rfl
@[simp] theorem State.entered_tfAtStart (s : State) : s.entered.tfAtStart = s.tfAtStart := rfl
@[simp] theorem State.entered_int9Pending (s : State) : s.entered.int9Pending = s.int9Pending := rfl
@[simp] theorem State.entered_mem (s : State) : s.entered.mem = s.mem := rfl
@[simp] theorem State.entered_bus (s : State) : s.entered.bus = s.bus := rfl
@[simp] theorem State.entered_portFeed (s : State) : s.entered.portFeed = s.portFeed := rfl
@[simp] theorem State.entered_portLog (s : State) : s.entered.portLog = s.portLog := rfl
@[simp] theorem State.entered_escLog (s : State) : s.entered.escLog = s.escLog := rfl
@[simp] theorem State.entered_npxReplies (s : State) : s.entered.npxReplies = s.npxReplies := rfl
@[simp] theorem State.entered_pins (s : State) : s.entered.pins = s.pins := rfl
@[simp] theorem State.entered_inputs (s : State) : s.entered.inputs = s.inputs := rfl
@[simp] theorem State.entered_platform (s : State) : s.entered.platform = s.platform := rfl
@[simp] theorem State.entered_nextIp (s : State) : s.entered.nextIp = s.nextIp := rfl
@[simp] theorem State.entered_hazardStaleCode (s : State) : s.entered.hazardStaleCode = s.hazardStaleCode := rfl
@[simp] theorem State.entered_stiShadow (s : State) : s.entered.stiShadow = s.stiShadow := rfl
@[simp] theorem State.entered_freeCtr (s : State) : s.entered.freeCtr = s.freeCtr := rfl

/-! ### `State.shutDown` -/

@[simp] theorem State.shutDown_gpr (s : State) : s.shutDown.gpr = s.gpr := rfl
@[simp] theorem State.shutDown_ip (s : State) : s.shutDown.ip = s.ip := rfl
@[simp] theorem State.shutDown_flags (s : State) : s.shutDown.flags = s.flags := rfl
@[simp] theorem State.shutDown_msw (s : State) : s.shutDown.msw = s.msw := rfl
@[simp] theorem State.shutDown_es (s : State) : s.shutDown.es = s.es := rfl
@[simp] theorem State.shutDown_cs (s : State) : s.shutDown.cs = s.cs := rfl
@[simp] theorem State.shutDown_ss (s : State) : s.shutDown.ss = s.ss := rfl
@[simp] theorem State.shutDown_ds (s : State) : s.shutDown.ds = s.ds := rfl
@[simp] theorem State.shutDown_gdtr (s : State) : s.shutDown.gdtr = s.gdtr := rfl
@[simp] theorem State.shutDown_idtr (s : State) : s.shutDown.idtr = s.idtr := rfl
@[simp] theorem State.shutDown_ldtr (s : State) : s.shutDown.ldtr = s.ldtr := rfl
@[simp] theorem State.shutDown_tr (s : State) : s.shutDown.tr = s.tr := rfl
@[simp] theorem State.shutDown_nmiMasked (s : State) : s.shutDown.nmiMasked = s.nmiMasked := rfl
@[simp] theorem State.shutDown_nmiPending (s : State) : s.shutDown.nmiPending = s.nmiPending := rfl
@[simp] theorem State.shutDown_inhibitNext (s : State) : s.shutDown.inhibitNext = s.inhibitNext := rfl
@[simp] theorem State.shutDown_tfAtStart (s : State) : s.shutDown.tfAtStart = s.tfAtStart := rfl
@[simp] theorem State.shutDown_int9Pending (s : State) : s.shutDown.int9Pending = s.int9Pending := rfl
@[simp] theorem State.shutDown_mem (s : State) : s.shutDown.mem = s.mem := rfl
@[simp] theorem State.shutDown_bus (s : State) : s.shutDown.bus = s.bus := rfl
@[simp] theorem State.shutDown_portFeed (s : State) : s.shutDown.portFeed = s.portFeed := rfl
@[simp] theorem State.shutDown_portLog (s : State) : s.shutDown.portLog = s.portLog := rfl
@[simp] theorem State.shutDown_escLog (s : State) : s.shutDown.escLog = s.escLog := rfl
@[simp] theorem State.shutDown_npxReplies (s : State) : s.shutDown.npxReplies = s.npxReplies := rfl
@[simp] theorem State.shutDown_pins (s : State) : s.shutDown.pins = s.pins := rfl
@[simp] theorem State.shutDown_inputs (s : State) : s.shutDown.inputs = s.inputs := rfl
@[simp] theorem State.shutDown_platform (s : State) : s.shutDown.platform = s.platform := rfl
@[simp] theorem State.shutDown_nextIp (s : State) : s.shutDown.nextIp = s.nextIp := rfl
@[simp] theorem State.shutDown_hazardStaleCode (s : State) : s.shutDown.hazardStaleCode = s.hazardStaleCode := rfl
@[simp] theorem State.shutDown_storedSince (s : State) : s.shutDown.storedSince = s.storedSince := rfl
@[simp] theorem State.shutDown_queueFlushed (s : State) : s.shutDown.queueFlushed = s.queueFlushed := rfl
@[simp] theorem State.shutDown_stiShadow (s : State) : s.shutDown.stiShadow = s.stiShadow := rfl
@[simp] theorem State.shutDown_freeCtr (s : State) : s.shutDown.freeCtr = s.freeCtr := rfl

/-! ### `State.beginInstr` -/

@[simp] theorem State.beginInstr_gpr (s : State) : s.beginInstr.gpr = s.gpr := rfl
@[simp] theorem State.beginInstr_ip (s : State) : s.beginInstr.ip = s.ip := rfl
@[simp] theorem State.beginInstr_flags (s : State) : s.beginInstr.flags = s.flags := rfl
@[simp] theorem State.beginInstr_msw (s : State) : s.beginInstr.msw = s.msw := rfl
@[simp] theorem State.beginInstr_es (s : State) : s.beginInstr.es = s.es := rfl
@[simp] theorem State.beginInstr_cs (s : State) : s.beginInstr.cs = s.cs := rfl
@[simp] theorem State.beginInstr_ss (s : State) : s.beginInstr.ss = s.ss := rfl
@[simp] theorem State.beginInstr_ds (s : State) : s.beginInstr.ds = s.ds := rfl
@[simp] theorem State.beginInstr_gdtr (s : State) : s.beginInstr.gdtr = s.gdtr := rfl
@[simp] theorem State.beginInstr_idtr (s : State) : s.beginInstr.idtr = s.idtr := rfl
@[simp] theorem State.beginInstr_ldtr (s : State) : s.beginInstr.ldtr = s.ldtr := rfl
@[simp] theorem State.beginInstr_tr (s : State) : s.beginInstr.tr = s.tr := rfl
@[simp] theorem State.beginInstr_run (s : State) : s.beginInstr.run = s.run := rfl
@[simp] theorem State.beginInstr_nmiMasked (s : State) : s.beginInstr.nmiMasked = s.nmiMasked := rfl
@[simp] theorem State.beginInstr_nmiPending (s : State) : s.beginInstr.nmiPending = s.nmiPending := rfl
@[simp] theorem State.beginInstr_int9Pending (s : State) : s.beginInstr.int9Pending = s.int9Pending := rfl
@[simp] theorem State.beginInstr_mem (s : State) : s.beginInstr.mem = s.mem := rfl
@[simp] theorem State.beginInstr_portFeed (s : State) : s.beginInstr.portFeed = s.portFeed := rfl
@[simp] theorem State.beginInstr_portLog (s : State) : s.beginInstr.portLog = s.portLog := rfl
@[simp] theorem State.beginInstr_escLog (s : State) : s.beginInstr.escLog = s.escLog := rfl
@[simp] theorem State.beginInstr_npxReplies (s : State) : s.beginInstr.npxReplies = s.npxReplies := rfl
@[simp] theorem State.beginInstr_pins (s : State) : s.beginInstr.pins = s.pins := rfl
@[simp] theorem State.beginInstr_inputs (s : State) : s.beginInstr.inputs = s.inputs := rfl
@[simp] theorem State.beginInstr_platform (s : State) : s.beginInstr.platform = s.platform := rfl
@[simp] theorem State.beginInstr_pfx (s : State) : s.beginInstr.pfx = s.pfx := rfl
@[simp] theorem State.beginInstr_nextIp (s : State) : s.beginInstr.nextIp = s.nextIp := rfl
@[simp] theorem State.beginInstr_hazardLmswNoJmp (s : State) : s.beginInstr.hazardLmswNoJmp = s.hazardLmswNoJmp := rfl
@[simp] theorem State.beginInstr_hazardStaleCode (s : State) : s.beginInstr.hazardStaleCode = s.hazardStaleCode := rfl
@[simp] theorem State.beginInstr_storedSince (s : State) : s.beginInstr.storedSince = s.storedSince := rfl
@[simp] theorem State.beginInstr_stiShadow (s : State) : s.beginInstr.stiShadow = s.stiShadow := rfl
@[simp] theorem State.beginInstr_freeCtr (s : State) : s.beginInstr.freeCtr = s.freeCtr := rfl

/-! ### `State.withNext` -/

@[simp] theorem State.withNext_gpr (s : State) (n : Nat) : (s.withNext n).gpr = s.gpr := rfl
@[simp] theorem State.withNext_ip (s : State) (n : Nat) : (s.withNext n).ip = s.ip := rfl
@[simp] theorem State.withNext_flags (s : State) (n : Nat) : (s.withNext n).flags = s.flags := rfl
@[simp] theorem State.withNext_msw (s : State) (n : Nat) : (s.withNext n).msw = s.msw := rfl
@[simp] theorem State.withNext_es (s : State) (n : Nat) : (s.withNext n).es = s.es := rfl
@[simp] theorem State.withNext_cs (s : State) (n : Nat) : (s.withNext n).cs = s.cs := rfl
@[simp] theorem State.withNext_ss (s : State) (n : Nat) : (s.withNext n).ss = s.ss := rfl
@[simp] theorem State.withNext_ds (s : State) (n : Nat) : (s.withNext n).ds = s.ds := rfl
@[simp] theorem State.withNext_gdtr (s : State) (n : Nat) : (s.withNext n).gdtr = s.gdtr := rfl
@[simp] theorem State.withNext_idtr (s : State) (n : Nat) : (s.withNext n).idtr = s.idtr := rfl
@[simp] theorem State.withNext_ldtr (s : State) (n : Nat) : (s.withNext n).ldtr = s.ldtr := rfl
@[simp] theorem State.withNext_tr (s : State) (n : Nat) : (s.withNext n).tr = s.tr := rfl
@[simp] theorem State.withNext_run (s : State) (n : Nat) : (s.withNext n).run = s.run := rfl
@[simp] theorem State.withNext_nmiMasked (s : State) (n : Nat) : (s.withNext n).nmiMasked = s.nmiMasked := rfl
@[simp] theorem State.withNext_nmiPending (s : State) (n : Nat) : (s.withNext n).nmiPending = s.nmiPending := rfl
@[simp] theorem State.withNext_inhibitNext (s : State) (n : Nat) : (s.withNext n).inhibitNext = s.inhibitNext := rfl
@[simp] theorem State.withNext_tfAtStart (s : State) (n : Nat) : (s.withNext n).tfAtStart = s.tfAtStart := rfl
@[simp] theorem State.withNext_int9Pending (s : State) (n : Nat) : (s.withNext n).int9Pending = s.int9Pending := rfl
@[simp] theorem State.withNext_mem (s : State) (n : Nat) : (s.withNext n).mem = s.mem := rfl
@[simp] theorem State.withNext_bus (s : State) (n : Nat) : (s.withNext n).bus = s.bus := rfl
@[simp] theorem State.withNext_portFeed (s : State) (n : Nat) : (s.withNext n).portFeed = s.portFeed := rfl
@[simp] theorem State.withNext_portLog (s : State) (n : Nat) : (s.withNext n).portLog = s.portLog := rfl
@[simp] theorem State.withNext_escLog (s : State) (n : Nat) : (s.withNext n).escLog = s.escLog := rfl
@[simp] theorem State.withNext_npxReplies (s : State) (n : Nat) : (s.withNext n).npxReplies = s.npxReplies := rfl
@[simp] theorem State.withNext_pins (s : State) (n : Nat) : (s.withNext n).pins = s.pins := rfl
@[simp] theorem State.withNext_inputs (s : State) (n : Nat) : (s.withNext n).inputs = s.inputs := rfl
@[simp] theorem State.withNext_platform (s : State) (n : Nat) : (s.withNext n).platform = s.platform := rfl
@[simp] theorem State.withNext_pfx (s : State) (n : Nat) : (s.withNext n).pfx = s.pfx := rfl
@[simp] theorem State.withNext_lmsw (s : State) (n : Nat) : (s.withNext n).lmsw = s.lmsw := rfl
@[simp] theorem State.withNext_hazardLmswNoJmp (s : State) (n : Nat) : (s.withNext n).hazardLmswNoJmp = s.hazardLmswNoJmp :=
  rfl
@[simp] theorem State.withNext_storedSince (s : State) (n : Nat) : (s.withNext n).storedSince = s.storedSince := rfl
@[simp] theorem State.withNext_queueFlushed (s : State) (n : Nat) : (s.withNext n).queueFlushed = s.queueFlushed := rfl
@[simp] theorem State.withNext_stiShadow (s : State) (n : Nat) : (s.withNext n).stiShadow = s.stiShadow := rfl
@[simp] theorem State.withNext_freeCtr (s : State) (n : Nat) : (s.withNext n).freeCtr = s.freeCtr := rfl

/-! ### `State.noteStores` -/

@[simp] theorem State.noteStores_gpr (s : State) (before : Memory) : (s.noteStores before).gpr = s.gpr := rfl
@[simp] theorem State.noteStores_ip (s : State) (before : Memory) : (s.noteStores before).ip = s.ip := rfl
@[simp] theorem State.noteStores_flags (s : State) (before : Memory) : (s.noteStores before).flags = s.flags := rfl
@[simp] theorem State.noteStores_msw (s : State) (before : Memory) : (s.noteStores before).msw = s.msw := rfl
@[simp] theorem State.noteStores_es (s : State) (before : Memory) : (s.noteStores before).es = s.es := rfl
@[simp] theorem State.noteStores_cs (s : State) (before : Memory) : (s.noteStores before).cs = s.cs := rfl
@[simp] theorem State.noteStores_ss (s : State) (before : Memory) : (s.noteStores before).ss = s.ss := rfl
@[simp] theorem State.noteStores_ds (s : State) (before : Memory) : (s.noteStores before).ds = s.ds := rfl
@[simp] theorem State.noteStores_gdtr (s : State) (before : Memory) : (s.noteStores before).gdtr = s.gdtr := rfl
@[simp] theorem State.noteStores_idtr (s : State) (before : Memory) : (s.noteStores before).idtr = s.idtr := rfl
@[simp] theorem State.noteStores_ldtr (s : State) (before : Memory) : (s.noteStores before).ldtr = s.ldtr := rfl
@[simp] theorem State.noteStores_tr (s : State) (before : Memory) : (s.noteStores before).tr = s.tr := rfl
@[simp] theorem State.noteStores_run (s : State) (before : Memory) : (s.noteStores before).run = s.run := rfl
@[simp] theorem State.noteStores_nmiMasked (s : State) (before : Memory) : (s.noteStores before).nmiMasked = s.nmiMasked :=
  rfl
@[simp] theorem State.noteStores_nmiPending (s : State) (before : Memory) : (s.noteStores before).nmiPending = s.nmiPending :=
  rfl
@[simp] theorem State.noteStores_inhibitNext (s : State) (before : Memory) : (s.noteStores before).inhibitNext = s.inhibitNext :=
  rfl
@[simp] theorem State.noteStores_tfAtStart (s : State) (before : Memory) : (s.noteStores before).tfAtStart = s.tfAtStart :=
  rfl
@[simp] theorem State.noteStores_int9Pending (s : State) (before : Memory) : (s.noteStores before).int9Pending = s.int9Pending :=
  rfl
@[simp] theorem State.noteStores_mem (s : State) (before : Memory) : (s.noteStores before).mem = s.mem := rfl
@[simp] theorem State.noteStores_bus (s : State) (before : Memory) : (s.noteStores before).bus = s.bus := rfl
@[simp] theorem State.noteStores_portFeed (s : State) (before : Memory) : (s.noteStores before).portFeed = s.portFeed := rfl
@[simp] theorem State.noteStores_portLog (s : State) (before : Memory) : (s.noteStores before).portLog = s.portLog := rfl
@[simp] theorem State.noteStores_escLog (s : State) (before : Memory) : (s.noteStores before).escLog = s.escLog := rfl
@[simp] theorem State.noteStores_npxReplies (s : State) (before : Memory) : (s.noteStores before).npxReplies = s.npxReplies :=
  rfl
@[simp] theorem State.noteStores_pins (s : State) (before : Memory) : (s.noteStores before).pins = s.pins := rfl
@[simp] theorem State.noteStores_inputs (s : State) (before : Memory) : (s.noteStores before).inputs = s.inputs := rfl
@[simp] theorem State.noteStores_platform (s : State) (before : Memory) : (s.noteStores before).platform = s.platform := rfl
@[simp] theorem State.noteStores_pfx (s : State) (before : Memory) : (s.noteStores before).pfx = s.pfx := rfl
@[simp] theorem State.noteStores_nextIp (s : State) (before : Memory) : (s.noteStores before).nextIp = s.nextIp := rfl
@[simp] theorem State.noteStores_lmsw (s : State) (before : Memory) : (s.noteStores before).lmsw = s.lmsw := rfl
@[simp] theorem State.noteStores_hazardLmswNoJmp (s : State) (before : Memory) : (s.noteStores before).hazardLmswNoJmp = s.hazardLmswNoJmp :=
  rfl
@[simp] theorem State.noteStores_hazardStaleCode (s : State) (before : Memory) : (s.noteStores before).hazardStaleCode = s.hazardStaleCode :=
  rfl
@[simp] theorem State.noteStores_queueFlushed (s : State) (before : Memory) : (s.noteStores before).queueFlushed = s.queueFlushed :=
  rfl
@[simp] theorem State.noteStores_stiShadow (s : State) (before : Memory) : (s.noteStores before).stiShadow = s.stiShadow :=
  rfl
@[simp] theorem State.noteStores_freeCtr (s : State) (before : Memory) : (s.noteStores before).freeCtr = s.freeCtr := rfl

/-! ### What the updates write -/

@[simp] theorem State.setSp_gpr (s : State) (v : Word) : (s.setSp v).gpr = { s.gpr with sp := v } := rfl
@[simp] theorem State.setReg16_gpr (s : State) (r : Reg16) (v : Word) : (s.setReg16 r v).gpr = s.gpr.set r v := rfl
@[simp] theorem State.setFlags_flags (s : State) (f : Flags) : (s.setFlags f).flags = f := rfl
@[simp] theorem State.drew_freeCtr (s : State) (n : Nat) : (s.drew n).freeCtr = s.freeCtr + n := rfl
@[simp] theorem State.retire_ip (s : State) : s.retire.ip = s.nextIp := rfl
@[simp] theorem State.retire_pfx (s : State) : s.retire.pfx = {} := rfl
@[simp] theorem State.retireNear_pfx (s : State) : s.retireNear.pfx = {} := rfl
@[simp] theorem State.retireNear_lmsw (s : State) : s.retireNear.lmsw = .clear := rfl
@[simp] theorem State.retireNear_queueFlushed (s : State) : s.retireNear.queueFlushed = true := rfl
@[simp] theorem State.retireFar_pfx (s : State) : s.retireFar.pfx = {} := rfl
@[simp] theorem State.retireFar_queueFlushed (s : State) : s.retireFar.queueFlushed = true := rfl
@[simp] theorem State.missJump_lmsw (s : State) : s.missJump.lmsw = .clear := rfl
@[simp] theorem State.noStep_tfAtStart (s : State) : s.noStep.tfAtStart = false := rfl
@[simp] theorem State.inhibit_inhibitNext (s : State) : s.inhibit.inhibitNext = true := rfl
@[simp] theorem State.setZf_flags (s : State) (b : Bool) : (s.setZf b).flags = { s.flags with zf := b } := rfl
@[simp] theorem State.setCx_gpr (s : State) (v : Word) : (s.setCx v).gpr = { s.gpr with cx := v } := rfl
@[simp] theorem State.decCx_gpr (s : State) : s.decCx.gpr = { s.gpr with cx := s.gpr.cx - 1 } := rfl
@[simp] theorem State.stepSi_gpr (s : State) (w : Elem) : (s.stepSi w).gpr = { s.gpr with si := s.gpr.si + w.delta s } := rfl
@[simp] theorem State.stepDi_gpr (s : State) (w : Elem) : (s.stepDi w).gpr = { s.gpr with di := s.gpr.di + w.delta s } := rfl
@[simp] theorem State.entered_run (s : State) : s.entered.run = .running := rfl
@[simp] theorem State.entered_pfx (s : State) : s.entered.pfx = {} := rfl
@[simp] theorem State.entered_lmsw (s : State) : s.entered.lmsw = .clear := rfl
@[simp] theorem State.shutDown_run (s : State) : s.shutDown.run = .shutdown := rfl
@[simp] theorem State.shutDown_pfx (s : State) : s.shutDown.pfx = {} := rfl
@[simp] theorem State.shutDown_lmsw (s : State) : s.shutDown.lmsw = .clear := rfl
/-! ### What answers at an address -/

@[simp] theorem State.store_map (s : State) (a : Nat) (v : Byte) : (s.store a v).bus.map = s.bus.map := by
  unfold State.store; split <;> (try split) <;> rfl
@[simp] theorem State.load_map (s : State) (a : Nat) : (s.load a).2.bus.map = s.bus.map := by
  unfold State.load State.deviceRead; split <;> (try split) <;> (try split) <;> rfl
@[simp] theorem State.act_map (s : State) (x : BusAct) : (s.act x).bus.map = s.bus.map := by
  cases x with
  | place a v => unfold State.act State.placed; dsimp only; split <;> rfl
  | npxRead a => exact (State.load_map _ _).trans (State.load_map _ _)
  | npxWrite a v => exact (State.store_map _ _ _).trans (State.store_map _ _ _)
@[simp] theorem actAll_map (s : State) (xs : List BusAct) : (actAll s xs).bus.map = s.bus.map := by
  induction xs generalizing s with
  | nil => rfl
  | cons x xs ih => exact (ih _).trans (State.act_map s x)
@[simp] theorem State.visitors_map (s : State) : s.visitors.bus.map = s.bus.map := by
  unfold State.visitors; split <;> (try split) <;> simp
@[simp] theorem State.release_map (s : State) : s.release.bus.map = s.bus.map := by
  unfold State.release; split <;> simp
@[simp] theorem State.resetNow_map (s : State) : s.resetNow.bus.map = s.bus.map := State.release_map s
@[simp] theorem State.cycle_map (s : State) : s.cycle.bus.map = s.bus.map := by
  unfold State.cycle; split <;> simp
@[simp] theorem State.others_map (s : State) : s.others.bus.map = s.bus.map := by
  unfold State.others; simp
@[simp] theorem State.gap_map (s : State) (a : Nat) : (s.gap a).bus.map = s.bus.map := by
  unfold State.gap; split <;> simp
@[simp] theorem State.hear_map (s : State) (xs : List BusAct) : (s.hear xs).bus.map = s.bus.map := by
  unfold State.hear; split <;> simp
@[simp] theorem State.loadWord_map (s : State) (a b : Nat) : (s.loadWord a b).2.bus.map = s.bus.map := by
  simp [State.loadWord]
@[simp] theorem State.storeWord_map (s : State) (a b : Nat) (v : Word) : (s.storeWord a b v).bus.map = s.bus.map := by
  simp [State.storeWord]
@[simp] theorem State.vectorWord_map (s : State) (k : Nat) : (s.vectorWord k).2.bus.map = s.bus.map := s.loadWord_map _ _
@[simp] theorem State.fetch16_map (s : State) (a : Addr) (k : Nat) : (s.fetch16 a k).2.bus.map = s.bus.map := by
  simp [State.fetch16]
@[simp] theorem State.store_kindAt (s : State) (a : Nat) (v : Byte) (k : Nat) : (s.store a v).kindAt k = s.kindAt k := by
  unfold State.kindAt; rw [State.store_map]
@[simp] theorem State.load_kindAt (s : State) (a k : Nat) : (s.load a).2.kindAt k = s.kindAt k := by
  unfold State.kindAt; rw [State.load_map]
@[simp] theorem State.others_kindAt (s : State) (k : Nat) : s.others.kindAt k = s.kindAt k := by
  unfold State.kindAt; rw [State.others_map]

/-! ### No other agent on the bus -/

@[simp] theorem State.store_between (s : State) (a : Nat) (v : Byte) : (s.store a v).bus.between = s.bus.between := by
  unfold State.store; split <;> (try split) <;> rfl
@[simp] theorem State.load_between (s : State) (a : Nat) : (s.load a).2.bus.between = s.bus.between := by
  unfold State.load State.deviceRead; split <;> (try split) <;> (try split) <;> rfl
@[simp] theorem State.store_lock (s : State) (a : Nat) (v : Byte) : (s.store a v).bus.lock = s.bus.lock := by
  unfold State.store; split <;> (try split) <;> rfl
@[simp] theorem State.load_lock (s : State) (a : Nat) : (s.load a).2.bus.lock = s.bus.lock := by
  unfold State.load State.deviceRead; split <;> (try split) <;> (try split) <;> rfl

@[simp] theorem State.store_held (s : State) (a : Nat) (v : Byte) : (s.store a v).bus.held = s.bus.held := by
  unfold State.store; split <;> (try split) <;> rfl
@[simp] theorem State.load_held (s : State) (a : Nat) : (s.load a).2.bus.held = s.bus.held := by
  unfold State.load State.deviceRead; split <;> (try split) <;> (try split) <;> rfl

@[simp] theorem State.store_reset (s : State) (a : Nat) (v : Byte) : (s.store a v).bus.reset = s.bus.reset := by
  unfold State.store; split <;> (try split) <;> rfl
@[simp] theorem State.load_reset (s : State) (a : Nat) : (s.load a).2.bus.reset = s.bus.reset := by
  unfold State.load State.deviceRead; split <;> (try split) <;> (try split) <;> rfl

/-- No act of another agent changes the lock, what it has held back, what is to come between later cycles, or a RESET to come. -/
theorem State.act_signals (s : State) (x : BusAct) :
    (s.act x).bus.between = s.bus.between ∧ (s.act x).bus.lock = s.bus.lock ∧ (s.act x).bus.held = s.bus.held ∧
      (s.act x).bus.reset = s.bus.reset := by
  cases x with
  | place a v => unfold State.act State.placed; dsimp only; split <;> exact ⟨rfl, rfl, rfl, rfl⟩
  | npxRead a => simp [State.act]
  | npxWrite a v => simp [State.act]

theorem actAll_signals (s : State) (xs : List BusAct) :
    (actAll s xs).bus.between = s.bus.between ∧ (actAll s xs).bus.lock = s.bus.lock ∧ (actAll s xs).bus.held = s.bus.held ∧
      (actAll s xs).bus.reset = s.bus.reset := by
  induction xs generalizing s with
  | nil => exact ⟨rfl, rfl, rfl, rfl⟩
  | cons x xs ih =>
    obtain ⟨h1, h2, h3, h4⟩ := State.act_signals s x
    obtain ⟨k1, k2, k3, k4⟩ := ih (s.act x)
    exact ⟨k1.trans h1, k2.trans h2, k3.trans h3, k4.trans h4⟩

@[simp] theorem actAll_between (s : State) (xs : List BusAct) : (actAll s xs).bus.between = s.bus.between := (actAll_signals s xs).1
@[simp] theorem actAll_lock (s : State) (xs : List BusAct) : (actAll s xs).bus.lock = s.bus.lock := (actAll_signals s xs).2.1
@[simp] theorem actAll_held (s : State) (xs : List BusAct) : (actAll s xs).bus.held = s.bus.held := (actAll_signals s xs).2.2.1
@[simp] theorem actAll_reset (s : State) (xs : List BusAct) : (actAll s xs).bus.reset = s.bus.reset :=
  (actAll_signals s xs).2.2.2
@[simp] theorem actAll_kindAt (s : State) (xs : List BusAct) (k : Nat) : (actAll s xs).kindAt k = s.kindAt k := by
  unfold State.kindAt; rw [actAll_map]

/-- After the end of a lock the bus is free. -/
@[simp] theorem State.release_lock (s : State) : s.release.bus.lock = .free := by
  unfold State.release; split
  · assumption
  · simp

@[simp] theorem State.release_reset (s : State) : s.release.bus.reset = s.bus.reset := by
  unfold State.release; split
  · rfl
  · simp

/-- Where no RESET falls into the step a bus cycle counts nothing. -/
theorem State.cycle_unreset {s : State} (h : Unreset s) : s.cycle = s := by
  unfold State.cycle
  rw [show s.bus.reset = .quiet from h]

/-! ### Where no RESET falls into a step, none does at any time of it -/

theorem Unreset.store {s : State} (h : Unreset s) (a : Nat) (v : Byte) : Unreset (s.store a v) := (State.store_reset s a v).trans h

theorem Unreset.load {s : State} (h : Unreset s) (a : Nat) : Unreset (s.load a).2 := (State.load_reset s a).trans h

theorem Unreset.actAll {s : State} (h : Unreset s) (xs : List BusAct) : Unreset (actAll s xs) := (actAll_reset s xs).trans h

theorem Unreset.release {s : State} (h : Unreset s) : Unreset s.release := (State.release_reset s).trans h

theorem Unreset.hear {s : State} (h : Unreset s) (xs : List BusAct) : Unreset (s.hear xs) := by
  unfold State.hear
  split
  · exact h.actAll xs
  · exact h

theorem Unreset.visitors {s : State} (h : Unreset s) : Unreset s.visitors := by
  unfold State.visitors
  repeat' split
  · exact h
  · exact (actAll_reset _ _).trans h
  · exact h

theorem Unreset.cycle {s : State} (h : Unreset s) : Unreset s.cycle := by rw [State.cycle_unreset h]; exact h

theorem Unreset.others {s : State} (h : Unreset s) : Unreset s.others := h.visitors.cycle

theorem Unreset.gap {s : State} (h : Unreset s) (a : Nat) : Unreset (s.gap a) := by
  unfold State.gap
  split
  · exact h.others
  · exact h

theorem Unreset.loadWord {s : State} (h : Unreset s) (a b : Nat) : Unreset (s.loadWord a b).2 := ((h.others.load _).gap _).load _

theorem Unreset.storeWord {s : State} (h : Unreset s) (a b : Nat) (v : Word) : Unreset (s.storeWord a b v) :=
  ((h.others.store _ _).gap _).store _ _

theorem Unreset.fetch16 {s : State} (h : Unreset s) (a : Addr) (k : Nat) : Unreset (s.fetch16 a k).2 := h.others.gap _

theorem Unreset.readWords {s : State} (h : Unreset s) (a : Addr) (k n : Nat) : Unreset (readWords s a k n).2 := by
  induction n generalizing s k with
  | zero => exact h
  | succ n ih => exact ih (h.fetch16 a k) (k + 2)

theorem Unreset.segGet8 {s : State} (h : Unreset s) (r : SegReg) (off : Word) (k : Nat) : Unreset (s.segGet8 r off k).2 :=
  h.others.load _

theorem Unreset.segGet16 {s : State} (h : Unreset s) (r : SegReg) (off : Word) : Unreset (s.segGet16 r off).2 := h.loadWord _ _

theorem Unreset.stackGet {s : State} (h : Unreset s) (k : Nat) : Unreset (s.stackGet k).2 := h.loadWord _ _

theorem Unreset.vectorWord {s : State} (h : Unreset s) (k : Nat) : Unreset (s.vectorWord k).2 := h.loadWord _ _

theorem Unreset.segPut8 {s : State} (h : Unreset s) (r : SegReg) (off : Word) (k : Nat) (v : Byte) :
    Unreset (s.segPut8 r off k v) := h.others.store _ _

theorem Unreset.segPut16 {s : State} (h : Unreset s) (r : SegReg) (off v : Word) : Unreset (s.segPut16 r off v) := h.storeWord _ _ _

theorem Unreset.poke8 {s : State} (h : Unreset s) (a : Addr) (k : Nat) (v : Byte) : Unreset (s.poke8 a k v) := h.store _ _

theorem Unreset.poke16 {s : State} (h : Unreset s) (a : Addr) (k : Nat) (v : Word) : Unreset (s.poke16 a k v) := h.storeWord _ _ _

theorem Unreset.setAccessed {s : State} (h : Unreset s) (d : Desc) : Unreset (s.setAccessed d) := h.others.poke8 _ _ _

theorem Unreset.over {s : State} (h : Unreset s) (t : Trap) : Unreset (t.over s) := by
  unfold Trap.over
  split
  · exact h
  · exact if_pos h

theorem Unreset.portByte {s : State} (h : Unreset s) (p : Word) : Unreset (s.portByte p).2 := by
  unfold State.portByte
  repeat' split
  all_goals exact h

theorem Unreset.record {s : State} (h : Unreset s) (e : PortEvent) : Unreset (s.record e) := by
  unfold State.record
  split <;> exact h

theorem Unreset.portGap {s : State} (h : Unreset s) (p : Word) (e : PortEvent) : Unreset (s.portGap p e) := by
  have hc := (h.record e).cycle
  unfold State.portGap
  split
  · dsimp only
    split <;> exact hc
  · exact h

theorem Unreset.portRead8 {s : State} (h : Unreset s) (p : Word) : Unreset (s.portRead8 p).2 := (h.cycle.portByte p).record _

theorem Unreset.portRead16 {s : State} (h : Unreset s) (p : Word) : Unreset (s.portRead16 p).2 :=
  (((h.cycle.portByte p).portGap p _).portByte _).record _

theorem Unreset.portWrite8 {s : State} (h : Unreset s) (p : Word) (v : Byte) : Unreset (s.portWrite8 p v) := h.cycle.record _

theorem Unreset.portWrite16 {s : State} (h : Unreset s) (p : Word) (v : Word) : Unreset (s.portWrite16 p v) :=
  (h.cycle.portGap p _).record _

/-! ### A RESET that falls into the step -/

/-- A RESET still some cycles away: one fewer. -/
theorem State.cycle_counts {s : State} {n : Nat} (h : s.bus.reset = .after (n + 1)) :
    s.cycle = { s with bus := { s.bus with reset := .after n } } := by
  unfold State.cycle
  rw [h]

/-- A RESET whose time has come ends a bus lock and every bus action of the step. -/
theorem State.cycle_resets {s : State} (h : s.bus.reset = .after 0) :
    s.cycle = s.resetNow := by
  unfold State.cycle
  rw [h]

/-- Once a RESET has come, nothing happens on the bus. -/
@[simp] theorem State.resetNow_dead (s : State) : s.resetNow.dead = true := rfl

/-- The bus is alive unless a RESET has come. -/
theorem State.dead_unreset {s : State} (h : Unreset s) : s.dead = false := by
  unfold State.dead
  rw [show s.bus.reset = .quiet from h]
  rfl

/-- Once a RESET has come, no store does anything. -/
theorem State.store_dead {s : State} (h : s.dead = true) (a : Nat) (v : Byte) : s.store a v = s := by
  unfold State.store
  rw [if_pos h]

/-- Once a RESET has come, no read does anything. -/
theorem State.load_dead {s : State} (h : s.dead = true) (a : Nat) : (s.load a).2 = s := by
  unfold State.load
  rw [if_pos h]

/-- Once a RESET has come, nothing comes before a bus cycle. -/
theorem State.others_dead {s : State} (h : s.dead = true) : s.others = s := by
  unfold State.others State.visitors State.cycle
  rw [if_neg (fun e => Bool.false_ne_true (e.2.symm.trans h)), show s.bus.reset = .come from of_decide_eq_true h]

/-- Once a RESET has come, no word is stored. -/
theorem State.storeWord_dead {s : State} (h : s.dead = true) (a b : Nat) (v : Word) : s.storeWord a b v = s := by
  unfold State.storeWord State.gap
  rw [State.others_dead h, State.store_dead h]
  split
  · rw [State.others_dead h, State.store_dead h]
  · exact State.store_dead h b _

/-- Once a RESET has come, reading a word of data leaves all as it is. -/
theorem State.loadWord_dead {s : State} (h : s.dead = true) (a b : Nat) : (s.loadWord a b).2 = s := by
  unfold State.loadWord State.gap
  dsimp only
  rw [State.others_dead h, State.load_dead h]
  split
  · rw [State.others_dead h, State.load_dead h]
  · exact State.load_dead h b

/-- Once a RESET has come, reading a word of a table leaves all as it is. -/
theorem State.fetch16_dead {s : State} (h : s.dead = true) (a : Addr) (k : Nat) : (s.fetch16 a k).2 = s := by
  unfold State.fetch16 State.gap
  dsimp only
  rw [State.others_dead h]
  split
  · exact State.others_dead h
  · rfl

/-- Once a RESET has come, reading a TSS leaves all as it is. -/
theorem readWords_dead {s : State} (h : s.dead = true) (a : Addr) (k n : Nat) : (readWords s a k n).2 = s := by
  induction n generalizing k with
  | zero => rfl
  | succ n ih =>
    unfold readWords
    dsimp only
    rw [State.fetch16_dead h]
    exact ih (k + 2)

/-- Once a RESET has come, no Accessed bit is set. -/
theorem State.setAccessed_dead {s : State} (h : s.dead = true) (d : Desc) : s.setAccessed d = s := by
  unfold State.setAccessed State.poke8
  rw [State.others_dead h, State.store_dead h]

/-- What comes before the next unlocked cycle: the next entry of what is to come between. -/
theorem State.others_next {s : State} (hr : Unreset s) (hl : s.bus.lock = .free) {acts : List BusAct} {rest : List (List BusAct)}
    (hb : s.bus.between = acts :: rest) : s.others = actAll { s with bus := { s.bus with between := rest } } acts := by
  unfold State.others State.visitors
  rw [if_pos ⟨hl, State.dead_unreset hr⟩, hb]
  exact State.cycle_unreset ((actAll_reset _ _).trans hr)

/-- No other agent comes before the next cycle when none is to come, or the bus is locked. -/
theorem State.visitors_none {s : State} (h : s.bus.between = []) : s.visitors = s := by
  unfold State.visitors
  split
  · rw [h]
  · rfl

theorem State.visitors_locked {s : State} (h : s.bus.lock ≠ .free) : s.visitors = s := by
  unfold State.visitors
  rw [if_neg fun e => h e.1]

theorem State.others_alone {s : State} (h : Alone s) : s.others = s := by
  unfold State.others
  rw [State.visitors_none h.1, State.cycle_unreset h.2]

theorem State.others_locked {s : State} (hr : Unreset s) (h : s.bus.lock ≠ .free) : s.others = s := by
  unfold State.others
  rw [State.visitors_locked h, State.cycle_unreset hr]

theorem State.gap_alone {s : State} (h : Alone s) (a : Nat) : s.gap a = s := by
  unfold State.gap
  split
  · exact State.others_alone h
  · rfl

theorem Alone.store {s : State} (h : Alone s) (a : Nat) (v : Byte) : Alone (s.store a v) :=
  ⟨(State.store_between s a v).trans h.1, (State.store_reset s a v).trans h.2⟩

theorem Alone.load {s : State} (h : Alone s) (a : Nat) : Alone (s.load a).2 :=
  ⟨(State.load_between s a).trans h.1, (State.load_reset s a).trans h.2⟩

/-- With the bus free, the end of a lock changes nothing. -/
theorem State.release_free {s : State} (h : s.bus.lock = .free) : s.release = s := by
  unfold State.release
  rw [if_pos h]

/-- RAM or ROM: an address where a read is of the memory list and has no effect. -/
theorem State.load_memory {s : State} {a : Nat} (h : s.kindAt a = .ram ∨ s.kindAt a = .rom) :
    s.load a = (s.mem.read a, s) := by
  unfold State.load State.look
  rcases h with h | h <;> simp only [h, ite_self]

/-- A store to RAM changes the memory list, unless a RESET has come. -/
theorem State.store_ram {s : State} {a : Nat} (hd : s.dead = false) (h : s.kindAt a = .ram) (v : Byte) :
    s.store a v = { s with mem := s.mem.write a v } := by
  unfold State.store
  simp only [hd, Bool.false_eq_true, if_false, h]

/-- A look at RAM or ROM is of the memory list. -/
theorem State.look_memory {s : State} {a : Nat} (h : s.kindAt a = .ram ∨ s.kindAt a = .rom) : s.look a = s.mem.read a := by
  unfold State.look
  rcases h with h | h <;> simp only [h]

/-! ### Registers and their halves -/

@[simp] theorem loByte_mkWord (a b : Byte) : loByte (mkWord a b) = a := by
  apply BitVec.eq_of_getLsbD_eq
  intro i hi
  have e : mkWord a b = (b ++ a : BitVec (8 + 8)) := rfl
  rw [loByte, e, BitVec.getLsbD_extractLsb', BitVec.getLsbD_append]
  simp [hi]

@[simp] theorem hiByte_mkWord (a b : Byte) : hiByte (mkWord a b) = b := by
  apply BitVec.eq_of_getLsbD_eq
  intro i hi
  have e : mkWord a b = (b ++ a : BitVec (8 + 8)) := rfl
  rw [hiByte, e, BitVec.getLsbD_extractLsb', BitVec.getLsbD_append]
  simp [hi]

@[simp] theorem mkWord_lo_hi (w : Word) : mkWord (loByte w) (hiByte w) = w := by
  apply BitVec.eq_of_getLsbD_eq
  intro i hi
  have e : mkWord (loByte w) (hiByte w) = (hiByte w ++ loByte w : BitVec (8 + 8)) := rfl
  rw [e, BitVec.getLsbD_append]
  by_cases h : i < 8
  · simp [h, loByte]
  · have h1 : 8 + (i - 8) = i := by omega
    have h2 : i - 8 < 8 := by omega
    simp [hiByte, *]

@[simp] theorem Gpr.get_set_same (g : Gpr) (r : Reg16) (v : Word) : (g.set r v).get r = v := by cases r <;> rfl

theorem Gpr.get_set_other (g : Gpr) {r q : Reg16} (v : Word) (h : q ≠ r) : (g.set r v).get q = g.get q := by
  cases r <;> cases q <;> first | rfl | exact absurd rfl h

@[simp] theorem State.reg16_setReg16_same (s : State) (r : Reg16) (v : Word) : (s.setReg16 r v).reg16 r = v :=
  Gpr.get_set_same s.gpr r v

theorem State.reg16_setReg16_other (s : State) {r q : Reg16} (v : Word) (h : q ≠ r) :
    (s.setReg16 r v).reg16 q = s.reg16 q := Gpr.get_set_other s.gpr v h

@[simp] theorem State.reg8_setReg8_same (s : State) (r : Reg8) (v : Byte) : (s.setReg8 r v).reg8 r = v := by
  cases r <;> simp [State.reg8, State.setReg8, reg8High, reg8Whole, withLow, withHigh]

theorem State.reg8_setReg8_other (s : State) {r q : Reg8} (v : Byte) (h : q ≠ r) :
    (s.setReg8 r v).reg8 q = s.reg8 q := by
  cases r <;> cases q <;> first
    | exact absurd rfl h
    | simp [State.reg8, State.setReg8, State.setReg16, State.reg16, reg8High, reg8Whole, withLow, withHigh, Gpr.get, Gpr.set]

/-- A byte write leaves the registers without halves as they were. -/
theorem State.setReg8_pointers (s : State) (r : Reg8) (v : Byte) :
    (s.setReg8 r v).gpr.sp = s.gpr.sp ∧ (s.setReg8 r v).gpr.bp = s.gpr.bp ∧
      (s.setReg8 r v).gpr.si = s.gpr.si ∧ (s.setReg8 r v).gpr.di = s.gpr.di := by
  cases r <;> exact ⟨rfl, rfl, rfl, rfl⟩

end Sys2Proof.Machine
end

