-- ==== Sys2Proof/Laws/Decode.lean ====
section
/-! SUPPORT. The fields of a ModRM byte, and one lemma that says what decoding reads from an encoded operand. -/

namespace Sys2Proof

open Machine

@[simp] theorem modField_modrmByte (a : BitVec 2) (b c : BitVec 3) : modField (modrmByte a b c) = a := by revert a b c; decide

@[simp] theorem regField_modrmByte (a : BitVec 2) (b c : BitVec 3) : regField (modrmByte a b c) = b := by revert a b c; decide

@[simp] theorem rmField_modrmByte (a : BitVec 2) (b c : BitVec 3) : rmField (modrmByte a b c) = c := by revert a b c; decide

@[simp] theorem Reg16.ofBits_bits (r : Reg16) : Reg16.ofBits r.bits = r := by cases r <;> rfl

@[simp] theorem Reg8.ofBits_bits (r : Reg8) : Reg8.ofBits r.bits = r := by cases r <;> rfl

@[simp] theorem AddrBase.ofBits_bits (b : AddrBase) : AddrBase.ofBits b.bits = b := by cases b <;> rfl

theorem AddrBase.bits_eq_six (b : AddrBase) : b.bits = 6 ↔ b = .bp := by cases b <;> decide

/-- An encoded operand starts with a ModRM byte that carries the reg field, and reading the operand gives it back with the
bytes after it (30_encoding.md R203, R210, R211). -/
theorem readRm_encodeRm {R : Type} {ofBits : BitVec 3 → R} {bits : R → BitVec 3} (h : ∀ r, ofBits (bits r) = r)
    (reg : BitVec 3) (e : RM R) (hw : e.wf = true) (tail : List Byte) :
    ∃ m rest, encodeRm bits reg e ++ tail = m :: rest ∧ regField m = reg ∧ readRm ofBits m rest = .ok (e, tail) := by
  cases e with
  | reg r => exact ⟨_, _, rfl, regField_modrmByte _ _ _, by simp [readRm, h]⟩
  | mem m =>
    cases m with
    | direct off => exact ⟨_, _, rfl, regField_modrmByte _ _ _, by simp [readRm, readMem]⟩
    | based b d =>
      cases d with
      | none =>
        have hb : ¬ b.bits = 6 := fun hb => by
          have : b = .bp := b.bits_eq_six.1 hb
          revert hw
          simp [RM.wf, MemOp.wf, this]
        refine ⟨_, _, rfl, regField_modrmByte _ _ _, ?_⟩
        simp only [readRm, readMem, modField_modrmByte, rmField_modrmByte, if_neg hb, AddrBase.ofBits_bits]
        rfl
      | d8 x => exact ⟨_, _, rfl, regField_modrmByte _ _ _, by simp [readRm, readMem]⟩
      | d16 w => exact ⟨_, _, rfl, regField_modrmByte _ _ _, by simp [readRm, readMem]⟩

/-- Reading an immediate word gives back what was written (R220). -/
theorem readImm16_encodeWord (f : Word → Instr) (w : Word) (rest : List Byte) :
    readImm16 f (encodeWord w ++ rest) = .ok (f w, rest) := by simp [encodeWord, readImm16]

end Sys2Proof
end

