-- ==== Sys2Proof/Laws/Memory.lean ====
section
/-! SUPPORT. Memory: a read after a write, the canonical form kept by every memory operation, and the two addresses of a word. -/

namespace Sys2Proof.Machine

/-! ### The list -/

/-- Below the first address of a canonical list, and everywhere on the empty one, a byte reads as unlisted. -/
theorem Memory.read_below {m : Memory} {lo : Nat} (h : Memory.wfFrom (some lo) m = true) {k : Nat} (hk : k ≤ lo) :
    m.read k = unlistedByte := by
  induction m generalizing lo with
  | nil => rfl
  | cons c m ih =>
    obtain ⟨a, b⟩ := c
    simp only [Memory.wfFrom, Bool.and_eq_true, decide_eq_true_eq] at h
    have hne : a ≠ k := by omega
    simp only [Memory.read, if_neg hne]
    exact ih h.2 (by omega)

/-- Canonical above a bound is canonical. -/
theorem Memory.wfFrom_none {m : Memory} {lo : Nat} (h : Memory.wfFrom (some lo) m = true) : Memory.wfFrom none m = true := by
  cases m with
  | nil => rfl
  | cons c m =>
    simp only [Memory.wfFrom, Bool.and_eq_true] at h ⊢
    exact ⟨⟨⟨trivial, h.1.1.2⟩, h.1.2⟩, h.2⟩

/-- The tail of a canonical list lies above its head. -/
theorem Memory.wfFrom_tail {lo : Option Nat} {a : Nat} {b : Byte} {m : Memory}
    (h : Memory.wfFrom lo ((a, b) :: m) = true) : Memory.wfFrom (some a) m = true := by
  simp only [Memory.wfFrom, Bool.and_eq_true] at h
  exact h.2

/-- Canonical above a bound is canonical above any lower one. -/
theorem Memory.wfFrom_lower {m : Memory} {lo hi : Nat} (hl : lo ≤ hi) (h : Memory.wfFrom (some hi) m = true) :
    Memory.wfFrom (some lo) m = true := by
  cases m with
  | nil => rfl
  | cons c m =>
    simp only [Memory.wfFrom, Bool.and_eq_true, decide_eq_true_eq] at h ⊢
    exact ⟨⟨⟨by omega, h.1.1.2⟩, h.1.2⟩, h.2⟩

/-- A read of the address just written answers the value written. -/
theorem Memory.read_write_same {m : Memory} {lo : Option Nat} (h : Memory.wfFrom lo m = true) (k : Nat) (v : Byte) :
    (m.write k v).read k = v := by
  induction m generalizing lo with
  | nil => by_cases hv : v = unlistedByte <;> simp [Memory.write, Memory.read, hv]
  | cons c m ih =>
    obtain ⟨a, b⟩ := c
    have ht := Memory.wfFrom_tail h
    by_cases h1 : k < a
    · have hne : a ≠ k := by omega
      have hr := Memory.read_below ht (Nat.le_of_lt h1)
      by_cases hv : v = unlistedByte
      · simp [Memory.write, h1, hv, Memory.read, hne, hr]
      · simp [Memory.write, h1, hv, Memory.read]
    · by_cases h2 : k = a
      · have hr := Memory.read_below ht (Nat.le_of_eq h2)
        by_cases hv : v = unlistedByte
        · simp only [Memory.write, if_neg h1, if_pos h2]
          rw [if_pos hv, hr, hv]
        · simp [Memory.write, h2, hv, Memory.read]
      · have hne : a ≠ k := fun e => h2 e.symm
        simp only [Memory.write, if_neg h1, if_neg h2, Memory.read, if_neg hne]
        exact ih ht

/-- A write leaves every other address as it was. -/
theorem Memory.read_write_other (m : Memory) {k q : Nat} (v : Byte) (h : q ≠ k) : (m.write k v).read q = m.read q := by
  have hkq : k ≠ q := fun e => h e.symm
  induction m with
  | nil => by_cases hv : v = unlistedByte <;> simp [Memory.write, Memory.read, hv, hkq]
  | cons c m ih =>
    obtain ⟨a, b⟩ := c
    by_cases h1 : k < a
    · by_cases hv : v = unlistedByte <;> simp [Memory.write, h1, hv, Memory.read, hkq]
    · by_cases h2 : k = a
      · subst h2
        by_cases hv : v = unlistedByte <;> simp [Memory.write, hv, Memory.read, hkq]
      · simp only [Memory.write, if_neg h1, if_neg h2, Memory.read, ih]

/-- A write keeps the canonical form. -/
theorem Memory.wfFrom_write {m : Memory} {lo : Option Nat} (h : Memory.wfFrom lo m = true) {k : Nat} (hk : k < 2 ^ 24)
    (hlo : ∀ l, lo = some l → l < k) (v : Byte) : Memory.wfFrom lo (m.write k v) = true := by
  induction m generalizing lo with
  | nil =>
    by_cases hv : v = unlistedByte
    · simp [Memory.write, hv, Memory.wfFrom]
    · cases lo with
      | none => simp [Memory.write, hv, Memory.wfFrom]; exact hk
      | some l => simp [Memory.write, hv, Memory.wfFrom, hlo l rfl]; exact hk
  | cons c m ih =>
    obtain ⟨a, b⟩ := c
    have ht := Memory.wfFrom_tail h
    by_cases h1 : k < a
    · by_cases hv : v = unlistedByte
      · simpa [Memory.write, h1, hv] using h
      · simp only [Memory.write, if_pos h1, if_neg hv]
        simp only [Memory.wfFrom, Bool.and_eq_true, decide_eq_true_eq] at h ⊢
        refine ⟨⟨⟨?_, hk⟩, hv⟩, ⟨⟨h1, h.1.1.2⟩, h.1.2⟩, h.2⟩
        cases lo with
        | none => rfl
        | some l => simpa using hlo l rfl
    · by_cases h2 : k = a
      · by_cases hv : v = unlistedByte
        · simp only [Memory.write, if_neg h1, if_pos h2, if_pos hv]
          cases lo with
          | none => exact Memory.wfFrom_none ht
          | some l => exact Memory.wfFrom_lower (by have := hlo l rfl; omega) ht
        · simp only [Memory.write, if_neg h1, if_pos h2, if_neg hv]
          subst h2
          simp only [Memory.wfFrom, Bool.and_eq_true, decide_eq_true_eq] at h ⊢
          exact ⟨⟨h.1.1, hv⟩, h.2⟩
      · simp only [Memory.write, if_neg h1, if_neg h2]
        have hi := ih ht (fun l hl => by injection hl with hl; omega)
        simp only [Memory.wfFrom, Bool.and_eq_true] at h ⊢
        exact ⟨h.1, hi⟩

/-- A write keeps memory canonical. -/
theorem Memory.wf_write {m : Memory} (h : m.wf = true) {k : Nat} (hk : k < 2 ^ 24) (v : Byte) : (m.write k v).wf = true :=
  Memory.wfFrom_write h hk (fun l hl => by cases hl) v

/-- Two canonical memories that read alike above a bound are the same list. -/
theorem Memory.wfFrom_ext {m n : Memory} {lo : Option Nat} (hm : Memory.wfFrom lo m = true) (hn : Memory.wfFrom lo n = true)
    (h : ∀ k, m.read k = n.read k) : m = n := by
  induction m generalizing lo n with
  | nil =>
    cases n with
    | nil => rfl
    | cons c n =>
      obtain ⟨a, b⟩ := c
      have hb := h a
      simp only [Memory.wfFrom, Bool.and_eq_true, decide_eq_true_eq] at hn
      simp [Memory.read] at hb
      exact absurd hb.symm hn.1.2
  | cons c m ih =>
    obtain ⟨a, b⟩ := c
    cases n with
    | nil =>
      have hb := h a
      simp only [Memory.wfFrom, Bool.and_eq_true, decide_eq_true_eq] at hm
      simp [Memory.read] at hb
      exact absurd hb hm.1.2
    | cons d n =>
      obtain ⟨a', b'⟩ := d
      have tm := Memory.wfFrom_tail hm
      have tn := Memory.wfFrom_tail hn
      simp only [Memory.wfFrom, Bool.and_eq_true, decide_eq_true_eq] at hm hn
      have haa : a = a' := by
        rcases Nat.lt_trichotomy a a' with hlt | heq | hlt
        · have hb := h a
          have hne : a' ≠ a := by omega
          simp only [Memory.read, if_pos, if_neg hne] at hb
          exact absurd (hb.trans (Memory.read_below tn (Nat.le_of_lt hlt))) hm.1.2
        · exact heq
        · have hb := h a'
          have hne : a ≠ a' := by omega
          simp only [Memory.read, if_pos, if_neg hne] at hb
          exact absurd (hb.symm.trans (Memory.read_below tm (Nat.le_of_lt hlt))) hn.1.2
      subst haa
      have hbb : b = b' := by simpa [Memory.read] using h a
      subst hbb
      have hmn : m = n := by
        refine ih tm tn fun k => ?_
        by_cases hk : a = k
        · rw [Memory.read_below tm (by omega), Memory.read_below tn (by omega)]
        · have hr := h k
          simpa only [Memory.read, if_neg hk] using hr
      rw [hmn]

/-- Equal memories are equal data: canonical memories that read alike are the same list. -/
theorem Memory.ext_of_wf {m n : Memory} (hm : m.wf = true) (hn : n.wf = true) (h : ∀ k, m.read k = n.read k) : m = n :=
  Memory.wfFrom_ext hm hn h

/-! ### The operations over State keep the canonical form -/

theorem physAdd_lt (a : Addr) (k : Nat) : physAdd a k < 2 ^ 24 := (a + BitVec.ofNat 24 k).isLt

theorem State.store_wf {s : State} (h : s.mem.wf = true) {a : Nat} (ha : a < 2 ^ 24) (v : Byte) :
    (s.store a v).mem.wf = true := by
  unfold State.store
  split
  · exact h
  · split
    · exact Memory.wf_write h ha v
    all_goals exact h

theorem State.placed_wf {s : State} (h : s.mem.wf = true) {a : Nat} (ha : a < 2 ^ 24) (v : Byte) :
    (s.placed a v).mem.wf = true := by
  unfold State.placed
  split
  · exact Memory.wf_write h ha v
  · exact Memory.wf_write h ha v
  all_goals exact h

theorem State.act_wf {s : State} (h : s.mem.wf = true) (x : BusAct) : (s.act x).mem.wf = true := by
  cases x with
  | place a v => exact State.placed_wf h (Nat.mod_lt _ (by decide)) _
  | npxRead a =>
    show ((s.load (physAdd a 0)).2.load (physAdd a 1)).2.mem.wf = true
    rw [State.load_mem, State.load_mem]
    exact h
  | npxWrite a v => exact State.store_wf (State.store_wf h (physAdd_lt a 0) _) (physAdd_lt a 1) _

theorem actAll_wf {s : State} (h : s.mem.wf = true) (xs : List BusAct) : (actAll s xs).mem.wf = true := by
  induction xs generalizing s with
  | nil => exact h
  | cons x xs ih => exact ih (State.act_wf h x)

theorem State.release_wf {s : State} (h : s.mem.wf = true) : s.release.mem.wf = true := by
  unfold State.release
  split
  · exact h
  · refine actAll_wf ?_ _; exact h

theorem State.resetNow_wf {s : State} (h : s.mem.wf = true) : s.resetNow.mem.wf = true := State.release_wf h

theorem State.cycle_wf {s : State} (h : s.mem.wf = true) : s.cycle.mem.wf = true := by
  unfold State.cycle
  split
  · exact h
  · exact State.resetNow_wf h
  · exact h
  · exact h

theorem State.others_wf {s : State} (h : s.mem.wf = true) : s.others.mem.wf = true := by
  refine State.cycle_wf ?_
  unfold State.visitors
  split
  · split
    · exact h
    · refine actAll_wf ?_ _; exact h
  · exact h

theorem State.gap_wf {s : State} (h : s.mem.wf = true) (a : Nat) : (s.gap a).mem.wf = true := by
  unfold State.gap
  split
  · exact State.others_wf h
  · exact h

theorem State.hear_wf {s : State} (h : s.mem.wf = true) (xs : List BusAct) : (s.hear xs).mem.wf = true := by
  unfold State.hear
  split
  · exact actAll_wf h xs
  · exact h

theorem State.load_wf {s : State} (h : s.mem.wf = true) (a : Nat) : (s.load a).2.mem.wf = true := by
  rw [State.load_mem]
  exact h

theorem State.loadWord_wf {s : State} (h : s.mem.wf = true) (a b : Nat) : (s.loadWord a b).2.mem.wf = true :=
  State.load_wf (State.gap_wf (State.load_wf (State.others_wf h) a) a) b

theorem State.storeWord_wf {s : State} (h : s.mem.wf = true) {a b : Nat} (ha : a < 2 ^ 24) (hb : b < 2 ^ 24) (v : Word) :
    (s.storeWord a b v).mem.wf = true := State.store_wf (State.gap_wf (State.store_wf (State.others_wf h) ha _) a) hb _

theorem State.fetch16_wf {s : State} (h : s.mem.wf = true) (a : Addr) (k : Nat) : (s.fetch16 a k).2.mem.wf = true :=
  State.gap_wf (State.others_wf h) _

theorem readWords_wf {s : State} (h : s.mem.wf = true) (a : Addr) (k n : Nat) : (readWords s a k n).2.mem.wf = true := by
  induction n generalizing s k with
  | zero => exact h
  | succ n ih => exact ih (State.fetch16_wf h a k) (k + 2)

/-- The state an exception is raised in has canonical memory if the instruction's first state has, whatever the bus. -/
theorem Trap.over_wf {s : State} (h : s.mem.wf = true) (t : Trap) : (t.over s).mem.wf = true := by
  unfold Trap.over
  split
  · exact h
  · exact actAll_wf h _

theorem State.poke8_wf {s : State} (h : s.mem.wf = true) (a : Addr) (k : Nat) (v : Byte) : (s.poke8 a k v).mem.wf = true :=
  State.store_wf h (physAdd_lt a k) v

theorem State.poke16_wf {s : State} (h : s.mem.wf = true) (a : Addr) (k : Nat) (v : Word) : (s.poke16 a k v).mem.wf = true :=
  State.storeWord_wf h (physAdd_lt a k) (physAdd_lt a (k + 1)) v

theorem State.segPut8_wf {s : State} (h : s.mem.wf = true) (r : SegReg) (off : Word) (k : Nat) (v : Byte) :
    (s.segPut8 r off k v).mem.wf = true := State.store_wf (State.others_wf h) (s.segAddr r off k).isLt v

theorem State.segPut16_wf {s : State} (h : s.mem.wf = true) (r : SegReg) (off v : Word) :
    (s.segPut16 r off v).mem.wf = true := State.storeWord_wf h (s.segAddr r off 0).isLt (s.segAddr r off 1).isLt v

theorem storeRm8_wf {s : State} (h : s.mem.wf = true) (e : Rm8) (v : Byte) : (storeRm8 s e v).mem.wf = true := by
  cases e with
  | reg r => exact h
  | mem m => exact State.segPut8_wf h _ _ _ _

theorem storeRm16_wf {s : State} (h : s.mem.wf = true) (e : Rm16) (v : Word) : (storeRm16 s e v).mem.wf = true := by
  cases e with
  | reg r => exact h
  | mem m => exact State.segPut16_wf h _ _ _

theorem State.setAccessed_wf {s : State} (h : s.mem.wf = true) (d : Desc) : (s.setAccessed d).mem.wf = true :=
  State.poke8_wf (State.others_wf h) _ _ _

theorem State.setBusy_wf {s : State} (h : s.mem.wf = true) (sel : Word) : (s.setBusy sel).mem.wf = true :=
  State.poke8_wf h _ _ _

theorem State.clearBusy_wf {s : State} (h : s.mem.wf = true) (sel : Word) : (s.clearBusy sel).mem.wf = true :=
  State.poke8_wf (State.others_wf h) _ _ _

theorem pokeWords_wf {s : State} (h : s.mem.wf = true) (a : Addr) (k : Nat) (ws : List Word) :
    (pokeWords s a k ws).mem.wf = true := by
  induction ws generalizing s k with
  | nil => exact h
  | cons w ws ih => exact ih (State.poke16_wf h a k w) (k + 2)

theorem State.placeBytes_wf {s : State} (h : s.mem.wf = true) (k : Nat) (bs : List Byte) : (s.placeBytes k bs).mem.wf = true := by
  induction bs generalizing s k with
  | nil => exact h
  | cons b bs ih => exact ih (Memory.wf_write h (s.segAddr .cs _ _).isLt b) (k + 1)

theorem push16_wf {s t : State} (h : s.mem.wf = true) {v : Word} (ht : push16 s v = .ok t) : t.mem.wf = true := by
  unfold push16 require at ht
  split at ht
  · simp only [bind, Except.bind, Except.ok.injEq] at ht
    subst ht
    exact State.segPut16_wf h _ _ _
  · simp only [bind, Except.bind, reduceCtorEq] at ht

theorem pushAll_wf {s t : State} (h : s.mem.wf = true) {ws : List Word} (ht : pushAll s ws = .ok t) : t.mem.wf = true := by
  induction ws generalizing s with
  | nil => simp only [pushAll, Except.ok.injEq] at ht; subst ht; exact h
  | cons w ws ih =>
    unfold pushAll at ht
    cases hp : push16 s w with
    | error e => simp [hp] at ht
    | ok u => simp only [hp] at ht; exact ih (push16_wf h hp) ht

/-- Reset memory is canonical. -/
theorem reset_memory_wf : State.reset.mem.wf = true := rfl

/-! ### The bytes of a word -/

/-- The two bytes of a word stand at different addresses. -/
theorem State.segAddr_two (s : State) (r : SegReg) (off : Word) : (s.segAddr r off 1).toNat ≠ (s.segAddr r off 0).toNat := by
  intro h
  have hb : (s.segAddr r off 1).getLsbD 0 = (s.segAddr r off 0).getLsbD 0 := by rw [BitVec.eq_of_toNat_eq h]
  have hlow : ∀ x : Addr, (x + 1#24).getLsbD 0 = !x.getLsbD 0 := by
    intro x
    have e : (x + 1#24).toNat = (x.toNat + 1) % 2 ^ 24 := by simp [BitVec.toNat_add]
    simp only [BitVec.getLsbD, Nat.testBit_zero, e]
    by_cases hx : x.toNat % 2 = 1
    · simp only [hx, decide_true, Bool.not_true, decide_eq_false_iff_not]; omega
    · simp only [hx, decide_false, Bool.not_false, decide_eq_true_eq]; omega
  unfold State.segAddr at hb
  simp only [BitVec.add_zero, BitVec.ofNat_eq_ofNat] at hb
  split at hb
  · simp only [BitVec.getLsbD_and] at hb
    rw [hlow] at hb
    revert hb
    cases ((s.seg r).base + BitVec.zeroExtend 24 off).getLsbD 0 <;> simp
  · rw [hlow] at hb
    revert hb
    cases ((s.seg r).base + BitVec.zeroExtend 24 off).getLsbD 0 <;> simp

/-- The address of an operand depends on the segment registers, the mode and the platform alone. -/
theorem OnBus.segAddr {s t : State} (h : OnBus s t) (q : SegReg) (o : Word) (j : Nat) :
    t.segAddr q o j = s.segAddr q o j := by
  have hs : t.seg q = s.seg q := by
    cases q
    · exact h.es
    · exact h.cs
    · exact h.ss
    · exact h.ds
  unfold State.segAddr
  rw [hs, h.platform, h.msw]

@[simp] theorem State.segAddr_store (s : State) (a : Nat) (v : Byte) (q : SegReg) (o : Word) (j : Nat) :
    (s.store a v).segAddr q o j = s.segAddr q o j := (s.store_onBus a v).segAddr q o j

@[simp] theorem State.segAddr_load (s : State) (a : Nat) (q : SegReg) (o : Word) (j : Nat) :
    (s.load a).2.segAddr q o j = s.segAddr q o j := (s.load_onBus a).segAddr q o j

@[simp] theorem State.segAddr_others (s : State) (q : SegReg) (o : Word) (j : Nat) :
    s.others.segAddr q o j = s.segAddr q o j := s.others_onBus.segAddr q o j

theorem State.segAddr_segPut8 (s : State) (r q : SegReg) (off o : Word) (k j : Nat) (v : Byte) :
    (s.segPut8 r off k v).segAddr q o j = s.segAddr q o j := (s.segPut8_onBus r off k v).segAddr q o j

/-! ### Bus cycles with no other agent between them -/

/-- A word stored with no other agent between: its two bytes, low then high. -/
theorem State.storeWord_alone {s : State} (h : Alone s) (a b : Nat) (v : Word) :
    s.storeWord a b v = (s.store a (loByte v)).store b (hiByte v) := by
  unfold State.storeWord
  rw [State.others_alone h, State.gap_alone (h.store a _)]

/-- A word read with no other agent between: its two bytes, low then high. -/
theorem State.loadWord_alone {s : State} (h : Alone s) (a b : Nat) :
    s.loadWord a b = (mkWord (s.load a).1 ((s.load a).2.load b).1, ((s.load a).2.load b).2) := by
  simp only [State.loadWord, State.others_alone h, State.gap_alone (h.load a)]

/-- A word looked at with no other agent between. -/
theorem State.fetch16_alone {s : State} (h : Alone s) (a : Addr) (k : Nat) : s.fetch16 a k = (s.peek16 a k, s) := by
  unfold State.fetch16
  simp only [State.others_alone h, State.gap_alone h]
  rfl

/-- Words looked at with no other agent between. -/
theorem readWords_alone {s : State} (h : Alone s) (a : Addr) (k n : Nat) :
    readWords s a k n = ((List.range n).map fun j => s.peek16 a (k + 2 * j), s) := by
  induction n generalizing k with
  | zero => rfl
  | succ n ih =>
    simp only [readWords, State.fetch16_alone h, ih, List.range_succ_eq_map, List.map_cons, List.map_map]
    refine congrArg (fun l => (_ :: l, s)) (List.map_congr_left fun j _ => ?_)
    show s.peek16 a (k + 2 + 2 * j) = s.peek16 a (k + 2 * (j + 1))
    rw [show k + 2 + 2 * j = k + 2 * (j + 1) by omega]

/-- A descriptor read with no other agent before. -/
theorem fetchOr_alone {s : State} (h : Alone s) {sel : Word} {d : Desc} (hd : s.fetchDesc sel = some d) (t : Trap) :
    fetchOr s sel t = .ok (d, s) := by
  simp only [fetchOr, State.readTable, State.others_alone h, hd, Option.map_some]

/-- No descriptor is read exactly where its table's limit excludes it, or the table is an LDT and LDTR is invalid. -/
theorem fetchDesc_none_iff (s : State) (sel : Word) :
    s.fetchDesc sel = none ↔ (selTi sel && !s.ldtr.valid) = true ∨
      (if selTi sel then s.ldtr.limit else s.gdtr.limit).toNat < 8 * selIndex sel + 7 := by
  unfold State.fetchDesc
  dsimp only
  by_cases h1 : (selTi sel && !s.ldtr.valid) = true
  · rw [if_pos h1]
    exact ⟨fun _ => .inl h1, fun _ => rfl⟩
  · rw [if_neg h1]
    by_cases h2 : (if selTi sel then s.ldtr.limit else s.gdtr.limit).toNat < 8 * selIndex sel + 7
    · rw [if_pos h2]
      exact ⟨fun _ => .inr h2, fun _ => rfl⟩
    · rw [if_neg h2]
      exact ⟨fun e => (nomatch e), fun e => absurd e (not_or.mpr ⟨h1, h2⟩)⟩

/-- Where no descriptor is read no bus cycle is made, and no other agent comes. -/
theorem fetchOr_none {s : State} {sel : Word} (hd : s.fetchDesc sel = none) (t : Trap) : fetchOr s sel t = .error t := by
  have hn : s.others.fetchDesc sel = none := by
    rw [fetchDesc_none_iff] at hd ⊢
    rwa [State.others_ldtr, State.others_gdtr]
  simp only [fetchOr, State.readTable, hn, Option.map_none]

/-- Where no other agent has come, the state an exception is raised in is the instruction's first. -/
theorem Trap.over_same (s : State) (v : Byte) (c : Word) :
    ({ vector := v, code := c, bus := some s.bus } : Trap).over s = s := by
  have e : (if s.bus.reset = .quiet then .quiet else s.bus.reset) = s.bus.reset := by
    split <;> simp_all
  simp [Trap.over, actAll, e]

/-! ### Words in plain memory -/

/-- What a reference that reaches plain memory finds at each of its bytes. -/
theorem InMemory.kind_read {s : State} {r : SegReg} {off : Word} {n : Nat} (h : InMemory s r off n .read) {i : Nat} (hi : i < n) :
    s.kindAt (s.segAddr r off i).toNat = .ram ∨ s.kindAt (s.segAddr r off i).toNat = .rom :=
  (h.2 i hi).imp_right And.right

theorem InMemory.kind_write {s : State} {r : SegReg} {off : Word} {n : Nat} (h : InMemory s r off n .write) {i : Nat} (hi : i < n) :
    s.kindAt (s.segAddr r off i).toNat = .ram := (h.2 i hi).resolve_right fun e => nomatch e.1

/-- Memory that can be written can be read. -/
theorem InMemory.read {s : State} {r : SegReg} {off : Word} {n : Nat} {k : Access} (h : InMemory s r off n k) :
    InMemory s r off n .read := ⟨h.1, fun i hi => (h.2 i hi).imp_right fun e => ⟨rfl, e.2⟩⟩

/-- A byte read from plain memory: the byte looked at, and nothing changed. -/
theorem State.segGet8_memory {s : State} {r : SegReg} {off : Word} {n : Nat} {k : Access} (h : InMemory s r off n k) {i : Nat}
    (hi : i < n) : s.segGet8 r off i = (s.segByte r off i, s) := by
  have hk := h.read.kind_read hi
  unfold State.segGet8 State.segByte
  rw [State.others_alone h.1, State.load_memory hk, State.look_memory hk]

/-- A word read from plain memory. -/
theorem State.segGet16_memory {s : State} {r : SegReg} {off : Word} {k : Access} (h : InMemory s r off 2 k) :
    s.segGet16 r off = (s.segWord r off, s) := by
  have h0 := h.read.kind_read (show 0 < 2 by omega)
  have h1 := h.read.kind_read (show 1 < 2 by omega)
  simp only [State.segGet16, State.loadWord, State.others_alone h.1, State.load_memory h0, State.gap_alone h.1,
    State.load_memory h1, State.segWord, State.segByte, State.look_memory h0, State.look_memory h1]

/-- A byte stored to RAM. -/
theorem State.segPut8_ram {s : State} {r : SegReg} {off : Word} {n : Nat} (h : InMemory s r off n .write) {i : Nat} (hi : i < n)
    (v : Byte) : s.segPut8 r off i v = { s with mem := s.mem.write (s.segAddr r off i).toNat v } := by
  unfold State.segPut8
  rw [State.others_alone h.1, State.store_ram (State.dead_unreset h.1.2) (h.kind_write hi)]

/-- A word stored to RAM: its two bytes, and nothing else. -/
theorem State.segPut16_ram {s : State} {r : SegReg} {off : Word} (h : InMemory s r off 2 .write) (v : Word) :
    s.segPut16 r off v = { s with
      mem := (s.mem.write (s.segAddr r off 0).toNat (loByte v)).write (s.segAddr r off 1).toNat (hiByte v) } := by
  have hk : (s.store (s.segAddr r off 0).toNat (loByte v)).kindAt (s.segAddr r off 1).toNat = .ram := by
    rw [State.store_kindAt]
    exact h.kind_write (show 1 < 2 by omega)
  unfold State.segPut16
  rw [State.storeWord_alone h.1, State.store_ram (State.dead_unreset (h.1.store _ _).2) hk,
    State.store_ram (State.dead_unreset h.1.2) (h.kind_write (show 0 < 2 by omega))]

/-- A word stored to RAM is the word read at the same addresses. -/
theorem State.segPut16_after {s : State} (h : s.mem.wf = true) {r : SegReg} {off : Word} (hr : InMemory s r off 2 .write)
    (v : Word) : wordAfter s (s.segPut16 r off v) r off = v := by
  rw [State.segPut16_ram hr]
  unfold wordAfter
  dsimp only
  rw [Memory.read_write_same (Memory.wf_write h (s.segAddr r off 0).isLt _), Memory.read_write_other _ _ (State.segAddr_two s r off).symm,
    Memory.read_write_same h, mkWord_lo_hi]

/-- A word store with no other agent between changes memory and what devices record only. -/
theorem State.segPut16_rest {s : State} (h : Alone s) (r : SegReg) (off v : Word) :
    s.segPut16 r off v = { s with mem := (s.segPut16 r off v).mem, bus := (s.segPut16 r off v).bus } := by
  unfold State.segPut16
  rw [State.storeWord_alone h, State.store_rest (s.store _ _), State.store_rest s]

/-- A store leaves every byte at another address as it was, whatever answers there. -/
theorem State.store_other (s : State) {a q : Nat} (v : Byte) (h : q ≠ a) : (s.store a v).mem.read q = s.mem.read q := by
  unfold State.store
  split
  · rfl
  · split
    · exact Memory.read_write_other _ v h
    all_goals rfl

/-- No store changes ROM (R754). -/
theorem State.store_rom (s : State) (a : Nat) (v : Byte) {q : Nat} (h : s.kindAt q ≠ .ram) :
    (s.store a v).mem.read q = s.mem.read q := by
  unfold State.store
  split
  · rfl
  · split
    · next hk => exact Memory.read_write_other _ v fun e => h (e ▸ hk)
    all_goals rfl

/-- A word store with no other agent between leaves every byte outside its two addresses as it was. -/
theorem State.segPut16_sameBut {s : State} (h : Alone s) (r : SegReg) (off v : Word) :
    MemSameBut s (s.segPut16 r off v) (wordBytes s r off) := by
  intro a ha
  simp only [wordBytes, List.mem_cons, List.not_mem_nil, or_false, not_or] at ha
  unfold State.segPut16
  rw [State.storeWord_alone h, State.store_other _ _ ha.2, State.store_other _ _ ha.1]

end Sys2Proof.Machine
end

