-- ==== Sys2Proof/Laws/Ops.lean ====
section
/-! SUPPORT. One lemma per shared operation, saying once everything it can do: the checks of a reference, operands, the stack,
segment loads, delivery, and how an instruction ends. -/

namespace Sys2Proof.Machine

/-! ### Data reads -/

/-- A feed that gives nothing has no entry for the key. -/
theorem takeFeed_none {α : Type} [DecidableEq α] {p : α} {feed : List (α × Byte)} (h : takeFeed p feed = none) :
    ∀ e, e ∈ feed → e.1 ≠ p := by
  induction feed with
  | nil => exact fun _ h => nomatch h
  | cons x xs ih =>
    unfold takeFeed at h
    split at h
    · exact nomatch h
    · rename_i hq
      split at h
      · exact nomatch h
      · rename_i hx
        exact List.forall_mem_cons.2 ⟨hq, ih hx⟩

/-- What a feed gives is its first entry for the key, and the feed without it. -/
theorem takeFeed_some {α : Type} [DecidableEq α] {p : α} {feed rest : List (α × Byte)} {b : Byte}
    (h : takeFeed p feed = some (b, rest)) :
    ∃ before after, feed = before ++ (p, b) :: after ∧ (∀ e, e ∈ before → e.1 ≠ p) ∧ rest = before ++ after := by
  induction feed generalizing rest with
  | nil => exact nomatch h
  | cons x xs ih =>
    unfold takeFeed at h
    split at h
    · rename_i hq
      cases h
      subst hq
      exact ⟨[], _, rfl, by simp, rfl⟩
    · rename_i hq
      split at h
      · rename_i hx
        cases h
        obtain ⟨before, after, h1, h2, h3⟩ := ih hx
        exact ⟨x :: before, after, by rw [h1]; rfl, List.forall_mem_cons.2 ⟨hq, h2⟩, by rw [h3]; rfl⟩
      · exact nomatch h

/-- A data read does what `DataRead` says, whatever answers at the address. -/
theorem State.load_dataRead {s : State} (h : Unreset s) (a : Nat) : DataRead s (s.load a).2 a (s.load a).1 := by
  unfold DataRead State.load
  rw [if_neg (by rw [State.dead_unreset h]; exact Bool.false_ne_true)]
  cases hk : s.kindAt a with
  | ram => exact ⟨State.look_memory (.inl hk), rfl⟩
  | rom => exact ⟨State.look_memory (.inr hk), rfl⟩
  | absent => exact ⟨_, rfl⟩
  | device =>
    dsimp only
    unfold State.deviceRead
    cases hf : takeFeed a s.bus.feed with
    | none => exact ⟨_, ⟨.inr ⟨takeFeed_none hf, rfl⟩, fun _ => rfl⟩, rfl⟩
    | some x =>
      have hx := takeFeed_some hf
      refine ⟨x.2, ⟨.inl hx, fun hn => ?_⟩, rfl⟩
      obtain ⟨before, after, he, -⟩ := hx
      exact absurd rfl (hn (a, x.1) (by simp [he]))

/-- A word read with no other agent between is two data reads, of the byte at the lower address first. -/
theorem State.loadWord_dataRead {s : State} (h : Alone s) (a b : Nat) :
    ∃ lo hi, DataRead s (s.load a).2 a lo ∧ DataRead (s.load a).2 (s.loadWord a b).2 b hi ∧
      (s.loadWord a b).1 = mkWord lo hi := by
  rw [State.loadWord_alone h]
  exact ⟨_, _, State.load_dataRead h.2 a, State.load_dataRead (h.load a).2 b, rfl⟩

/-! ### Checks -/

/-- A reference passes its checks exactly when it is accessible. -/
theorem segCheck_iff (s : State) (r : SegReg) (off : Word) (n : Nat) (k : Access) :
    segCheck s r off n k = .ok () ↔ Accessible s r off n k := by
  unfold segCheck Accessible
  by_cases hp : s.msw.pe = true
  · by_cases h1 : (s.seg r).ar = 0
    · simp [hp, h1]
    · by_cases h2 : accessAllowed (s.seg r).ar k = true
      · by_cases h3 : withinLimit (s.seg r) off n = true
        · simp only [hp, if_true, if_neg h1, h2, h3, Bool.not_true, Bool.false_eq_true, if_false, true_iff]
          exact ⟨h1, trivial, trivial⟩
        · simp only [hp, if_true, if_neg h1, h2, h3, Bool.not_true, Bool.not_false, Bool.false_eq_true, if_false,
            reduceCtorEq, and_false]
      · simp only [hp, if_true, if_neg h1, h2, Bool.not_false, reduceCtorEq, Bool.false_eq_true, false_and, and_false]
  · by_cases h1 : off.toNat + n ≤ 0x10000 <;> simp [hp, h1]

theorem segCheck_of_accessible {s : State} {r : SegReg} {off : Word} {n : Nat} {k : Access} (h : Accessible s r off n k) :
    segCheck s r off n k = .ok () := (segCheck_iff s r off n k).2 h

theorem require_true (t : Trap) : require true t = .ok () := rfl

theorem require_false (t : Trap) : require false t = .error t := rfl

/-- A requirement that answers has been met. -/
theorem require_ok {c : Bool} {t : Trap} (h : require c t = .ok ()) : c = true := by
  cases c with
  | true => rfl
  | false => cases h

theorem lockGuard_iff (s : State) : lockGuard s = .ok () ↔ LockAllowed s := by
  unfold lockGuard LockAllowed require
  cases hl : s.pfx.lock <;> cases hp : s.msw.pe <;> by_cases hc : s.cpl ≤ s.flags.iopl <;>
    simp [hc, BitVec.not_lt] at *

theorem lockGuard_of_allowed {s : State} (h : LockAllowed s) : lockGuard s = .ok () := (lockGuard_iff s).2 h

theorem ioplGuard_iff (s : State) : ioplGuard s = .ok () ↔ IoAllowed s := by
  unfold ioplGuard IoAllowed require
  cases hp : s.msw.pe <;> by_cases hc : s.cpl ≤ s.flags.iopl <;>
    simp [hc, BitVec.not_lt] at *

theorem ioplGuard_of_allowed {s : State} (h : IoAllowed s) : ioplGuard s = .ok () := (ioplGuard_iff s).2 h

theorem privilegeGuard_of_privileged {s : State} (h : Privileged s) : privilegeGuard s = .ok () := by
  unfold privilegeGuard
  rw [decide_eq_true (show s.cpl = 0 from h)]
  rfl

/-! ### Operands -/

theorem checkRm8_of_ok {s : State} {e : Rm8} {k : Access} (h : Rm8Ok s e k) : checkRm8 s e k = .ok () := by
  cases e with
  | reg r => rfl
  | mem m => exact segCheck_of_accessible (show Reachable s (s.memSeg m) (s.effOffset m) 1 k from h).1

theorem checkRm16_of_ok {s : State} {e : Rm16} {k : Access} (h : Rm16Ok s e k) : checkRm16 s e k = .ok () := by
  cases e with
  | reg r => rfl
  | mem m => exact segCheck_of_accessible (show Reachable s (s.memSeg m) (s.effOffset m) 2 k from h).1

/-- A byte operand in plain memory or a register, read: its value, and nothing changed. -/
theorem State.getRm8_of_ok {s : State} {e : Rm8} {k : Access} (h : Rm8Ok s e k) : s.getRm8 e = (rm8Value s e, s) := by
  cases e with
  | reg r => rfl
  | mem m => exact State.segGet8_memory (show Reachable s (s.memSeg m) (s.effOffset m) 1 k from h).2 (show 0 < 1 by omega)

theorem State.getRm16_of_ok {s : State} {e : Rm16} {k : Access} (h : Rm16Ok s e k) : s.getRm16 e = (rm16Value s e, s) := by
  cases e with
  | reg r => rfl
  | mem m => exact State.segGet16_memory (show Reachable s (s.memSeg m) (s.effOffset m) 2 k from h).2

theorem loadRm8_of_ok {s : State} {e : Rm8} {k : Access} (h : Rm8Ok s e k) : loadRm8 s e k = .ok (rm8Value s e, s) := by
  simp only [loadRm8, checkRm8_of_ok h, State.getRm8_of_ok h]
  rfl

theorem loadRm16_of_ok {s : State} {e : Rm16} {k : Access} (h : Rm16Ok s e k) : loadRm16 s e k = .ok (rm16Value s e, s) := by
  simp only [loadRm16, checkRm16_of_ok h, State.getRm16_of_ok h]
  rfl

/-- A word read by a checked reference from plain memory. -/
theorem segRead16_of_ok {s : State} {r : SegReg} {off : Word} (h : WordOk s r off .read) :
    segRead16 s r off = .ok (s.segWord r off, s) := by
  simp only [segRead16, segCheck_of_accessible h.1, State.segGet16_memory h.2]
  rfl

/-- Both words of a pointer pass their checks exactly when both are accessible. -/
theorem checkPointer_iff (s : State) (m : MemOp) :
    checkPointer s m = .ok () ↔ Accessible s (s.memSeg m) (s.effOffset m) 2 .read ∧
      Accessible s (s.memSeg m) (s.effOffset m + 2) 2 .read := by
  have e : s.effOffset m + 0 = s.effOffset m := BitVec.add_zero _
  rw [← segCheck_iff, ← segCheck_iff]
  simp only [checkPointer, checkMemWord, e]
  cases segCheck s (s.memSeg m) (s.effOffset m) 2 .read <;> simp [bind, Except.bind]

/-- All three words of a table register pass their checks exactly when all are accessible. -/
theorem checkTable_iff (s : State) (m : MemOp) (k : Access) :
    checkTable s m k = .ok () ↔ Accessible s (s.memSeg m) (s.effOffset m) 2 k ∧
      Accessible s (s.memSeg m) (s.effOffset m + 2) 2 k ∧ Accessible s (s.memSeg m) (s.effOffset m + 4) 2 k := by
  have e : s.effOffset m + 0 = s.effOffset m := BitVec.add_zero _
  rw [← segCheck_iff, ← segCheck_iff, ← segCheck_iff]
  simp only [checkTable, checkMemWord, e]
  cases segCheck s (s.memSeg m) (s.effOffset m) 2 k <;> cases segCheck s (s.memSeg m) (s.effOffset m + 2) 2 k <;>
    simp [bind, Except.bind]

/-- A far pointer read from plain memory. -/
theorem loadPointer_of_ok {s : State} {m : MemOp} (h : PointerOk s m) :
    loadPointer s m = .ok { off := s.segWord (s.memSeg m) (s.effOffset m)
                            sel := s.segWord (s.memSeg m) (s.effOffset m + 2), st := s } := by
  have e : s.effOffset m + 0 = s.effOffset m := BitVec.add_zero _
  simp only [loadPointer, (checkPointer_iff s m).2 ⟨h.1.1, h.2.1⟩, State.getPointer, State.memWord, e,
    State.segGet16_memory h.1.2, State.segGet16_memory h.2.2, bind, Except.bind]

/-- A check made after reads answers what the check answers. -/
theorem afterReads_ok_iff {α : Type} (s : State) (x : Except Trap α) (a : α) : afterReads s x = .ok a ↔ x = .ok a := by
  cases x <;> simp [afterReads]

/-- Reads of plain memory leave no trace in an exception. -/
theorem raiseAt_seen (s : State) (v : Byte) (c : Word) :
    raiseAt s { vector := v, code := c, bus := some s.bus } = raiseAt s { vector := v, code := c } := by
  unfold raiseAt raise
  dsimp only
  rw [Trap.over_same]
  rfl

/-- What a byte store writes, and all it writes, when only flags and free values have changed since the operand was found. -/
theorem storeRm8_wrote {s u : State} (hm : s.mem.wf = true) (hu : u = { s with flags := u.flags, freeCtr := u.freeCtr })
    {e : Rm8} (he : Rm8Ok s e .write) (v : Byte) : Wrote8 s (storeRm8 u e v) e v := by
  rw [hu]
  cases e with
  | reg r =>
    refine ⟨State.reg8_setReg8_same _ r v, ⟨fun q hq => ?_, State.setReg8_pointers _ r v⟩, fun a _ => rfl⟩
    exact State.reg8_setReg8_other _ v (fun e => hq (by rw [e]))
  | mem m =>
    let w : State := { s with flags := u.flags, freeCtr := u.freeCtr }
    have hk : w.kindAt (s.segAddr (s.memSeg m) (s.effOffset m) 0).toNat = .ram := he.2.kind_write (show 0 < 1 by omega)
    have hs : storeRm8 w (.mem m) v = { w with mem := s.mem.write (s.segAddr (s.memSeg m) (s.effOffset m) 0).toNat v } :=
      State.segPut8_ram (s := w) (n := 1) he.2 (by omega) v
    show Wrote8 s (storeRm8 w (.mem m) v) (.mem m) v
    rw [hs]
    refine ⟨Memory.read_write_same hm _ v, ⟨fun _ _ => rfl, rfl, rfl, rfl, rfl⟩, fun a ha => ?_⟩
    simp only [rm8Bytes, List.mem_cons, List.not_mem_nil, or_false] at ha
    exact Memory.read_write_other _ v ha

/-- What a word store writes, and all it writes. -/
theorem storeRm16_wrote {s u : State} (hm : s.mem.wf = true) (hu : u = { s with flags := u.flags, freeCtr := u.freeCtr })
    {e : Rm16} (he : Rm16Ok s e .write) (v : Word) : Wrote16 s (storeRm16 u e v) e v := by
  rw [hu]
  cases e with
  | reg r =>
    refine ⟨State.reg16_setReg16_same _ r v, fun q hq => ?_, fun a _ => rfl⟩
    exact State.reg16_setReg16_other _ v (fun e => hq (by rw [e]))
  | mem m =>
    let w : State := { s with flags := u.flags, freeCtr := u.freeCtr }
    have hw : InMemory w (s.memSeg m) (s.effOffset m) 2 .write := he.2
    refine ⟨State.segPut16_after (s := w) hm hw v, fun q _ => ?_, State.segPut16_sameBut (s := w) he.2.1 _ _ v⟩
    show (w.segPut16 (s.memSeg m) (s.effOffset m) v).gpr.get q = s.gpr.get q
    rw [State.segPut16_gpr]

/-- A byte store changes general registers, memory, the bus and the record of the processor extension only. -/
theorem storeRm8_rest (s : State) (e : Rm8) (v : Byte) :
    OnBus { s with gpr := (storeRm8 s e v).gpr } (storeRm8 s e v) := by
  cases e with
  | reg r => rfl
  | mem m =>
    rw [show (storeRm8 s (.mem m) v).gpr = s.gpr from State.segPut8_gpr s _ _ 0 v]
    exact State.segPut8_onBus s _ _ 0 v

/-- A word store changes general registers, memory, the bus and the record of the processor extension only. -/
theorem storeRm16_rest (s : State) (e : Rm16) (v : Word) :
    OnBus { s with gpr := (storeRm16 s e v).gpr } (storeRm16 s e v) := by
  cases e with
  | reg r => rfl
  | mem m =>
    rw [show (storeRm16 s (.mem m) v).gpr = s.gpr from State.segPut16_gpr s _ _ v]
    exact State.segPut16_onBus s _ _ v

/-! ### The stack -/

/-- A word of the stack segment fits exactly when it is accessible. -/
theorem stackFits_iff (s : State) (off : Word) (k : Access) : stackFits s off k = true ↔ Accessible s .ss off 2 k := by
  rw [← segCheck_iff]
  unfold stackFits
  split <;> simp_all

/-- `push16` answers exactly when the word below SP can be written, and then with that word stored and SP less two. -/
theorem push16_iff (s t : State) (v : Word) :
    push16 s v = .ok t ↔ Accessible s .ss (s.gpr.sp - 2) 2 .write ∧
      t = (s.segPut16 .ss (s.gpr.sp - 2) v).setSp (s.gpr.sp - 2) := by
  rw [← stackFits_iff]
  unfold push16 require
  cases stackFits s (s.gpr.sp - 2) .write with
  | false => simp [bind, Except.bind]
  | true => simp [bind, Except.bind, eq_comm]

/-- `pop16` answers exactly when the word at SP can be read, with that word, the read made, and SP more by two. -/
theorem pop16_iff (s t : State) (v : Word) :
    pop16 s = .ok (v, t) ↔ Accessible s .ss s.gpr.sp 2 .read ∧ v = (s.stackGet 0).1 ∧
      t = (s.stackGet 0).2.setSp (s.gpr.sp + 2) := by
  rw [← stackFits_iff]
  unfold pop16 stackTop require
  cases stackFits s s.gpr.sp .read with
  | false => simp [bind, Except.bind]
  | true => simp [bind, Except.bind, eq_comm]

theorem push16_of_ok {s : State} (h : Accessible s .ss (s.gpr.sp - 2) 2 .write) (v : Word) :
    push16 s v = .ok ((s.segPut16 .ss (s.gpr.sp - 2) v).setSp (s.gpr.sp - 2)) := (push16_iff s _ v).2 ⟨h, rfl⟩

/-- The word at SP + k of a stack in plain memory. -/
theorem State.stackGet_memory {s : State} {k : Nat} {a : Access} (h : InMemory s .ss (s.gpr.sp + BitVec.ofNat 16 k) 2 a) :
    s.stackGet k = (s.segWord .ss (s.gpr.sp + BitVec.ofNat 16 k), s) := State.segGet16_memory h

theorem pop16_of_ok {s : State} (h : WordOk s .ss s.gpr.sp .read) :
    pop16 s = .ok (s.segWord .ss s.gpr.sp, s.setSp (s.gpr.sp + 2)) := by
  have e : s.gpr.sp + BitVec.ofNat 16 0 = s.gpr.sp := BitVec.add_zero _
  have hg : s.stackGet 0 = (s.segWord .ss s.gpr.sp, s) := by
    have := State.stackGet_memory (s := s) (k := 0) (a := .read) (by rw [e]; exact h.2)
    rw [e] at this
    exact this
  exact (pop16_iff s _ _).2 ⟨h.1, by rw [hg], by rw [hg]⟩

/-- `canPush` asks for every word below SP. -/
theorem canPush_iff (s : State) (n : Nat) :
    canPush s n = true ↔ ∀ i, i < n → Accessible s .ss (s.gpr.sp - BitVec.ofNat 16 (2 * (i + 1))) 2 .write := by
  induction n with
  | zero => simp [canPush]
  | succ n ih =>
    simp only [canPush, Bool.and_eq_true, ih, stackFits_iff]
    constructor
    · rintro ⟨h1, h2⟩ i hi
      by_cases e : i = n
      · subst e; exact h2
      · exact h1 i (by omega)
    · exact fun h => ⟨fun i hi => h i (by omega), h n (by omega)⟩

/-- `canPop` asks for every word from SP on. -/
theorem canPop_iff (s : State) (n : Nat) :
    canPop s n = true ↔ ∀ i, i < n → Accessible s .ss (s.gpr.sp + BitVec.ofNat 16 (2 * i)) 2 .read := by
  induction n with
  | zero => simp [canPop]
  | succ n ih =>
    simp only [canPop, Bool.and_eq_true, ih, stackFits_iff]
    constructor
    · rintro ⟨h1, h2⟩ i hi
      by_cases e : i = n
      · subst e; exact h2
      · exact h1 i (by omega)
    · exact fun h => ⟨fun i hi => h i (by omega), h n (by omega)⟩

/-- A sequence of pushes changes memory, the bus, the record of the processor extension, and SP only. -/
theorem pushAll_rest {s t : State} {ws : List Word} (h : pushAll s ws = .ok t) :
    OnBus { s with gpr := { s.gpr with sp := t.gpr.sp } } t := by
  induction ws generalizing s t with
  | nil => simp only [pushAll, Except.ok.injEq] at h; subst h; rfl
  | cons w ws ih =>
    unfold pushAll at h
    cases hp : push16 s w with
    | error e => simp [hp] at h
    | ok u =>
      simp only [hp] at h
      obtain ⟨-, rfl⟩ := (push16_iff s u w).1 hp
      have h2 := ih h
      have h1 := State.segPut16_onBus s .ss (s.gpr.sp - 2) w
      unfold OnBus at *
      rw [h2]
      unfold State.setSp
      rw [h1]

/-- A sequence of pushes lowers SP by two for each word. -/
theorem pushAll_sp {s t : State} {ws : List Word} (h : pushAll s ws = .ok t) :
    t.gpr.sp = s.gpr.sp - BitVec.ofNat 16 (2 * ws.length) := by
  induction ws generalizing s with
  | nil => simp only [pushAll, Except.ok.injEq] at h; subst h; simp
  | cons w ws ih =>
    unfold pushAll at h
    cases hp : push16 s w with
    | error e => simp [hp] at h
    | ok u =>
      simp only [hp] at h
      obtain ⟨-, rfl⟩ := (push16_iff s u w).1 hp
      have := ih h
      simp only [State.setSp_gpr, State.segPut16_gpr] at this
      rw [this, List.length_cons]
      apply BitVec.eq_of_toNat_eq
      simp only [BitVec.toNat_sub, BitVec.toNat_ofNat, BitVec.ofNat_eq_ofNat]
      omega

theorem Unreset.pushAll {s t : State} (h : Unreset s) {ws : List Word} (ht : pushAll s ws = .ok t) : Unreset t := by
  induction ws generalizing s t with
  | nil => cases ht; exact h
  | cons w ws ih =>
    unfold Machine.pushAll at ht
    cases hp : push16 s w with
    | error e => simp [hp] at ht
    | ok u =>
      simp only [hp] at ht
      obtain ⟨-, rfl⟩ := (push16_iff s u w).1 hp
      exact ih (s := (s.segPut16 .ss (s.gpr.sp - 2) w).setSp (s.gpr.sp - 2)) (h.segPut16 _ _ _) ht

/-! ### Segment loads -/

/-- In Real Address Mode a load of DS or ES always succeeds (R87). -/
theorem loadDataSeg_real {s : State} (h : s.msw.pe = false) (r : SegReg) (sel : Word) :
    loadDataSeg s r sel = .ok (s.setSeg r (realCache sel)) := by simp [loadDataSeg, h]

/-- In Real Address Mode a load of SS always succeeds (R87). -/
theorem loadSs_real {s : State} (h : s.msw.pe = false) (sel : Word) : loadSs s sel = .ok { s with ss := realCache sel } := by
  simp [loadSs, h]

/-- In Protected Mode a null selector loads into DS or ES and leaves the register unusable (R108). -/
theorem loadDataSeg_null {s : State} (h : s.msw.pe = true) {sel : Word} (hn : nullSel sel = true) (r : SegReg) :
    loadDataSeg s r sel = .ok (s.setSeg r { s.seg r with sel := sel, ar := 0 }) := by simp [loadDataSeg, h, hn]

/-- In Protected Mode a descriptor that passes every check loads into DS or ES, Accessed bit set (R120, R123). -/
theorem loadDataSeg_protected {s : State} (ha : Alone s) (h : s.msw.pe = true) {sel : Word} (hn : nullSel sel = false) {d : Desc}
    (hd : s.fetchDesc sel = some d) (hr : readable d.ar = true) (hp : dataPrivilege d.ar s.cpl sel = true)
    (hpr : present d.ar = true) (r : SegReg) :
    loadDataSeg s r sel = .ok ((s.setAccessed d).setSeg r (d.cache sel)) := by
  simp [loadDataSeg, h, hn, fetchOr_alone ha hd, afterReads, require, hr, hp, hpr, bind, Except.bind]

/-! ### How an instruction ends -/

/-- LMSW is refused only where no RESET falls into the step. -/
theorem finishLmsw_refused {s : State} {r : Except Trap (Word × State)} {f : Refusal} (h : finishLmsw s r = .refused f) : Unreset s := by
  unfold finishLmsw at h
  split at h
  · cases h
  · split at h
    · split at h
      · assumption
      · cases h
    · cases h

theorem runInstr_of_ok {s t : State} (hl : LockAllowed s) {r : Except Trap State} (h : r = .ok t) :
    runInstr s r = .next t.retire := by
  subst h
  simp only [runInstr, lockGuard_of_allowed hl]
  rfl

theorem runInstr_of_error {s : State} (hl : LockAllowed s) {e : Trap} {r : Except Trap State} (h : r = .error e) :
    runInstr s r = .next (raiseAt s e) := by
  subst h
  simp only [runInstr, lockGuard_of_allowed hl]
  rfl

/-- An instruction that advances IP either completes or takes an exception: it never stops. -/
theorem runInstr_cases (s : State) (r : Except Trap State) :
    (∃ t, r = .ok t ∧ runInstr s r = .next t.retire) ∨ ∃ e, runInstr s r = .next (raiseAt s e) := by
  unfold runInstr
  cases hl : lockGuard s with
  | error e => exact .inr ⟨e, rfl⟩
  | ok u =>
    cases r with
    | error e => exact .inr ⟨e, rfl⟩
    | ok t => exact .inl ⟨t, rfl, rfl⟩

theorem runJump_of_ok {s t : State} (hl : LockAllowed s) {r : Except Trap State} (h : r = .ok t) :
    runJump s r = .next t.retireNear := by
  subst h
  simp only [runJump, lockGuard_of_allowed hl]
  rfl

theorem runJump_of_error {s : State} (hl : LockAllowed s) {e : Trap} {r : Except Trap State} (h : r = .error e) :
    runJump s r = .next (raiseAt s e) := by
  subst h
  simp only [runJump, lockGuard_of_allowed hl]
  rfl

theorem runFar_of_ok {s t : State} (hl : LockAllowed s) {r : Except Failure State} (h : r = .ok t) :
    runFar s r = .next t.retireFar := by
  subst h
  simp only [runFar, lockGuard_of_allowed hl]
  rfl

theorem nearTo_of_ok {s : State} {t : Word} (h : NearOk s t) : nearTo s t = .ok { s with ip := t } := by
  unfold nearTo NearOk at *
  cases hp : s.msw.pe with
  | false => simp [require, bind, Except.bind]
  | true =>
    have := h hp
    have hn : ¬ s.cs.limit.toNat < t.toNat := by omega
    simp [require, bind, Except.bind, hn]

/-! ### Delivery (R693) -/

theorem deliver_of_ok {s t : State} {v : Byte} {ip : Word} {kind : EventKind} {code : Word}
    (h : attempt s.release v ip kind code (extOf kind v) = .ok t) : deliver s v ip kind code = t.entered := by
  simp only [deliver, h]

/-- The double fault ends in its handler or in shutdown. -/
theorem deliverDouble_cases (s : State) (ip : Word) (ext : Bool) :
    (∃ t : State, deliverDouble s ip ext = t.entered) ∨ ∃ t : State, deliverDouble s ip ext = t.shutDown := by
  unfold deliverDouble
  cases attempt s 8 ip .exception 0 ext with
  | ok t => exact .inl ⟨t, rfl⟩
  | error g => exact .inr ⟨g.st, rfl⟩

/-- The delivery of a fault met in a delivery ends in a handler or in shutdown. -/
theorem deliverFault_cases (f : Failure) (ext : Bool) :
    (∃ t : State, deliverFault f ext = t.entered) ∨ ∃ t : State, deliverFault f ext = t.shutDown := by
  unfold deliverFault
  generalize attempt f.st f.trap.vector f.ip .exception f.trap.code ext = r
  cases r with
  | ok t => exact .inl ⟨t, rfl⟩
  | error g =>
    dsimp only
    split
    · exact .inr ⟨g.st, rfl⟩
    · exact deliverDouble_cases g.st g.ip ext

/-- Whatever happens, a delivery ends in a handler or in shutdown. -/
theorem deliver_cases (s : State) (v : Byte) (ip : Word) (kind : EventKind) (code : Word) :
    (∃ t : State, deliver s v ip kind code = t.entered) ∨ ∃ t : State, deliver s v ip kind code = t.shutDown := by
  unfold deliver
  dsimp only
  generalize attempt s.release v ip kind code (extOf kind v) = r
  cases r with
  | ok t => exact .inl ⟨t, rfl⟩
  | error f =>
    dsimp only
    split
    · exact .inr ⟨f.st, rfl⟩
    · split
      · exact deliverDouble_cases _ _ _
      · exact deliverFault_cases _ _

/-- No prefix is in force after a delivery. -/
theorem deliver_pfx (s : State) (v : Byte) (ip : Word) (kind : EventKind) (code : Word) :
    (deliver s v ip kind code).pfx = {} := by
  rcases deliver_cases s v ip kind code with ⟨t, h⟩ | ⟨t, h⟩ <;> rw [h] <;> rfl

/-- No LMSW awaits its jump after a delivery. -/
theorem deliver_lmsw (s : State) (v : Byte) (ip : Word) (kind : EventKind) (code : Word) :
    (deliver s v ip kind code).lmsw = .clear := by
  rcases deliver_cases s v ip kind code with ⟨t, h⟩ | ⟨t, h⟩ <;> rw [h] <;> rfl

end Sys2Proof.Machine
end

