-- ==== Sys2Proof/Laws/Invariant.lean ====
section
/-! SUPPORT. The part of the invariant that concerns memory, mode and segments, and that every shared operation keeps it: stores,
pushes, segment loads, far transfers, task switches and deliveries. -/

namespace Sys2Proof.Machine

/-- Memory in canonical form; in Real Address Mode IOPL and NT clear and every segment a 64K window; an LMSW awaits its jump only in
Protected Mode; and, where `Q`, no RESET that falls into the step. -/
def Core (Q : Prop) (s : State) : Prop :=
  s.mem.wf = true ∧
    (s.msw.pe = false → s.flags.iopl = 0 ∧ s.flags.nt = false ∧
      RealSegment s .es ∧ RealSegment s .cs ∧ RealSegment s .ss ∧ RealSegment s .ds) ∧
    (s.lmsw ≠ .clear → s.msw.pe = true) ∧ (Q → Unreset s)

variable {Q : Prop}

theorem Invariant.core {s : State} (h : Invariant s) : Core Q s :=
  ⟨h.memory, fun hp => ⟨(h.realFlags hp).1, (h.realFlags hp).2, h.realSegments hp _, h.realSegments hp _, h.realSegments hp _,
    h.realSegments hp _⟩, h.hazard, fun _ => h.unreset⟩

theorem Core.realSegments {s : State} (h : Core Q s) (hp : s.msw.pe = false) (r : SegReg) : RealSegment s r := by
  obtain ⟨-, -, h1, h2, h3, h4⟩ := h.2.1 hp
  cases r <;> assumption

/-- Core looks at memory, PE, IOPL, NT, the segment registers, the LMSW marker and a RESET to come alone. -/
theorem Core.of_protected {s : State} (hm : s.mem.wf = true) (hp : s.msw.pe = true) (hq : Q → Unreset s) :
    Core Q s := ⟨hm, fun h => (Bool.false_ne_true (h.symm.trans hp)).elim, fun _ => hp, hq⟩

theorem Core.with_mem {s : State} (h : Core Q s) {m : Memory} (hm : m.wf = true) : Core Q { s with mem := m } := ⟨hm, h.2⟩

theorem Core.setReg16 {s : State} (h : Core Q s) (r : Reg16) (v : Word) : Core Q (s.setReg16 r v) := h

theorem Core.setReg8 {s : State} (h : Core Q s) (r : Reg8) (v : Byte) : Core Q (s.setReg8 r v) := h

theorem Core.setSp {s : State} (h : Core Q s) (v : Word) : Core Q (s.setSp v) := h

theorem Core.retire {s : State} (h : Core Q s) : Core Q s.retire := h

theorem Core.retireNear {s : State} (h : Core Q s) : Core Q s.retireNear := ⟨h.1, h.2.1, fun hl => absurd rfl hl, h.2.2.2⟩

theorem Core.retireFar {s : State} (h : Core Q s) : Core Q s.retireFar := h

/-- Core looks at no other part of the bus than memory. -/
theorem Core.onBus {s t : State} (h : Core Q s) (e : OnBus s t) (hm : t.mem.wf = true)
    (hq : Unreset s → Unreset t) : Core Q t := by
  unfold OnBus at e
  refine ⟨hm, ?_, ?_, hq ∘ h.2.2.2⟩
  · rw [e]; exact h.2.1
  · rw [e]; exact h.2.2.1

/-- A store keeps Core. -/
theorem Core.store {s : State} (h : Core Q s) {a : Nat} (ha : a < 2 ^ 24) (v : Byte) : Core Q (s.store a v) :=
  h.onBus (s.store_onBus a v) (State.store_wf h.1 ha v) (·.store a v)

/-- A read keeps Core. -/
theorem Core.load {s : State} (h : Core Q s) (a : Nat) : Core Q (s.load a).2 :=
  h.onBus (s.load_onBus a) (State.load_wf h.1 a) (·.load a)

/-- What other agents do keeps Core. -/
theorem Core.actAll {s : State} (h : Core Q s) (xs : List BusAct) : Core Q (actAll s xs) :=
  h.onBus (actAll_onBus s xs) (actAll_wf h.1 xs) (·.actAll xs)

theorem Core.others {s : State} (h : Core Q s) : Core Q s.others := h.onBus s.others_onBus (State.others_wf h.1) (·.others)

theorem Core.hear {s : State} (h : Core Q s) (xs : List BusAct) : Core Q (s.hear xs) :=
  h.onBus (s.hear_onBus xs) (State.hear_wf h.1 xs) (·.hear xs)

theorem Core.release {s : State} (h : Core Q s) : Core Q s.release := h.onBus s.release_onBus (State.release_wf h.1) (·.release)

theorem Core.withLock {s : State} (h : Core Q s) (l : BusLock) : Core Q (s.withLock l) := h

theorem Core.segGet8 {s : State} (h : Core Q s) (r : SegReg) (off : Word) (k : Nat) : Core Q (s.segGet8 r off k).2 := h.others.load _

theorem Core.segGet16 {s : State} (h : Core Q s) (r : SegReg) (off : Word) : Core Q (s.segGet16 r off).2 :=
  h.onBus (s.segGet16_onBus r off) (State.loadWord_wf h.1 _ _) (·.loadWord _ _)

theorem Core.stackGet {s : State} (h : Core Q s) (k : Nat) : Core Q (s.stackGet k).2 := h.segGet16 _ _

theorem Core.over {s : State} (h : Core Q s) (t : Trap) : Core Q (t.over s) :=
  h.onBus (t.over_onBus s) (Trap.over_wf h.1 t) (·.over t)

/-- Writing FLAGS keeps Core if IOPL and NT keep their values. -/
theorem Core.setFlags {s : State} (h : Core Q s) {f : Flags} (h1 : f.iopl = s.flags.iopl) (h2 : f.nt = s.flags.nt) :
    Core Q (s.setFlags f) := by
  refine ⟨h.1, fun hp => ?_, h.2.2⟩
  obtain ⟨a, b, c⟩ := h.2.1 hp
  exact ⟨h1.trans a, h2.trans b, c⟩

theorem Core.segPut8 {s : State} (h : Core Q s) (r : SegReg) (off : Word) (k : Nat) (v : Byte) : Core Q (s.segPut8 r off k v) :=
  h.others.store (s.segAddr r off k).isLt v

theorem Core.segPut16 {s : State} (h : Core Q s) (r : SegReg) (off v : Word) : Core Q (s.segPut16 r off v) :=
  h.onBus (s.segPut16_onBus r off v) (State.segPut16_wf h.1 r off v) (·.segPut16 r off v)

theorem Core.storeRm8 {s : State} (h : Core Q s) (e : Rm8) (v : Byte) : Core Q (storeRm8 s e v) := by
  cases e with
  | reg r => exact h
  | mem m => exact h.segPut8 _ _ _ _

theorem Core.storeRm16 {s : State} (h : Core Q s) (e : Rm16) (v : Word) : Core Q (storeRm16 s e v) := by
  cases e with
  | reg r => exact h
  | mem m => exact h.segPut16 _ _ _

theorem Core.poke8 {s : State} (h : Core Q s) (a : Addr) (k : Nat) (v : Byte) : Core Q (s.poke8 a k v) :=
  h.store (physAdd_lt a k) v

theorem Core.setAccessed {s : State} (h : Core Q s) (d : Desc) : Core Q (s.setAccessed d) := h.others.poke8 _ _ _

theorem Core.push16 {s t : State} (h : Core Q s) {v : Word} (ht : push16 s v = .ok t) : Core Q t := by
  obtain ⟨-, rfl⟩ := (push16_iff s t v).1 ht
  exact (h.segPut16 _ _ _).setSp _

theorem Core.pushAll {s t : State} (h : Core Q s) {ws : List Word} (ht : pushAll s ws = .ok t) : Core Q t :=
  (h.setSp t.gpr.sp).onBus (pushAll_rest ht) (pushAll_wf h.1 ht) fun (w : Unreset s) => w.pushAll ht

/-- A Real Address Mode load makes a 64K window. -/
theorem realSegment_realCache (s : State) (r q : SegReg) (sel : Word) (h : q = r) : RealSegment (s.setSeg r (realCache sel)) q := by
  subst h
  cases q <;> exact ⟨rfl, rfl, .inl rfl⟩

/-- A load of a segment register in Real Address Mode keeps Core. -/
theorem Core.setSeg_real {s : State} (h : Core Q s) (r : SegReg) (sel : Word) : Core Q (s.setSeg r (realCache sel)) := by
  refine ⟨by cases r <;> exact h.1, fun hp => ?_, by cases r <;> exact h.2.2⟩
  have hp' : s.msw.pe = false := by cases r <;> exact hp
  obtain ⟨a, b, c1, c2, c3, c4⟩ := h.2.1 hp'
  cases r
  · exact ⟨a, b, ⟨rfl, rfl, .inl rfl⟩, c2, c3, c4⟩
  · exact ⟨a, b, c1, ⟨rfl, rfl, .inl rfl⟩, c3, c4⟩
  · exact ⟨a, b, c1, c2, ⟨rfl, rfl, .inl rfl⟩, c4⟩
  · exact ⟨a, b, c1, c2, c3, ⟨rfl, rfl, .inl rfl⟩⟩

theorem State.setSeg_wf {s : State} (h : s.mem.wf = true) (r : SegReg) (c : SegCache) : (s.setSeg r c).mem.wf = true := by
  cases r <;> exact h

theorem State.setSeg_pe {s : State} {b : Bool} (h : s.msw.pe = b) (r : SegReg) (c : SegCache) : (s.setSeg r c).msw.pe = b := by
  cases r <;> exact h

end Sys2Proof.Machine
end

