-- ==== Sys2Proof/Laws/PerInstr.lean ====
section
/-! SUPPORT. A statement made once per instruction: its encoding has between one and six bytes
(spec/30_encoding.md R200, R201: an opcode byte or two, a ModRM byte, up to two displacement bytes, up to four immediate
bytes), one lemma for each constructor of `Instr`. -/

namespace Sys2Proof.Laws

/-- The encoding of a ModRM operand has between one and three bytes. -/
theorem encodeRm_length {R : Type} (bits : R → BitVec 3) (reg : BitVec 3) (e : RM R) :
    1 ≤ (encodeRm bits reg e).length ∧ (encodeRm bits reg e).length ≤ 3 := by
  cases e with
  | reg r => exact ⟨Nat.le_refl 1, Nat.le_add_left 1 2⟩
  | mem m =>
    cases m with
    | direct off => exact ⟨Nat.le_add_left 1 2, Nat.le_refl 3⟩
    | based b d =>
      cases d with
      | none => exact ⟨Nat.le_refl 1, Nat.le_add_left 1 2⟩
      | d8 b => exact ⟨Nat.le_add_left 1 1, Nat.le_add_left 2 1⟩
      | d16 w => exact ⟨Nat.le_add_left 1 2, Nat.le_refl 3⟩

/-- The instruction's encoding has between one and six bytes. -/
def EncodeLength.Statement (i : Instr) : Prop := 1 ≤ (encode i).length ∧ (encode i).length ≤ 6

/-- 1 byte. -/
theorem length_lit1 (a : Byte) : 1 ≤ [a].length ∧ [a].length ≤ 6 := ⟨Nat.le_add_left 1 0, Nat.le_add_left 1 5⟩

/-- 2 bytes. -/
theorem length_lit2 (a b : Byte) : 1 ≤ [a, b].length ∧ [a, b].length ≤ 6 := ⟨Nat.le_add_left 1 1, Nat.le_add_left 2 4⟩

/-- 3 bytes. -/
theorem length_lit3 (a b c : Byte) : 1 ≤ [a, b, c].length ∧ [a, b, c].length ≤ 6 := ⟨Nat.le_add_left 1 2, Nat.le_add_left 3 3⟩

/-- 4 bytes. -/
theorem length_lit4 (a b c d : Byte) : 1 ≤ [a, b, c, d].length ∧ [a, b, c, d].length ≤ 6 := ⟨Nat.le_add_left 1 3, Nat.le_add_left 4 2⟩

/-- 5 bytes. -/
theorem length_lit5 (a b c d e : Byte) : 1 ≤ [a, b, c, d, e].length ∧ [a, b, c, d, e].length ≤ 6 := ⟨Nat.le_add_left 1 4, Nat.le_add_left 5 1⟩

/-- An opcode byte and an operand. -/
theorem length_rm (a : Byte) {R : Type} (bits : R → BitVec 3) (reg : BitVec 3) (e : RM R) :
    1 ≤ (a :: encodeRm bits reg e).length ∧ (a :: encodeRm bits reg e).length ≤ 6 := by
  have h := encodeRm_length bits reg e
  simp only [List.length_cons]
  omega

/-- Two opcode bytes and an operand. -/
theorem length_rm2 (a b : Byte) {R : Type} (bits : R → BitVec 3) (reg : BitVec 3) (e : RM R) :
    1 ≤ (a :: b :: encodeRm bits reg e).length ∧ (a :: b :: encodeRm bits reg e).length ≤ 6 := by
  have h := encodeRm_length bits reg e
  simp only [List.length_cons]
  omega

/-- An opcode byte, an operand and an immediate byte. -/
theorem length_rm_byte (a c : Byte) {R : Type} (bits : R → BitVec 3) (reg : BitVec 3) (e : RM R) :
    1 ≤ (a :: encodeRm bits reg e ++ [c]).length ∧ (a :: encodeRm bits reg e ++ [c]).length ≤ 6 := by
  have h := encodeRm_length bits reg e
  simp only [List.length_cons, List.length_append, List.length_nil]
  omega

/-- An opcode byte, an operand and an immediate word. -/
theorem length_rm_word (a c d : Byte) {R : Type} (bits : R → BitVec 3) (reg : BitVec 3) (e : RM R) :
    1 ≤ (a :: encodeRm bits reg e ++ [c, d]).length ∧ (a :: encodeRm bits reg e ++ [c, d]).length ≤ 6 := by
  have h := encodeRm_length bits reg e
  simp only [List.length_cons, List.length_append, List.length_nil]
  omega

theorem EncodeLength.addEbRb (e : Rm8) (r : Reg8) : EncodeLength.Statement (.addEbRb e r) := length_rm _ _ _ _
theorem EncodeLength.addEwRw (e : Rm16) (r : Reg16) : EncodeLength.Statement (.addEwRw e r) := length_rm _ _ _ _
theorem EncodeLength.addRbEb (r : Reg8) (e : Rm8) : EncodeLength.Statement (.addRbEb r e) := length_rm _ _ _ _
theorem EncodeLength.addRwEw (r : Reg16) (e : Rm16) : EncodeLength.Statement (.addRwEw r e) := length_rm _ _ _ _
theorem EncodeLength.addAlDb (imm : Byte) : EncodeLength.Statement (.addAlDb imm) := length_lit2 _ _
theorem EncodeLength.addAxDw (imm : Word) : EncodeLength.Statement (.addAxDw imm) := length_lit3 _ _ _
theorem EncodeLength.orEbRb (e : Rm8) (r : Reg8) : EncodeLength.Statement (.orEbRb e r) := length_rm _ _ _ _
theorem EncodeLength.orEwRw (e : Rm16) (r : Reg16) : EncodeLength.Statement (.orEwRw e r) := length_rm _ _ _ _
theorem EncodeLength.orRbEb (r : Reg8) (e : Rm8) : EncodeLength.Statement (.orRbEb r e) := length_rm _ _ _ _
theorem EncodeLength.orRwEw (r : Reg16) (e : Rm16) : EncodeLength.Statement (.orRwEw r e) := length_rm _ _ _ _
theorem EncodeLength.orAlDb (imm : Byte) : EncodeLength.Statement (.orAlDb imm) := length_lit2 _ _
theorem EncodeLength.orAxDw (imm : Word) : EncodeLength.Statement (.orAxDw imm) := length_lit3 _ _ _
theorem EncodeLength.adcEbRb (e : Rm8) (r : Reg8) : EncodeLength.Statement (.adcEbRb e r) := length_rm _ _ _ _
theorem EncodeLength.adcEwRw (e : Rm16) (r : Reg16) : EncodeLength.Statement (.adcEwRw e r) := length_rm _ _ _ _
theorem EncodeLength.adcRbEb (r : Reg8) (e : Rm8) : EncodeLength.Statement (.adcRbEb r e) := length_rm _ _ _ _
theorem EncodeLength.adcRwEw (r : Reg16) (e : Rm16) : EncodeLength.Statement (.adcRwEw r e) := length_rm _ _ _ _
theorem EncodeLength.adcAlDb (imm : Byte) : EncodeLength.Statement (.adcAlDb imm) := length_lit2 _ _
theorem EncodeLength.adcAxDw (imm : Word) : EncodeLength.Statement (.adcAxDw imm) := length_lit3 _ _ _
theorem EncodeLength.sbbEbRb (e : Rm8) (r : Reg8) : EncodeLength.Statement (.sbbEbRb e r) := length_rm _ _ _ _
theorem EncodeLength.sbbEwRw (e : Rm16) (r : Reg16) : EncodeLength.Statement (.sbbEwRw e r) := length_rm _ _ _ _
theorem EncodeLength.sbbRbEb (r : Reg8) (e : Rm8) : EncodeLength.Statement (.sbbRbEb r e) := length_rm _ _ _ _
theorem EncodeLength.sbbRwEw (r : Reg16) (e : Rm16) : EncodeLength.Statement (.sbbRwEw r e) := length_rm _ _ _ _
theorem EncodeLength.sbbAlDb (imm : Byte) : EncodeLength.Statement (.sbbAlDb imm) := length_lit2 _ _
theorem EncodeLength.sbbAxDw (imm : Word) : EncodeLength.Statement (.sbbAxDw imm) := length_lit3 _ _ _
theorem EncodeLength.andEbRb (e : Rm8) (r : Reg8) : EncodeLength.Statement (.andEbRb e r) := length_rm _ _ _ _
theorem EncodeLength.andEwRw (e : Rm16) (r : Reg16) : EncodeLength.Statement (.andEwRw e r) := length_rm _ _ _ _
theorem EncodeLength.andRbEb (r : Reg8) (e : Rm8) : EncodeLength.Statement (.andRbEb r e) := length_rm _ _ _ _
theorem EncodeLength.andRwEw (r : Reg16) (e : Rm16) : EncodeLength.Statement (.andRwEw r e) := length_rm _ _ _ _
theorem EncodeLength.andAlDb (imm : Byte) : EncodeLength.Statement (.andAlDb imm) := length_lit2 _ _
theorem EncodeLength.andAxDw (imm : Word) : EncodeLength.Statement (.andAxDw imm) := length_lit3 _ _ _
theorem EncodeLength.subEbRb (e : Rm8) (r : Reg8) : EncodeLength.Statement (.subEbRb e r) := length_rm _ _ _ _
theorem EncodeLength.subEwRw (e : Rm16) (r : Reg16) : EncodeLength.Statement (.subEwRw e r) := length_rm _ _ _ _
theorem EncodeLength.subRbEb (r : Reg8) (e : Rm8) : EncodeLength.Statement (.subRbEb r e) := length_rm _ _ _ _
theorem EncodeLength.subRwEw (r : Reg16) (e : Rm16) : EncodeLength.Statement (.subRwEw r e) := length_rm _ _ _ _
theorem EncodeLength.subAlDb (imm : Byte) : EncodeLength.Statement (.subAlDb imm) := length_lit2 _ _
theorem EncodeLength.subAxDw (imm : Word) : EncodeLength.Statement (.subAxDw imm) := length_lit3 _ _ _
theorem EncodeLength.xorEbRb (e : Rm8) (r : Reg8) : EncodeLength.Statement (.xorEbRb e r) := length_rm _ _ _ _
theorem EncodeLength.xorEwRw (e : Rm16) (r : Reg16) : EncodeLength.Statement (.xorEwRw e r) := length_rm _ _ _ _
theorem EncodeLength.xorRbEb (r : Reg8) (e : Rm8) : EncodeLength.Statement (.xorRbEb r e) := length_rm _ _ _ _
theorem EncodeLength.xorRwEw (r : Reg16) (e : Rm16) : EncodeLength.Statement (.xorRwEw r e) := length_rm _ _ _ _
theorem EncodeLength.xorAlDb (imm : Byte) : EncodeLength.Statement (.xorAlDb imm) := length_lit2 _ _
theorem EncodeLength.xorAxDw (imm : Word) : EncodeLength.Statement (.xorAxDw imm) := length_lit3 _ _ _
theorem EncodeLength.cmpEbRb (e : Rm8) (r : Reg8) : EncodeLength.Statement (.cmpEbRb e r) := length_rm _ _ _ _
theorem EncodeLength.cmpEwRw (e : Rm16) (r : Reg16) : EncodeLength.Statement (.cmpEwRw e r) := length_rm _ _ _ _
theorem EncodeLength.cmpRbEb (r : Reg8) (e : Rm8) : EncodeLength.Statement (.cmpRbEb r e) := length_rm _ _ _ _
theorem EncodeLength.cmpRwEw (r : Reg16) (e : Rm16) : EncodeLength.Statement (.cmpRwEw r e) := length_rm _ _ _ _
theorem EncodeLength.cmpAlDb (imm : Byte) : EncodeLength.Statement (.cmpAlDb imm) := length_lit2 _ _
theorem EncodeLength.cmpAxDw (imm : Word) : EncodeLength.Statement (.cmpAxDw imm) := length_lit3 _ _ _
theorem EncodeLength.addEbDb (e : Rm8) (imm : Byte) : EncodeLength.Statement (.addEbDb e imm) := length_rm_byte _ _ _ _ _
theorem EncodeLength.orEbDb (e : Rm8) (imm : Byte) : EncodeLength.Statement (.orEbDb e imm) := length_rm_byte _ _ _ _ _
theorem EncodeLength.adcEbDb (e : Rm8) (imm : Byte) : EncodeLength.Statement (.adcEbDb e imm) := length_rm_byte _ _ _ _ _
theorem EncodeLength.sbbEbDb (e : Rm8) (imm : Byte) : EncodeLength.Statement (.sbbEbDb e imm) := length_rm_byte _ _ _ _ _
theorem EncodeLength.andEbDb (e : Rm8) (imm : Byte) : EncodeLength.Statement (.andEbDb e imm) := length_rm_byte _ _ _ _ _
theorem EncodeLength.subEbDb (e : Rm8) (imm : Byte) : EncodeLength.Statement (.subEbDb e imm) := length_rm_byte _ _ _ _ _
theorem EncodeLength.xorEbDb (e : Rm8) (imm : Byte) : EncodeLength.Statement (.xorEbDb e imm) := length_rm_byte _ _ _ _ _
theorem EncodeLength.cmpEbDb (e : Rm8) (imm : Byte) : EncodeLength.Statement (.cmpEbDb e imm) := length_rm_byte _ _ _ _ _
theorem EncodeLength.addEwDw (e : Rm16) (imm : Word) : EncodeLength.Statement (.addEwDw e imm) := length_rm_word _ _ _ _ _ _
theorem EncodeLength.orEwDw (e : Rm16) (imm : Word) : EncodeLength.Statement (.orEwDw e imm) := length_rm_word _ _ _ _ _ _
theorem EncodeLength.adcEwDw (e : Rm16) (imm : Word) : EncodeLength.Statement (.adcEwDw e imm) := length_rm_word _ _ _ _ _ _
theorem EncodeLength.sbbEwDw (e : Rm16) (imm : Word) : EncodeLength.Statement (.sbbEwDw e imm) := length_rm_word _ _ _ _ _ _
theorem EncodeLength.andEwDw (e : Rm16) (imm : Word) : EncodeLength.Statement (.andEwDw e imm) := length_rm_word _ _ _ _ _ _
theorem EncodeLength.subEwDw (e : Rm16) (imm : Word) : EncodeLength.Statement (.subEwDw e imm) := length_rm_word _ _ _ _ _ _
theorem EncodeLength.xorEwDw (e : Rm16) (imm : Word) : EncodeLength.Statement (.xorEwDw e imm) := length_rm_word _ _ _ _ _ _
theorem EncodeLength.cmpEwDw (e : Rm16) (imm : Word) : EncodeLength.Statement (.cmpEwDw e imm) := length_rm_word _ _ _ _ _ _
theorem EncodeLength.addEwDb (e : Rm16) (imm : Byte) : EncodeLength.Statement (.addEwDb e imm) := length_rm_byte _ _ _ _ _
theorem EncodeLength.adcEwDb (e : Rm16) (imm : Byte) : EncodeLength.Statement (.adcEwDb e imm) := length_rm_byte _ _ _ _ _
theorem EncodeLength.sbbEwDb (e : Rm16) (imm : Byte) : EncodeLength.Statement (.sbbEwDb e imm) := length_rm_byte _ _ _ _ _
theorem EncodeLength.subEwDb (e : Rm16) (imm : Byte) : EncodeLength.Statement (.subEwDb e imm) := length_rm_byte _ _ _ _ _
theorem EncodeLength.cmpEwDb (e : Rm16) (imm : Byte) : EncodeLength.Statement (.cmpEwDb e imm) := length_rm_byte _ _ _ _ _
theorem EncodeLength.incRw (r : Reg16) : EncodeLength.Statement (.incRw r) := length_lit1 _
theorem EncodeLength.decRw (r : Reg16) : EncodeLength.Statement (.decRw r) := length_lit1 _
theorem EncodeLength.pushRw (r : Reg16) : EncodeLength.Statement (.pushRw r) := length_lit1 _
theorem EncodeLength.popRw (r : Reg16) : EncodeLength.Statement (.popRw r) := length_lit1 _
theorem EncodeLength.bound (r : Reg16) (e : Rm16) : EncodeLength.Statement (.bound r e) := length_rm _ _ _ _
theorem EncodeLength.arpl (e : Rm16) (r : Reg16) : EncodeLength.Statement (.arpl e r) := length_rm _ _ _ _
theorem EncodeLength.pushDw (imm : Word) : EncodeLength.Statement (.pushDw imm) := length_lit3 _ _ _
theorem EncodeLength.imulRwEwDw (r : Reg16) (e : Rm16) (imm : Word) : EncodeLength.Statement (.imulRwEwDw r e imm) := length_rm_word _ _ _ _ _ _
theorem EncodeLength.pushDb (imm : Byte) : EncodeLength.Statement (.pushDb imm) := length_lit2 _ _
theorem EncodeLength.imulRwEwDb (r : Reg16) (e : Rm16) (imm : Byte) : EncodeLength.Statement (.imulRwEwDb r e imm) := length_rm_byte _ _ _ _ _
theorem EncodeLength.jo (disp : Byte) : EncodeLength.Statement (.jo disp) := length_lit2 _ _
theorem EncodeLength.jno (disp : Byte) : EncodeLength.Statement (.jno disp) := length_lit2 _ _
theorem EncodeLength.jb (disp : Byte) : EncodeLength.Statement (.jb disp) := length_lit2 _ _
theorem EncodeLength.jae (disp : Byte) : EncodeLength.Statement (.jae disp) := length_lit2 _ _
theorem EncodeLength.je (disp : Byte) : EncodeLength.Statement (.je disp) := length_lit2 _ _
theorem EncodeLength.jne (disp : Byte) : EncodeLength.Statement (.jne disp) := length_lit2 _ _
theorem EncodeLength.jbe (disp : Byte) : EncodeLength.Statement (.jbe disp) := length_lit2 _ _
theorem EncodeLength.ja (disp : Byte) : EncodeLength.Statement (.ja disp) := length_lit2 _ _
theorem EncodeLength.js (disp : Byte) : EncodeLength.Statement (.js disp) := length_lit2 _ _
theorem EncodeLength.jns (disp : Byte) : EncodeLength.Statement (.jns disp) := length_lit2 _ _
theorem EncodeLength.jp (disp : Byte) : EncodeLength.Statement (.jp disp) := length_lit2 _ _
theorem EncodeLength.jnp (disp : Byte) : EncodeLength.Statement (.jnp disp) := length_lit2 _ _
theorem EncodeLength.jl (disp : Byte) : EncodeLength.Statement (.jl disp) := length_lit2 _ _
theorem EncodeLength.jge (disp : Byte) : EncodeLength.Statement (.jge disp) := length_lit2 _ _
theorem EncodeLength.jle (disp : Byte) : EncodeLength.Statement (.jle disp) := length_lit2 _ _
theorem EncodeLength.jg (disp : Byte) : EncodeLength.Statement (.jg disp) := length_lit2 _ _
theorem EncodeLength.testEbRb (e : Rm8) (r : Reg8) : EncodeLength.Statement (.testEbRb e r) := length_rm _ _ _ _
theorem EncodeLength.testEwRw (e : Rm16) (r : Reg16) : EncodeLength.Statement (.testEwRw e r) := length_rm _ _ _ _
theorem EncodeLength.xchgEbRb (e : Rm8) (r : Reg8) : EncodeLength.Statement (.xchgEbRb e r) := length_rm _ _ _ _
theorem EncodeLength.xchgEwRw (e : Rm16) (r : Reg16) : EncodeLength.Statement (.xchgEwRw e r) := length_rm _ _ _ _
theorem EncodeLength.movEbRb (e : Rm8) (r : Reg8) : EncodeLength.Statement (.movEbRb e r) := length_rm _ _ _ _
theorem EncodeLength.movEwRw (e : Rm16) (r : Reg16) : EncodeLength.Statement (.movEwRw e r) := length_rm _ _ _ _
theorem EncodeLength.movRbEb (r : Reg8) (e : Rm8) : EncodeLength.Statement (.movRbEb r e) := length_rm _ _ _ _
theorem EncodeLength.movRwEw (r : Reg16) (e : Rm16) : EncodeLength.Statement (.movRwEw r e) := length_rm _ _ _ _
theorem EncodeLength.movEwEs (e : Rm16) : EncodeLength.Statement (.movEwEs e) := length_rm _ _ _ _
theorem EncodeLength.movEwCs (e : Rm16) : EncodeLength.Statement (.movEwCs e) := length_rm _ _ _ _
theorem EncodeLength.movEwSs (e : Rm16) : EncodeLength.Statement (.movEwSs e) := length_rm _ _ _ _
theorem EncodeLength.movEwDs (e : Rm16) : EncodeLength.Statement (.movEwDs e) := length_rm _ _ _ _
theorem EncodeLength.lea (r : Reg16) (e : Rm16) : EncodeLength.Statement (.lea r e) := length_rm _ _ _ _
theorem EncodeLength.movEsEw (e : Rm16) : EncodeLength.Statement (.movEsEw e) := length_rm _ _ _ _
theorem EncodeLength.movSsEw (e : Rm16) : EncodeLength.Statement (.movSsEw e) := length_rm _ _ _ _
theorem EncodeLength.movDsEw (e : Rm16) : EncodeLength.Statement (.movDsEw e) := length_rm _ _ _ _
theorem EncodeLength.popMw (e : Rm16) : EncodeLength.Statement (.popMw e) := length_rm _ _ _ _
theorem EncodeLength.xchgAxRw (r : Reg16) : EncodeLength.Statement (.xchgAxRw r) := length_lit1 _
theorem EncodeLength.callCd (off : Word) (sel : Word) : EncodeLength.Statement (.callCd off sel) := length_lit5 _ _ _ _ _
theorem EncodeLength.movAlXb (off : Word) : EncodeLength.Statement (.movAlXb off) := length_lit3 _ _ _
theorem EncodeLength.movAxXw (off : Word) : EncodeLength.Statement (.movAxXw off) := length_lit3 _ _ _
theorem EncodeLength.movXbAl (off : Word) : EncodeLength.Statement (.movXbAl off) := length_lit3 _ _ _
theorem EncodeLength.movXwAx (off : Word) : EncodeLength.Statement (.movXwAx off) := length_lit3 _ _ _
theorem EncodeLength.testAlDb (imm : Byte) : EncodeLength.Statement (.testAlDb imm) := length_lit2 _ _
theorem EncodeLength.testAxDw (imm : Word) : EncodeLength.Statement (.testAxDw imm) := length_lit3 _ _ _
theorem EncodeLength.movRbDb (r : Reg8) (imm : Byte) : EncodeLength.Statement (.movRbDb r imm) := length_lit2 _ _
theorem EncodeLength.movRwDw (r : Reg16) (imm : Word) : EncodeLength.Statement (.movRwDw r imm) := length_lit3 _ _ _
theorem EncodeLength.rolEbDb (e : Rm8) (imm : Byte) : EncodeLength.Statement (.rolEbDb e imm) := length_rm_byte _ _ _ _ _
theorem EncodeLength.rorEbDb (e : Rm8) (imm : Byte) : EncodeLength.Statement (.rorEbDb e imm) := length_rm_byte _ _ _ _ _
theorem EncodeLength.rclEbDb (e : Rm8) (imm : Byte) : EncodeLength.Statement (.rclEbDb e imm) := length_rm_byte _ _ _ _ _
theorem EncodeLength.rcrEbDb (e : Rm8) (imm : Byte) : EncodeLength.Statement (.rcrEbDb e imm) := length_rm_byte _ _ _ _ _
theorem EncodeLength.shlEbDb (e : Rm8) (imm : Byte) : EncodeLength.Statement (.shlEbDb e imm) := length_rm_byte _ _ _ _ _
theorem EncodeLength.shrEbDb (e : Rm8) (imm : Byte) : EncodeLength.Statement (.shrEbDb e imm) := length_rm_byte _ _ _ _ _
theorem EncodeLength.sarEbDb (e : Rm8) (imm : Byte) : EncodeLength.Statement (.sarEbDb e imm) := length_rm_byte _ _ _ _ _
theorem EncodeLength.rolEwDb (e : Rm16) (imm : Byte) : EncodeLength.Statement (.rolEwDb e imm) := length_rm_byte _ _ _ _ _
theorem EncodeLength.rorEwDb (e : Rm16) (imm : Byte) : EncodeLength.Statement (.rorEwDb e imm) := length_rm_byte _ _ _ _ _
theorem EncodeLength.rclEwDb (e : Rm16) (imm : Byte) : EncodeLength.Statement (.rclEwDb e imm) := length_rm_byte _ _ _ _ _
theorem EncodeLength.rcrEwDb (e : Rm16) (imm : Byte) : EncodeLength.Statement (.rcrEwDb e imm) := length_rm_byte _ _ _ _ _
theorem EncodeLength.shlEwDb (e : Rm16) (imm : Byte) : EncodeLength.Statement (.shlEwDb e imm) := length_rm_byte _ _ _ _ _
theorem EncodeLength.shrEwDb (e : Rm16) (imm : Byte) : EncodeLength.Statement (.shrEwDb e imm) := length_rm_byte _ _ _ _ _
theorem EncodeLength.sarEwDb (e : Rm16) (imm : Byte) : EncodeLength.Statement (.sarEwDb e imm) := length_rm_byte _ _ _ _ _
theorem EncodeLength.retDw (imm : Word) : EncodeLength.Statement (.retDw imm) := length_lit3 _ _ _
theorem EncodeLength.les (r : Reg16) (e : Rm16) : EncodeLength.Statement (.les r e) := length_rm _ _ _ _
theorem EncodeLength.lds (r : Reg16) (e : Rm16) : EncodeLength.Statement (.lds r e) := length_rm _ _ _ _
theorem EncodeLength.movEbDb (e : Rm8) (imm : Byte) : EncodeLength.Statement (.movEbDb e imm) := length_rm_byte _ _ _ _ _
theorem EncodeLength.movEwDw (e : Rm16) (imm : Word) : EncodeLength.Statement (.movEwDw e imm) := length_rm_word _ _ _ _ _ _
theorem EncodeLength.enter (size : Word) (level : Byte) : EncodeLength.Statement (.enter size level) := length_lit4 _ _ _ _
theorem EncodeLength.retfDw (imm : Word) : EncodeLength.Statement (.retfDw imm) := length_lit3 _ _ _
theorem EncodeLength.intDb (imm : Byte) : EncodeLength.Statement (.intDb imm) := length_lit2 _ _
theorem EncodeLength.rolEb1 (e : Rm8) : EncodeLength.Statement (.rolEb1 e) := length_rm _ _ _ _
theorem EncodeLength.rorEb1 (e : Rm8) : EncodeLength.Statement (.rorEb1 e) := length_rm _ _ _ _
theorem EncodeLength.rclEb1 (e : Rm8) : EncodeLength.Statement (.rclEb1 e) := length_rm _ _ _ _
theorem EncodeLength.rcrEb1 (e : Rm8) : EncodeLength.Statement (.rcrEb1 e) := length_rm _ _ _ _
theorem EncodeLength.shlEb1 (e : Rm8) : EncodeLength.Statement (.shlEb1 e) := length_rm _ _ _ _
theorem EncodeLength.shrEb1 (e : Rm8) : EncodeLength.Statement (.shrEb1 e) := length_rm _ _ _ _
theorem EncodeLength.sarEb1 (e : Rm8) : EncodeLength.Statement (.sarEb1 e) := length_rm _ _ _ _
theorem EncodeLength.rolEw1 (e : Rm16) : EncodeLength.Statement (.rolEw1 e) := length_rm _ _ _ _
theorem EncodeLength.rorEw1 (e : Rm16) : EncodeLength.Statement (.rorEw1 e) := length_rm _ _ _ _
theorem EncodeLength.rclEw1 (e : Rm16) : EncodeLength.Statement (.rclEw1 e) := length_rm _ _ _ _
theorem EncodeLength.rcrEw1 (e : Rm16) : EncodeLength.Statement (.rcrEw1 e) := length_rm _ _ _ _
theorem EncodeLength.shlEw1 (e : Rm16) : EncodeLength.Statement (.shlEw1 e) := length_rm _ _ _ _
theorem EncodeLength.shrEw1 (e : Rm16) : EncodeLength.Statement (.shrEw1 e) := length_rm _ _ _ _
theorem EncodeLength.sarEw1 (e : Rm16) : EncodeLength.Statement (.sarEw1 e) := length_rm _ _ _ _
theorem EncodeLength.rolEbCl (e : Rm8) : EncodeLength.Statement (.rolEbCl e) := length_rm _ _ _ _
theorem EncodeLength.rorEbCl (e : Rm8) : EncodeLength.Statement (.rorEbCl e) := length_rm _ _ _ _
theorem EncodeLength.rclEbCl (e : Rm8) : EncodeLength.Statement (.rclEbCl e) := length_rm _ _ _ _
theorem EncodeLength.rcrEbCl (e : Rm8) : EncodeLength.Statement (.rcrEbCl e) := length_rm _ _ _ _
theorem EncodeLength.shlEbCl (e : Rm8) : EncodeLength.Statement (.shlEbCl e) := length_rm _ _ _ _
theorem EncodeLength.shrEbCl (e : Rm8) : EncodeLength.Statement (.shrEbCl e) := length_rm _ _ _ _
theorem EncodeLength.sarEbCl (e : Rm8) : EncodeLength.Statement (.sarEbCl e) := length_rm _ _ _ _
theorem EncodeLength.rolEwCl (e : Rm16) : EncodeLength.Statement (.rolEwCl e) := length_rm _ _ _ _
theorem EncodeLength.rorEwCl (e : Rm16) : EncodeLength.Statement (.rorEwCl e) := length_rm _ _ _ _
theorem EncodeLength.rclEwCl (e : Rm16) : EncodeLength.Statement (.rclEwCl e) := length_rm _ _ _ _
theorem EncodeLength.rcrEwCl (e : Rm16) : EncodeLength.Statement (.rcrEwCl e) := length_rm _ _ _ _
theorem EncodeLength.shlEwCl (e : Rm16) : EncodeLength.Statement (.shlEwCl e) := length_rm _ _ _ _
theorem EncodeLength.shrEwCl (e : Rm16) : EncodeLength.Statement (.shrEwCl e) := length_rm _ _ _ _
theorem EncodeLength.sarEwCl (e : Rm16) : EncodeLength.Statement (.sarEwCl e) := length_rm _ _ _ _
theorem EncodeLength.undefD4 (aad : Bool) (second : Byte) : EncodeLength.Statement (.undefD4 aad second) := length_lit2 _ _
theorem EncodeLength.esc (op : BitVec 3) (ext : BitVec 3) (e : RM (BitVec 3)) : EncodeLength.Statement (.esc op ext e) := length_rm _ _ _ _
theorem EncodeLength.loopne (disp : Byte) : EncodeLength.Statement (.loopne disp) := length_lit2 _ _
theorem EncodeLength.loope (disp : Byte) : EncodeLength.Statement (.loope disp) := length_lit2 _ _
theorem EncodeLength.loop (disp : Byte) : EncodeLength.Statement (.loop disp) := length_lit2 _ _
theorem EncodeLength.jcxz (disp : Byte) : EncodeLength.Statement (.jcxz disp) := length_lit2 _ _
theorem EncodeLength.inAlDb (imm : Byte) : EncodeLength.Statement (.inAlDb imm) := length_lit2 _ _
theorem EncodeLength.inAxDb (imm : Byte) : EncodeLength.Statement (.inAxDb imm) := length_lit2 _ _
theorem EncodeLength.outDbAl (imm : Byte) : EncodeLength.Statement (.outDbAl imm) := length_lit2 _ _
theorem EncodeLength.outDbAx (imm : Byte) : EncodeLength.Statement (.outDbAx imm) := length_lit2 _ _
theorem EncodeLength.callCw (disp : Word) : EncodeLength.Statement (.callCw disp) := length_lit3 _ _ _
theorem EncodeLength.jmpCw (disp : Word) : EncodeLength.Statement (.jmpCw disp) := length_lit3 _ _ _
theorem EncodeLength.jmpCd (off : Word) (sel : Word) : EncodeLength.Statement (.jmpCd off sel) := length_lit5 _ _ _ _ _
theorem EncodeLength.jmpCb (disp : Byte) : EncodeLength.Statement (.jmpCb disp) := length_lit2 _ _
theorem EncodeLength.testEbDb (e : Rm8) (imm : Byte) : EncodeLength.Statement (.testEbDb e imm) := length_rm_byte _ _ _ _ _
theorem EncodeLength.notEb (e : Rm8) : EncodeLength.Statement (.notEb e) := length_rm _ _ _ _
theorem EncodeLength.negEb (e : Rm8) : EncodeLength.Statement (.negEb e) := length_rm _ _ _ _
theorem EncodeLength.mulEb (e : Rm8) : EncodeLength.Statement (.mulEb e) := length_rm _ _ _ _
theorem EncodeLength.imulEb (e : Rm8) : EncodeLength.Statement (.imulEb e) := length_rm _ _ _ _
theorem EncodeLength.divEb (e : Rm8) : EncodeLength.Statement (.divEb e) := length_rm _ _ _ _
theorem EncodeLength.idivEb (e : Rm8) : EncodeLength.Statement (.idivEb e) := length_rm _ _ _ _
theorem EncodeLength.testEwDw (e : Rm16) (imm : Word) : EncodeLength.Statement (.testEwDw e imm) := length_rm_word _ _ _ _ _ _
theorem EncodeLength.notEw (e : Rm16) : EncodeLength.Statement (.notEw e) := length_rm _ _ _ _
theorem EncodeLength.negEw (e : Rm16) : EncodeLength.Statement (.negEw e) := length_rm _ _ _ _
theorem EncodeLength.mulEw (e : Rm16) : EncodeLength.Statement (.mulEw e) := length_rm _ _ _ _
theorem EncodeLength.imulEw (e : Rm16) : EncodeLength.Statement (.imulEw e) := length_rm _ _ _ _
theorem EncodeLength.divEw (e : Rm16) : EncodeLength.Statement (.divEw e) := length_rm _ _ _ _
theorem EncodeLength.idivEw (e : Rm16) : EncodeLength.Statement (.idivEw e) := length_rm _ _ _ _
theorem EncodeLength.incEb (e : Rm8) : EncodeLength.Statement (.incEb e) := length_rm _ _ _ _
theorem EncodeLength.decEb (e : Rm8) : EncodeLength.Statement (.decEb e) := length_rm _ _ _ _
theorem EncodeLength.incEw (e : Rm16) : EncodeLength.Statement (.incEw e) := length_rm _ _ _ _
theorem EncodeLength.decEw (e : Rm16) : EncodeLength.Statement (.decEw e) := length_rm _ _ _ _
theorem EncodeLength.callEw (e : Rm16) : EncodeLength.Statement (.callEw e) := length_rm _ _ _ _
theorem EncodeLength.callEd (e : Rm16) : EncodeLength.Statement (.callEd e) := length_rm _ _ _ _
theorem EncodeLength.jmpEw (e : Rm16) : EncodeLength.Statement (.jmpEw e) := length_rm _ _ _ _
theorem EncodeLength.jmpEd (e : Rm16) : EncodeLength.Statement (.jmpEd e) := length_rm _ _ _ _
theorem EncodeLength.pushMw (e : Rm16) : EncodeLength.Statement (.pushMw e) := length_rm _ _ _ _
theorem EncodeLength.sldt (e : Rm16) : EncodeLength.Statement (.sldt e) := length_rm2 _ _ _ _ _
theorem EncodeLength.str (e : Rm16) : EncodeLength.Statement (.str e) := length_rm2 _ _ _ _ _
theorem EncodeLength.lldt (e : Rm16) : EncodeLength.Statement (.lldt e) := length_rm2 _ _ _ _ _
theorem EncodeLength.ltr (e : Rm16) : EncodeLength.Statement (.ltr e) := length_rm2 _ _ _ _ _
theorem EncodeLength.verr (e : Rm16) : EncodeLength.Statement (.verr e) := length_rm2 _ _ _ _ _
theorem EncodeLength.verw (e : Rm16) : EncodeLength.Statement (.verw e) := length_rm2 _ _ _ _ _
theorem EncodeLength.sgdt (e : Rm16) : EncodeLength.Statement (.sgdt e) := length_rm2 _ _ _ _ _
theorem EncodeLength.sidt (e : Rm16) : EncodeLength.Statement (.sidt e) := length_rm2 _ _ _ _ _
theorem EncodeLength.lgdt (e : Rm16) : EncodeLength.Statement (.lgdt e) := length_rm2 _ _ _ _ _
theorem EncodeLength.lidt (e : Rm16) : EncodeLength.Statement (.lidt e) := length_rm2 _ _ _ _ _
theorem EncodeLength.smsw (e : Rm16) : EncodeLength.Statement (.smsw e) := length_rm2 _ _ _ _ _
theorem EncodeLength.lmsw (e : Rm16) : EncodeLength.Statement (.lmsw e) := length_rm2 _ _ _ _ _
theorem EncodeLength.lar (r : Reg16) (e : Rm16) : EncodeLength.Statement (.lar r e) := length_rm2 _ _ _ _ _
theorem EncodeLength.lsl (r : Reg16) (e : Rm16) : EncodeLength.Statement (.lsl r e) := length_rm2 _ _ _ _ _
theorem EncodeLength.undef0F (second : Byte) : EncodeLength.Statement (.undef0F second) := length_lit2 _ _
theorem EncodeLength.undef83x1 : EncodeLength.Statement .undef83x1 := length_lit2 _ _
theorem EncodeLength.undef83x4 : EncodeLength.Statement .undef83x4 := length_lit2 _ _
theorem EncodeLength.undef83x6 : EncodeLength.Statement .undef83x6 := length_lit2 _ _
theorem EncodeLength.pushEs : EncodeLength.Statement .pushEs := length_lit1 _
theorem EncodeLength.popEs : EncodeLength.Statement .popEs := length_lit1 _
theorem EncodeLength.pushCs : EncodeLength.Statement .pushCs := length_lit1 _
theorem EncodeLength.pushSs : EncodeLength.Statement .pushSs := length_lit1 _
theorem EncodeLength.popSs : EncodeLength.Statement .popSs := length_lit1 _
theorem EncodeLength.pushDs : EncodeLength.Statement .pushDs := length_lit1 _
theorem EncodeLength.popDs : EncodeLength.Statement .popDs := length_lit1 _
theorem EncodeLength.segEs : EncodeLength.Statement .segEs := length_lit1 _
theorem EncodeLength.segCs : EncodeLength.Statement .segCs := length_lit1 _
theorem EncodeLength.segSs : EncodeLength.Statement .segSs := length_lit1 _
theorem EncodeLength.segDs : EncodeLength.Statement .segDs := length_lit1 _
theorem EncodeLength.lock : EncodeLength.Statement .lock := length_lit1 _
theorem EncodeLength.repne : EncodeLength.Statement .repne := length_lit1 _
theorem EncodeLength.rep : EncodeLength.Statement .rep := length_lit1 _
theorem EncodeLength.daa : EncodeLength.Statement .daa := length_lit1 _
theorem EncodeLength.das : EncodeLength.Statement .das := length_lit1 _
theorem EncodeLength.aaa : EncodeLength.Statement .aaa := length_lit1 _
theorem EncodeLength.aas : EncodeLength.Statement .aas := length_lit1 _
theorem EncodeLength.pusha : EncodeLength.Statement .pusha := length_lit1 _
theorem EncodeLength.popa : EncodeLength.Statement .popa := length_lit1 _
theorem EncodeLength.undef64 : EncodeLength.Statement .undef64 := length_lit1 _
theorem EncodeLength.undef65 : EncodeLength.Statement .undef65 := length_lit1 _
theorem EncodeLength.undef66 : EncodeLength.Statement .undef66 := length_lit1 _
theorem EncodeLength.undef67 : EncodeLength.Statement .undef67 := length_lit1 _
theorem EncodeLength.insb : EncodeLength.Statement .insb := length_lit1 _
theorem EncodeLength.insw : EncodeLength.Statement .insw := length_lit1 _
theorem EncodeLength.outsb : EncodeLength.Statement .outsb := length_lit1 _
theorem EncodeLength.outsw : EncodeLength.Statement .outsw := length_lit1 _
theorem EncodeLength.undef82 : EncodeLength.Statement .undef82 := length_lit1 _
theorem EncodeLength.undef8Cx4to7 : EncodeLength.Statement .undef8Cx4to7 := length_lit2 _ _
theorem EncodeLength.undef8Ex1 : EncodeLength.Statement .undef8Ex1 := length_lit2 _ _
theorem EncodeLength.undef8Ex4to7 : EncodeLength.Statement .undef8Ex4to7 := length_lit2 _ _
theorem EncodeLength.undef8Fx1 : EncodeLength.Statement .undef8Fx1 := length_lit2 _ _
theorem EncodeLength.undef8Fx2 : EncodeLength.Statement .undef8Fx2 := length_lit2 _ _
theorem EncodeLength.undef8Fx3 : EncodeLength.Statement .undef8Fx3 := length_lit2 _ _
theorem EncodeLength.undef8Fx4 : EncodeLength.Statement .undef8Fx4 := length_lit2 _ _
theorem EncodeLength.undef8Fx5 : EncodeLength.Statement .undef8Fx5 := length_lit2 _ _
theorem EncodeLength.undef8Fx6 : EncodeLength.Statement .undef8Fx6 := length_lit2 _ _
theorem EncodeLength.undef8Fx7 : EncodeLength.Statement .undef8Fx7 := length_lit2 _ _
theorem EncodeLength.nop : EncodeLength.Statement .nop := length_lit1 _
theorem EncodeLength.cbw : EncodeLength.Statement .cbw := length_lit1 _
theorem EncodeLength.cwd : EncodeLength.Statement .cwd := length_lit1 _
theorem EncodeLength.wait : EncodeLength.Statement .wait := length_lit1 _
theorem EncodeLength.pushf : EncodeLength.Statement .pushf := length_lit1 _
theorem EncodeLength.popf : EncodeLength.Statement .popf := length_lit1 _
theorem EncodeLength.sahf : EncodeLength.Statement .sahf := length_lit1 _
theorem EncodeLength.lahf : EncodeLength.Statement .lahf := length_lit1 _
theorem EncodeLength.movsb : EncodeLength.Statement .movsb := length_lit1 _
theorem EncodeLength.movsw : EncodeLength.Statement .movsw := length_lit1 _
theorem EncodeLength.cmpsb : EncodeLength.Statement .cmpsb := length_lit1 _
theorem EncodeLength.cmpsw : EncodeLength.Statement .cmpsw := length_lit1 _
theorem EncodeLength.stosb : EncodeLength.Statement .stosb := length_lit1 _
theorem EncodeLength.stosw : EncodeLength.Statement .stosw := length_lit1 _
theorem EncodeLength.lodsb : EncodeLength.Statement .lodsb := length_lit1 _
theorem EncodeLength.lodsw : EncodeLength.Statement .lodsw := length_lit1 _
theorem EncodeLength.scasb : EncodeLength.Statement .scasb := length_lit1 _
theorem EncodeLength.scasw : EncodeLength.Statement .scasw := length_lit1 _
theorem EncodeLength.undefC0x6 : EncodeLength.Statement .undefC0x6 := length_lit2 _ _
theorem EncodeLength.undefC1x6 : EncodeLength.Statement .undefC1x6 := length_lit2 _ _
theorem EncodeLength.ret : EncodeLength.Statement .ret := length_lit1 _
theorem EncodeLength.undefC6x1 : EncodeLength.Statement .undefC6x1 := length_lit2 _ _
theorem EncodeLength.undefC6x2 : EncodeLength.Statement .undefC6x2 := length_lit2 _ _
theorem EncodeLength.undefC6x3 : EncodeLength.Statement .undefC6x3 := length_lit2 _ _
theorem EncodeLength.undefC6x4 : EncodeLength.Statement .undefC6x4 := length_lit2 _ _
theorem EncodeLength.undefC6x5 : EncodeLength.Statement .undefC6x5 := length_lit2 _ _
theorem EncodeLength.undefC6x6 : EncodeLength.Statement .undefC6x6 := length_lit2 _ _
theorem EncodeLength.undefC6x7 : EncodeLength.Statement .undefC6x7 := length_lit2 _ _
theorem EncodeLength.undefC7x1 : EncodeLength.Statement .undefC7x1 := length_lit2 _ _
theorem EncodeLength.undefC7x2 : EncodeLength.Statement .undefC7x2 := length_lit2 _ _
theorem EncodeLength.undefC7x3 : EncodeLength.Statement .undefC7x3 := length_lit2 _ _
theorem EncodeLength.undefC7x4 : EncodeLength.Statement .undefC7x4 := length_lit2 _ _
theorem EncodeLength.undefC7x5 : EncodeLength.Statement .undefC7x5 := length_lit2 _ _
theorem EncodeLength.undefC7x6 : EncodeLength.Statement .undefC7x6 := length_lit2 _ _
theorem EncodeLength.undefC7x7 : EncodeLength.Statement .undefC7x7 := length_lit2 _ _
theorem EncodeLength.leave : EncodeLength.Statement .leave := length_lit1 _
theorem EncodeLength.retf : EncodeLength.Statement .retf := length_lit1 _
theorem EncodeLength.int3 : EncodeLength.Statement .int3 := length_lit1 _
theorem EncodeLength.into : EncodeLength.Statement .into := length_lit1 _
theorem EncodeLength.iret : EncodeLength.Statement .iret := length_lit1 _
theorem EncodeLength.undefD0x6 : EncodeLength.Statement .undefD0x6 := length_lit2 _ _
theorem EncodeLength.undefD1x6 : EncodeLength.Statement .undefD1x6 := length_lit2 _ _
theorem EncodeLength.undefD2x6 : EncodeLength.Statement .undefD2x6 := length_lit2 _ _
theorem EncodeLength.undefD3x6 : EncodeLength.Statement .undefD3x6 := length_lit2 _ _
theorem EncodeLength.aam : EncodeLength.Statement .aam := length_lit2 _ _
theorem EncodeLength.aad : EncodeLength.Statement .aad := length_lit2 _ _
theorem EncodeLength.undefD6 : EncodeLength.Statement .undefD6 := length_lit1 _
theorem EncodeLength.xlat : EncodeLength.Statement .xlat := length_lit1 _
theorem EncodeLength.inAlDx : EncodeLength.Statement .inAlDx := length_lit1 _
theorem EncodeLength.inAxDx : EncodeLength.Statement .inAxDx := length_lit1 _
theorem EncodeLength.outDxAl : EncodeLength.Statement .outDxAl := length_lit1 _
theorem EncodeLength.outDxAx : EncodeLength.Statement .outDxAx := length_lit1 _
theorem EncodeLength.undefF1 : EncodeLength.Statement .undefF1 := length_lit1 _
theorem EncodeLength.hlt : EncodeLength.Statement .hlt := length_lit1 _
theorem EncodeLength.cmc : EncodeLength.Statement .cmc := length_lit1 _
theorem EncodeLength.undefF6x1 : EncodeLength.Statement .undefF6x1 := length_lit2 _ _
theorem EncodeLength.undefF7x1 : EncodeLength.Statement .undefF7x1 := length_lit2 _ _
theorem EncodeLength.clc : EncodeLength.Statement .clc := length_lit1 _
theorem EncodeLength.stc : EncodeLength.Statement .stc := length_lit1 _
theorem EncodeLength.cli : EncodeLength.Statement .cli := length_lit1 _
theorem EncodeLength.sti : EncodeLength.Statement .sti := length_lit1 _
theorem EncodeLength.cld : EncodeLength.Statement .cld := length_lit1 _
theorem EncodeLength.std : EncodeLength.Statement .std := length_lit1 _
theorem EncodeLength.undefFEx2 : EncodeLength.Statement .undefFEx2 := length_lit2 _ _
theorem EncodeLength.undefFEx3 : EncodeLength.Statement .undefFEx3 := length_lit2 _ _
theorem EncodeLength.undefFEx4 : EncodeLength.Statement .undefFEx4 := length_lit2 _ _
theorem EncodeLength.undefFEx5 : EncodeLength.Statement .undefFEx5 := length_lit2 _ _
theorem EncodeLength.undefFEx6 : EncodeLength.Statement .undefFEx6 := length_lit2 _ _
theorem EncodeLength.undefFEx7 : EncodeLength.Statement .undefFEx7 := length_lit2 _ _
theorem EncodeLength.undefFFx7 : EncodeLength.Statement .undefFFx7 := length_lit2 _ _
theorem EncodeLength.undef0F00x6to7 : EncodeLength.Statement .undef0F00x6to7 := length_lit3 _ _ _
theorem EncodeLength.undef0F01x5 : EncodeLength.Statement .undef0F01x5 := length_lit3 _ _ _
theorem EncodeLength.undef0F01x7 : EncodeLength.Statement .undef0F01x7 := length_lit3 _ _ _
theorem EncodeLength.clts : EncodeLength.Statement .clts := length_lit2 _ _

end Sys2Proof.Laws
end

