-- ==== Sys2Proof/Laws/Transfer.lean ====
section
/-! SUPPORT. What far transfers, task switches and deliveries can change: general registers, IP, FLAGS, MSW (TS alone), the segment
registers, LDTR, TR, memory, the bus and the record of the processor extension; that they keep Core; that a delivery ends in a handler or in
shutdown; and, from any state, what no delivery touches. -/

namespace Sys2Proof.Machine

/-! ### Results of checks in sequence -/

theorem bind_ok {ε α β : Type} {x : Except ε α} {f : α → Except ε β} {b : β} (h : (x >>= f) = .ok b) :
    ∃ a, x = .ok a ∧ f a = .ok b := by
  cases x with
  | error e => exact nomatch h
  | ok a => exact ⟨a, rfl, h⟩

theorem failIn_ok {α : Type} {s : State} {x : Except Trap α} {a : α} (h : failIn s x = .ok a) : x = .ok a := by
  cases x with
  | error e => exact nomatch h
  | ok b => cases h; rfl

theorem failIn_error {α : Type} {s : State} {x : Except Trap α} {f : Failure} (h : failIn s x = .error f) :
    f.st = f.trap.over s ∧ f.ip = s.ip ∧ x = .error f.trap := by
  cases x with
  | error e => cases h; exact ⟨rfl, rfl, rfl⟩
  | ok b => exact nomatch h

/-- Both ends of a transfer: the state it answers, or the state its failure is raised in. -/
def Ends (P : State → Prop) (r : Except Failure State) : Prop := (∀ t, r = .ok t → P t) ∧ ∀ f, r = .error f → P f.st

theorem Ends.ok {P : State → Prop} {t : State} (h : P t) : Ends P (.ok t) :=
  ⟨fun _ e => by cases e; exact h, fun _ e => (nomatch e)⟩

theorem Ends.error {P : State → Prop} {f : Failure} (h : P f.st) : Ends P (.error f) :=
  ⟨fun _ e => (nomatch e), fun _ e => by cases e; exact h⟩

theorem Ends.failIn {P : State → Prop} {s : State} {x : Except Trap State} (hs : ∀ t : Trap, P (t.over s))
    (h : ∀ t, x = .ok t → P t) : Ends P (failIn s x) :=
  ⟨fun t e => h t (failIn_ok e), fun f e => by rw [(failIn_error e).1]; exact hs _⟩

/-- A check made in the state `s`, then the rest. -/
theorem Ends.check {P : State → Prop} {α : Type} {s : State} {x : Except Trap α} {g : α → Except Failure State}
    (hs : ∀ t : Trap, P (t.over s)) (h : ∀ a, x = .ok a → Ends P (g a)) : Ends P (Machine.failIn s x >>= g) := by
  cases x with
  | error e => exact Ends.error (hs _)
  | ok a => exact h a rfl

theorem Ends.bind {P : State → Prop} {x : Except Failure State} {g : State → Except Failure State} (h : Ends P x)
    (hg : ∀ t, P t → Ends P (g t)) : Ends P (x >>= g) := by
  cases x with
  | error f => exact Ends.error (h.2 f rfl)
  | ok t => exact hg t (h.1 t rfl)

/-! ### What may change -/

/-- `t` differs from `s` in general registers, IP, FLAGS, MSW, segment registers, LDTR, TR, memory, the bus and the record of the
processor extension at most. -/
def Frame (s t : State) : Prop :=
  t = { s with
    gpr := t.gpr, ip := t.ip, flags := t.flags, msw := t.msw, es := t.es, cs := t.cs, ss := t.ss, ds := t.ds,
    ldtr := t.ldtr, tr := t.tr, mem := t.mem, bus := t.bus, escLog := t.escLog }

theorem Frame.refl (s : State) : Frame s s := rfl

theorem Frame.trans {s t u : State} (h : Frame s t) (k : Frame t u) : Frame s u := by
  unfold Frame at *
  rw [k, h]

/-- What a transfer keeps, whatever the state: the frame, the canonical form of memory, the mode, and that no RESET falls into the
step. -/
def Within (s t : State) : Prop :=
  Frame s t ∧ (s.mem.wf = true → t.mem.wf = true) ∧ t.msw.pe = s.msw.pe ∧ (Unreset s → Unreset t)

variable {Q : Prop}

theorem Within.refl (s : State) : Within s s := ⟨rfl, id, rfl, id⟩

theorem Within.trans {s t u : State} (h : Within s t) (k : Within t u) : Within s u :=
  ⟨h.1.trans k.1, k.2.1 ∘ h.2.1, k.2.2.1.trans h.2.2.1, k.2.2.2 ∘ h.2.2.2⟩

theorem Frame.onBus {s t : State} (h : OnBus s t) : Frame s t := by
  unfold Frame OnBus at *
  rw [h]

/-- Bus cycles keep what a transfer keeps. -/
theorem Within.onBus {s t u : State} (h : Within s t) (e : OnBus t u) (hm : t.mem.wf = true → u.mem.wf = true)
    (hq : Unreset t → Unreset u) : Within s u :=
  ⟨h.1.trans (.onBus e), hm ∘ h.2.1, (congrArg Msw.pe e.msw).trans h.2.2.1, hq ∘ h.2.2.2⟩

theorem Within.over {s t : State} (h : Within s t) (x : Trap) : Within s (x.over t) :=
  h.onBus (x.over_onBus t) (Trap.over_wf · x) (·.over x)

theorem Within.others {s t : State} (h : Within s t) : Within s t.others := h.onBus t.others_onBus State.others_wf (·.others)

theorem Within.poke8 {s t : State} (h : Within s t) (a : Addr) (k : Nat) (v : Byte) : Within s (t.poke8 a k v) :=
  h.onBus (t.poke8_onBus a k v) (State.poke8_wf · a k v) (·.poke8 a k v)

theorem Within.poke16 {s t : State} (h : Within s t) (a : Addr) (k : Nat) (v : Word) : Within s (t.poke16 a k v) :=
  h.onBus (t.poke16_onBus a k v) (State.poke16_wf · a k v) (·.poke16 a k v)

theorem Within.fetch16 {s t : State} (h : Within s t) (a : Addr) (k : Nat) : Within s (t.fetch16 a k).2 :=
  h.onBus (t.fetch16_onBus a k) (State.fetch16_wf · a k) (·.fetch16 a k)

theorem Within.stackGet {s t : State} (h : Within s t) (k : Nat) : Within s (t.stackGet k).2 :=
  h.onBus (t.stackGet_onBus k) (State.loadWord_wf · _ _) (·.stackGet k)

theorem Within.vectorWord {s t : State} (h : Within s t) (k : Nat) : Within s (t.vectorWord k).2 :=
  h.onBus (t.vectorWord_onBus k) (State.loadWord_wf · _ _) (·.vectorWord k)

theorem Within.setAccessed {s t : State} (h : Within s t) (d : Desc) : Within s (t.setAccessed d) := h.others.poke8 _ _ _

/-- Where a descriptor has been read, what other agents did before is all that has happened. -/
theorem fetchOr_state {s u : State} {sel : Word} {t : Trap} {d : Desc} (h : fetchOr s sel t = .ok (d, u)) : u = s.others := by
  unfold fetchOr State.readTable at h
  cases hd : s.others.fetchDesc sel with
  | none => rw [hd] at h; exact nomatch h
  | some e =>
    rw [hd] at h
    cases h
    rfl

theorem Within.fetchOr {s t u : State} (h : Within s t) {sel : Word} {x : Trap} {d : Desc} (hu : fetchOr t sel x = .ok (d, u)) :
    Within s u := by
  rw [fetchOr_state hu]
  exact h.others

theorem Within.setSp {s t : State} (h : Within s t) (v : Word) : Within s (t.setSp v) := ⟨h.1.trans rfl, h.2⟩

theorem Within.setSeg {s t : State} (h : Within s t) (r : SegReg) (c : SegCache) : Within s (t.setSeg r c) := by
  cases r <;> exact ⟨h.1.trans rfl, h.2⟩

theorem Within.commitCs {s t : State} (h : Within s t) (sel : Word) (d : Desc) (off : Word) (cpl : BitVec 2) :
    Within s (commitCs t sel d off cpl) :=
  have h' := h.setAccessed d
  ⟨h'.1.trans rfl, h'.2⟩

theorem Within.commitSs {s t : State} (h : Within s t) (sel : Word) (d : Desc) (sp : Word) : Within s (commitSs t sel d sp) :=
  have h' := h.setAccessed d
  ⟨h'.1.trans rfl, h'.2⟩

theorem Within.pushAll {s t u : State} (h : Within s t) {ws : List Word} (hu : pushAll t ws = .ok u) : Within s u :=
  (h.setSp u.gpr.sp).onBus (pushAll_rest hu) (fun (w : t.mem.wf = true) => pushAll_wf w hu) fun (w : Unreset t) => w.pushAll hu

theorem Within.setFlags {s t : State} (h : Within s t) (f : Flags) : Within s { t with flags := f } := ⟨h.1.trans rfl, h.2⟩

theorem Within.nullIfInaccessible {s t : State} (h : Within s t) (r : SegReg) : Within s (nullIfInaccessible t r) := by
  unfold Machine.nullIfInaccessible
  dsimp only
  split
  · exact h
  · split
    · exact h.setSeg _ _
    · exact h

/-! ### The task switch -/

theorem leaveTask_within {s u : State} (h : Within s u) (t : Word) (b : Desc) (kind : SwitchKind) (outIp : Word) (ext : Bool) :
    Ends (Within s) (leaveTask u t b kind outIp ext) := by
  have h1 : Within s (if kind = .iret then u else u.setBusy t) := by
    split
    · exact h
    · exact h.poke8 _ _ _
  unfold leaveTask
  dsimp only
  generalize (if kind = .iret then u else u.setBusy t) = s1 at h1
  split
  · exact .error h1
  · have h2 : ∀ (ws : List Word) (u : State) (a : Addr) (k : Nat), Within s u → Within s (pokeWords u a k ws) := by
      intro ws
      induction ws with
      | nil => exact fun u a k hu => hu
      | cons w ws ih => exact fun u a k hu => ih _ _ _ (hu.poke16 _ _ _)
    have h3 := h2 (tssImage u outIp kind) s1 u.tr.base 14 h1
    refine .ok ?_
    generalize pokeWords s1 u.tr.base 14 (tssImage u outIp kind) = s2 at h3
    split
    · exact ⟨(h3.poke16 _ _ _).1.trans rfl, (h3.poke16 _ _ _).2⟩
    · exact ⟨(h3.others.poke8 _ _ _).1.trans rfl, (h3.others.poke8 _ _ _).2⟩

theorem switchLdt_within {s t u : State} (h : Within s t) {ext : Bool} (hu : switchLdt t ext = .ok u) : Within s u := by
  unfold switchLdt at hu
  dsimp only at hu
  split at hu
  · cases hu; exact h
  · obtain ⟨_, -, hu⟩ := bind_ok hu
    obtain ⟨⟨d, v⟩, hd, hu⟩ := bind_ok hu
    obtain ⟨_, -, hu⟩ := bind_ok ((afterReads_ok_iff _ _ _).1 hu)
    obtain ⟨_, -, hu⟩ := bind_ok hu
    cases hu
    exact ⟨(h.fetchOr hd).1.trans rfl, (h.fetchOr hd).2⟩

theorem switchSs_within {s t u : State} (h : Within s t) {ext : Bool} (hu : switchSs t ext = .ok u) : Within s u := by
  unfold switchSs at hu
  dsimp only at hu
  obtain ⟨_, -, hu⟩ := bind_ok hu
  obtain ⟨⟨d, v⟩, hd, hu⟩ := bind_ok hu
  obtain ⟨_, -, hu⟩ := bind_ok ((afterReads_ok_iff _ _ _).1 hu)
  obtain ⟨_, -, hu⟩ := bind_ok hu
  obtain ⟨_, -, hu⟩ := bind_ok hu
  obtain ⟨_, -, hu⟩ := bind_ok hu
  cases hu
  exact ⟨((h.fetchOr hd).setAccessed d).1.trans rfl, ((h.fetchOr hd).setAccessed d).2⟩

theorem switchCs_within {s t u : State} (h : Within s t) {ext : Bool} (hu : switchCs t ext = .ok u) : Within s u := by
  unfold switchCs at hu
  dsimp only at hu
  obtain ⟨_, -, hu⟩ := bind_ok hu
  obtain ⟨⟨d, v⟩, hd, hu⟩ := bind_ok hu
  obtain ⟨_, -, hu⟩ := bind_ok ((afterReads_ok_iff _ _ _).1 hu)
  obtain ⟨_, -, hu⟩ := bind_ok hu
  obtain ⟨_, -, hu⟩ := bind_ok hu
  obtain ⟨_, -, hu⟩ := bind_ok hu
  cases hu
  exact ⟨((h.fetchOr hd).setAccessed d).1.trans rfl, ((h.fetchOr hd).setAccessed d).2⟩

theorem switchData_within {s t u : State} (h : Within s t) {r : SegReg} {ext : Bool} (hu : switchData t r ext = .ok u) :
    Within s u := by
  unfold switchData at hu
  dsimp only at hu
  split at hu
  · cases hu; exact h
  · obtain ⟨⟨d, v⟩, hd, hu⟩ := bind_ok hu
    obtain ⟨_, -, hu⟩ := bind_ok ((afterReads_ok_iff _ _ _).1 hu)
    obtain ⟨_, -, hu⟩ := bind_ok hu
    obtain ⟨_, -, hu⟩ := bind_ok hu
    cases hu
    exact ((h.fetchOr hd).setAccessed d).setSeg r _

theorem readWords_within {s t : State} (h : Within s t) (a : Addr) (k n : Nat) : Within s (readWords t a k n).2 :=
  h.onBus (readWords_onBus t a k n) (readWords_wf · a k n) (·.readWords a k n)

theorem enterTask_within {s t : State} (h : Within s t) (kind : SwitchKind) (ext : Bool) : Ends (Within s) (enterTask t kind ext) := by
  have h0 := readWords_within h t.tr.base 14 15
  have h1 : Within s (loadTss t kind) := ⟨h0.1.trans rfl, h0.2⟩
  refine .check h.over fun _ _ => .check h1.over fun s2 e2 => ?_
  have h2 := switchLdt_within h1 e2
  refine .check h2.over fun s3 e3 => ?_
  have h3 := switchSs_within h2 e3
  refine .check h3.over fun s4 e4 => ?_
  have h4 := switchCs_within h3 e4
  refine .check h4.over fun s5 e5 => ?_
  have h5 := switchData_within h4 e5
  exact .failIn h5.over fun u e => switchData_within h5 e

theorem switchTasks_within {s u : State} (h : Within s u) (t : Word) (b : Desc) (kind : SwitchKind) (outIp : Word) (ext : Bool) :
    Ends (Within s) (switchTasks u t b kind outIp ext) :=
  .bind (leaveTask_within h t b kind outIp ext) fun _ hu => enterTask_within hu kind ext

theorem checkNewIp_within {s t : State} (h : Within s t) (ext : Bool) : Ends (Within s) (checkNewIp t ext) :=
  .check h.over fun _ _ => .ok h

/-! ### Delivery in Protected Mode -/

theorem gateSameLevel_within {s t u : State} (h : Within s t) {sel : Word} {c : Desc} {off retIp : Word} {err : Option Word}
    {ext : Bool} (hu : gateSameLevel t sel c off retIp err ext = .ok u) : Within s u := by
  obtain ⟨_, -, hu⟩ := bind_ok hu
  obtain ⟨_, -, hu⟩ := bind_ok hu
  obtain ⟨s1, h1, hu⟩ := bind_ok hu
  exact ((h.pushAll h1).commitCs _ _ _ _).pushAll hu

/-- The search for an inner stack keeps what a transfer keeps. -/
theorem innerStack_within {s t : State} (h : Within s t) {n : BitVec 2} {ext : Bool} {k : InnerStack}
    (hk : innerStack t n ext = .ok k) : Within s k.st := by
  unfold innerStack at hk
  dsimp only at hk
  obtain ⟨_, -, hk⟩ := bind_ok hk
  obtain ⟨_, -, hk⟩ := bind_ok ((afterReads_ok_iff _ _ _).1 hk)
  obtain ⟨⟨d, v⟩, hd, hk⟩ := bind_ok hk
  obtain ⟨_, -, hk⟩ := bind_ok ((afterReads_ok_iff _ _ _).1 hk)
  obtain ⟨_, -, hk⟩ := bind_ok hk
  obtain ⟨_, -, hk⟩ := bind_ok hk
  obtain ⟨_, -, hk⟩ := bind_ok hk
  cases hk
  exact ((h.fetch16 _ _).fetch16 _ _).fetchOr hd

theorem gateInnerLevel_within {s t u : State} (h : Within s t) {sel : Word} {c : Desc} {off retIp : Word} {err : Option Word}
    {ext : Bool} (hu : gateInnerLevel t sel c off retIp err ext = .ok u) : Within s u := by
  obtain ⟨k, hk, hu⟩ := bind_ok hu
  obtain ⟨_, -, hu⟩ := bind_ok ((afterReads_ok_iff _ _ _).1 hu)
  obtain ⟨_, -, hu⟩ := bind_ok hu
  exact (((innerStack_within h hk).commitSs _ _ _).commitCs _ _ _ _).pushAll hu

theorem intTrapGate_within {s t u : State} (h : Within s t) {g : Desc} {retIp : Word} {err : Option Word} {ext : Bool}
    (hu : intTrapGate t g retIp err ext = .ok u) : Within s u := by
  unfold intTrapGate at hu
  dsimp only at hu
  obtain ⟨_, -, hu⟩ := bind_ok hu
  obtain ⟨⟨c, v⟩, hc, hu⟩ := bind_ok hu
  obtain ⟨_, -, hu⟩ := bind_ok ((afterReads_ok_iff _ _ _).1 hu)
  obtain ⟨_, -, hu⟩ := bind_ok hu
  obtain ⟨_, -, hu⟩ := bind_ok hu
  split at hu
  · obtain ⟨t, ht, hu⟩ := bind_ok hu
    cases hu
    exact (gateInnerLevel_within (h.fetchOr hc) ht).setFlags _
  · split at hu
    · obtain ⟨t, ht, hu⟩ := bind_ok hu
      cases hu
      exact (gateSameLevel_within (h.fetchOr hc) ht).setFlags _
    · exact nomatch hu

theorem intTaskTarget_within {s t u : State} (h : Within s t) {sel : Word} {ext : Bool} {b : Desc}
    (hu : intTaskTarget t sel ext = .ok (b, u)) : Within s u := by
  obtain ⟨_, -, hu⟩ := bind_ok hu
  obtain ⟨_, -, hu⟩ := bind_ok hu
  obtain ⟨⟨d, v⟩, hd, hu⟩ := bind_ok hu
  obtain ⟨_, -, hu⟩ := bind_ok ((afterReads_ok_iff _ _ _).1 hu)
  obtain ⟨_, -, hu⟩ := bind_ok hu
  cases hu
  exact h.fetchOr hd

theorem deliverProtected_within (s : State) (v : Byte) (retIp : Word) (kind : EventKind) (err : Option Word) (ext : Bool) :
    Ends (Within s) (deliverProtected s v retIp kind err ext) := by
  have h0 := Within.refl s
  have h := h0.others
  unfold deliverProtected
  dsimp only
  refine .check h0.over fun _ _ => .check h.over fun _ _ => .check h.over fun _ _ => .check h.over fun _ _ => ?_
  split
  · refine .check h.over fun b hb => .bind (switchTasks_within (intTaskTarget_within h hb) _ _ .nest retIp ext) fun t ht => ?_
    exact .check ht.over fun _ _ => .check ht.over fun u hu => checkNewIp_within (ht.pushAll hu) ext
  · exact .failIn h.over fun u hu => intTrapGate_within h hu

/-! ### Delivery in Real Address Mode, and either -/

/-- What a delivery keeps, in either mode. -/
def Kept (Q : Prop) (s t : State) : Prop := Frame s t ∧ Core Q t ∧ t.msw.pe = s.msw.pe

theorem Kept.onBus {s t u : State} (h : Kept Q s t) (e : OnBus t u) (hm : u.mem.wf = true)
    (hq : Unreset t → Unreset u) : Kept Q s u :=
  ⟨h.1.trans (.onBus e), h.2.1.onBus e hm hq, (congrArg Msw.pe e.msw).trans h.2.2⟩

theorem Kept.over {s t : State} (h : Kept Q s t) (x : Trap) : Kept Q s (x.over t) :=
  h.onBus (x.over_onBus t) (x.over_wf h.2.1.1) (·.over x)

theorem Kept.vectorWord {s t : State} (h : Kept Q s t) (k : Nat) : Kept Q s (t.vectorWord k).2 :=
  h.onBus (t.vectorWord_onBus k) (State.loadWord_wf h.2.1.1 _ _) (·.vectorWord k)

theorem Kept.pushAll {s t u : State} (h : Kept Q s t) {ws : List Word} (hu : pushAll t ws = .ok u) : Kept Q s u :=
  Kept.onBus (t := { t with gpr := { t.gpr with sp := u.gpr.sp } }) ⟨h.1.trans rfl, h.2⟩ (pushAll_rest hu)
    (pushAll_wf h.2.1.1 hu) fun (w : Unreset t) => w.pushAll hu

theorem Kept.refl {s : State} (h : Core Q s) : Kept Q s s := ⟨rfl, h, rfl⟩

theorem Within.kept {s t : State} (hc : Core Q s) (hp : s.msw.pe = true) (h : Within s t) : Kept Q s t :=
  ⟨h.1, .of_protected (h.2.1 hc.1) (h.2.2.1.trans hp) (h.2.2.2 ∘ hc.2.2.2), h.2.2.1⟩

theorem deliverReal_kept {s : State} (h : Core Q s) (v : Byte) (retIp : Word) :
    Ends (Kept Q s) (deliverReal s v retIp) := by
  have hk := Kept.refl h
  refine .check hk.over fun _ _ => .check hk.over fun _ _ => .check hk.over fun t ht => .ok ?_
  obtain ⟨hf, hc, hpe⟩ := ((hk.pushAll ht).vectorWord (4 * v.toNat)).vectorWord (4 * v.toNat + 2)
  refine ⟨hf.trans rfl, ⟨hc.1, fun hq => ?_, hc.2.2⟩, hpe⟩
  obtain ⟨-, -, c1, -, c3, c4⟩ := hc.2.1 hq
  have hq' : t.msw.pe = false := by simpa only [State.vectorWord_msw] using hq
  obtain ⟨a, b, -⟩ := (hk.pushAll ht).2.1.2.1 hq'
  exact ⟨a, b, c1, ⟨rfl, rfl, .inl rfl⟩, c3, c4⟩

/-- One attempt at a delivery, both ends. -/
theorem attempt_kept {s : State} (h : Core Q s) (v : Byte) (retIp : Word) (kind : EventKind) (code : Word) (ext : Bool) :
    Ends (Kept Q s) (attempt s v retIp kind code ext) := by
  unfold attempt
  cases hp : s.msw.pe with
  | false => exact deliverReal_kept h v retIp
  | true =>
    have hw := deliverProtected_within s v retIp kind (if hasErrorCode kind v then some code else none) ext
    exact ⟨fun t e => (hw.1 t e).kept h hp, fun f e => (hw.2 f e).kept h hp⟩

theorem Kept.trans {s t u : State} (h : Kept Q s t) (k : Kept Q t u) : Kept Q s u := ⟨h.1.trans k.1, k.2.1, k.2.2.trans h.2.2⟩

/-- `t` is where a delivery from `s` may end: entered or shut down, everything outside `Frame` as it was but the wait states, the
per-instruction markers and the single-step latch. -/
def Delivered (Q : Prop) (s t : State) : Prop :=
  ∃ u b, (u.tfAtStart = b) ∧ Kept Q { s with tfAtStart := b } u ∧ (t = u.entered ∨ t = u.shutDown)

theorem deliverDouble_delivered {s t : State} {b : Bool} (h : Kept Q { s with tfAtStart := b } t) (ip : Word) (ext : Bool) :
    Delivered Q s (deliverDouble t ip ext) := by
  have hb : ∀ {u : State}, Kept Q t u → u.tfAtStart = b := fun hu =>
    ((congrArg State.tfAtStart hu.1 :)).trans (congrArg State.tfAtStart h.1 :)
  have ha := attempt_kept h.2.1 8 ip .exception 0 ext
  unfold deliverDouble
  cases hx : attempt t 8 ip .exception 0 ext with
  | ok u => exact ⟨u, b, hb (ha.1 u hx), h.trans (ha.1 u hx), .inl rfl⟩
  | error g => exact ⟨g.st, b, hb (ha.2 g hx), h.trans (ha.2 g hx), .inr rfl⟩

theorem deliverFault_delivered {s : State} {b : Bool} {f : Failure} (h : Kept Q { s with tfAtStart := b } f.st) (ext : Bool) :
    Delivered Q s (deliverFault f ext) := by
  have hb : ∀ {u : State}, Kept Q f.st u → u.tfAtStart = b := fun hu =>
    ((congrArg State.tfAtStart hu.1 :)).trans (congrArg State.tfAtStart h.1 :)
  have ha := attempt_kept h.2.1 f.trap.vector f.ip .exception f.trap.code ext
  unfold deliverFault
  cases hx : attempt f.st f.trap.vector f.ip .exception f.trap.code ext with
  | ok u => exact ⟨u, b, hb (ha.1 u hx), h.trans (ha.1 u hx), .inl rfl⟩
  | error g =>
    dsimp only
    split
    · exact ⟨g.st, b, hb (ha.2 g hx), h.trans (ha.2 g hx), .inr rfl⟩
    · exact deliverDouble_delivered (h.trans (ha.2 g hx)) _ _

/-- A state with its single-step latch dropped. -/
theorem Kept.noStep {s t : State} (h : Kept Q s t) : Kept Q { s with tfAtStart := false } t.noStep := by
  refine ⟨?_, h.2.1, h.2.2⟩
  have := h.1
  unfold Frame State.noStep at *
  rw [this]

/-- Every delivery ends in a handler or in shutdown, Core kept. -/
theorem deliver_delivered {s : State} (h : Core Q s) (v : Byte) (ip : Word) (kind : EventKind) (code : Word) :
    Delivered Q s (deliver s v ip kind code) := by
  have hr : Kept Q s s.release := (Kept.refl h).onBus s.release_onBus (State.release_wf h.1) (·.release)
  have ha : Ends (Kept Q s) (attempt s.release v ip kind code (extOf kind v)) :=
    have e := attempt_kept h.release v ip kind code (extOf kind v)
    ⟨fun t q => hr.trans (e.1 t q), fun f q => hr.trans (e.2 f q)⟩
  have hb : ∀ {u : State}, Kept Q s u → u.tfAtStart = s.tfAtStart := fun hu => (congrArg State.tfAtStart hu.1 :)
  unfold deliver
  dsimp only
  cases hx : attempt s.release v ip kind code (extOf kind v) with
  | ok u => exact ⟨u, s.tfAtStart, hb (ha.1 u hx), ha.1 u hx, .inl rfl⟩
  | error f =>
    dsimp only
    split
    · exact ⟨f.st, s.tfAtStart, hb (ha.2 f hx), ha.2 f hx, .inr rfl⟩
    · split
      · exact deliverDouble_delivered (b := false) (ha.2 f hx).noStep _ _
      · exact deliverFault_delivered (b := false) (ha.2 f hx).noStep _

/-- After a delivery: Core; the mode as it was; no prefix; no LMSW waiting; inputs, pins and pending events as they were. -/
theorem Delivered.facts {s t : State} (h : Delivered Q s t) :
    Core Q t ∧ t.msw.pe = s.msw.pe ∧ t.pfx = {} ∧ t.lmsw = .clear ∧ t.stiShadow = s.stiShadow ∧ t.pins = s.pins ∧ t.inputs = s.inputs ∧
      t.nmiPending = s.nmiPending ∧ t.nmiMasked = s.nmiMasked ∧ t.int9Pending = s.int9Pending ∧
      t.inhibitNext = s.inhibitNext ∧ (t.run = .running ∨ t.run = .shutdown) ∧ t.freeCtr = s.freeCtr := by
  obtain ⟨u, b, -, ⟨hf, hc, hp⟩, h | h⟩ := h
  · subst h
    refine ⟨⟨hc.1, hc.2.1, fun e => absurd rfl e, hc.2.2.2⟩, hp, rfl, rfl, ?_, ?_, ?_, ?_, ?_, ?_, ?_, .inl rfl, ?_⟩
    · exact (congrArg State.stiShadow hf :)
    · exact (congrArg State.pins hf :)
    · exact (congrArg State.inputs hf :)
    · exact (congrArg State.nmiPending hf :)
    · exact (congrArg State.nmiMasked hf :)
    · exact (congrArg State.int9Pending hf :)
    · exact (congrArg State.inhibitNext hf :)
    · exact (congrArg State.freeCtr hf :)
  · subst h
    refine ⟨⟨hc.1, hc.2.1, fun e => absurd rfl e, hc.2.2.2⟩, hp, rfl, rfl, ?_, ?_, ?_, ?_, ?_, ?_, ?_, .inr rfl, ?_⟩
    · exact (congrArg State.stiShadow hf :)
    · exact (congrArg State.pins hf :)
    · exact (congrArg State.inputs hf :)
    · exact (congrArg State.nmiPending hf :)
    · exact (congrArg State.nmiMasked hf :)
    · exact (congrArg State.int9Pending hf :)
    · exact (congrArg State.inhibitNext hf :)
    · exact (congrArg State.freeCtr hf :)

/-! ### What no delivery touches, whatever the state -/

theorem deliverReal_within (s : State) (v : Byte) (retIp : Word) : Ends (Within s) (deliverReal s v retIp) := by
  have hk := Within.refl s
  refine .check hk.over fun _ _ => .check hk.over fun _ _ => .check hk.over fun t ht => .ok ?_
  have h := ((hk.pushAll ht).vectorWord (4 * v.toNat)).vectorWord (4 * v.toNat + 2)
  exact ⟨h.1.trans rfl, h.2⟩

theorem attempt_within (s : State) (v : Byte) (retIp : Word) (kind : EventKind) (code : Word) (ext : Bool) :
    Ends (Within s) (attempt s v retIp kind code ext) := by
  unfold attempt
  split
  · exact deliverProtected_within s v retIp kind _ ext
  · exact deliverReal_within s v retIp

/-- `t` is where a delivery from `s` ends: within the frame but for the single-step latch, then entered or shut down. -/
def Settled (s t : State) : Prop :=
  ∃ b u, Within { s with tfAtStart := b } u ∧ (t = u.entered ∨ t = u.shutDown)

theorem deliverDouble_settled {s t : State} {b : Bool} (h : Within { s with tfAtStart := b } t) (ip : Word) (ext : Bool) :
    Settled s (deliverDouble t ip ext) := by
  have ha := attempt_within t 8 ip .exception 0 ext
  unfold deliverDouble
  cases hx : attempt t 8 ip .exception 0 ext with
  | ok u => exact ⟨b, u, h.trans (ha.1 u hx), .inl rfl⟩
  | error g => exact ⟨b, g.st, h.trans (ha.2 g hx), .inr rfl⟩

theorem deliverFault_settled {s : State} {b : Bool} {f : Failure} (h : Within { s with tfAtStart := b } f.st) (ext : Bool) :
    Settled s (deliverFault f ext) := by
  have ha := attempt_within f.st f.trap.vector f.ip .exception f.trap.code ext
  unfold deliverFault
  cases hx : attempt f.st f.trap.vector f.ip .exception f.trap.code ext with
  | ok u => exact ⟨b, u, h.trans (ha.1 u hx), .inl rfl⟩
  | error g =>
    dsimp only
    split
    · exact ⟨b, g.st, h.trans (ha.2 g hx), .inr rfl⟩
    · exact deliverDouble_settled (h.trans (ha.2 g hx)) _ _

theorem Within.noStep {s t : State} (h : Within s t) : Within { s with tfAtStart := false } t.noStep := by
  refine ⟨?_, h.2⟩
  have := h.1
  unfold Frame State.noStep at *
  rw [this]

/-- Every delivery, from any state, ends in a handler or in shutdown and keeps what a transfer keeps. -/
theorem deliver_settled (s : State) (v : Byte) (ip : Word) (kind : EventKind) (code : Word) :
    Settled s (deliver s v ip kind code) := by
  have hr : Within s s.release := (Within.refl s).onBus s.release_onBus State.release_wf (·.release)
  have ha := attempt_within s.release v ip kind code (extOf kind v)
  unfold deliver
  dsimp only
  cases hx : attempt s.release v ip kind code (extOf kind v) with
  | ok u => exact ⟨s.tfAtStart, u, hr.trans (ha.1 u hx), .inl rfl⟩
  | error f =>
    have hf := hr.trans (ha.2 f hx)
    dsimp only
    split
    · exact ⟨s.tfAtStart, f.st, hf, .inr rfl⟩
    · split
      · exact deliverDouble_settled (b := false) hf.noStep _ _
      · exact deliverFault_settled (b := false) hf.noStep _

/-- A field outside the frame that neither `entered`, `shutDown` nor the single-step latch concerns. -/
theorem Settled.same {s t : State} (h : Settled s t) :
    t.nmiMasked = s.nmiMasked ∧ t.nmiPending = s.nmiPending ∧ t.int9Pending = s.int9Pending ∧ t.pins = s.pins ∧
      t.stiShadow = s.stiShadow ∧ t.inhibitNext = s.inhibitNext ∧ t.inputs = s.inputs ∧ t.platform = s.platform ∧
      t.freeCtr = s.freeCtr := by
  obtain ⟨b, u, ⟨hf, -⟩, rfl | rfl⟩ := h <;>
    exact ⟨(congrArg State.nmiMasked hf :), (congrArg State.nmiPending hf :), (congrArg State.int9Pending hf :),
      (congrArg State.pins hf :), (congrArg State.stiShadow hf :), (congrArg State.inhibitNext hf :),
      (congrArg State.inputs hf :), (congrArg State.platform hf :), (congrArg State.freeCtr hf :)⟩

section
variable (s : State) (v : Byte) (ip : Word) (kind : EventKind) (code : Word)
@[simp] theorem deliver_nmiMasked : (deliver s v ip kind code).nmiMasked = s.nmiMasked := (deliver_settled s v ip kind code).same.1
@[simp] theorem deliver_nmiPending : (deliver s v ip kind code).nmiPending = s.nmiPending := (deliver_settled s v ip kind code).same.2.1
@[simp] theorem deliver_int9Pending : (deliver s v ip kind code).int9Pending = s.int9Pending :=
  (deliver_settled s v ip kind code).same.2.2.1
@[simp] theorem deliver_pins : (deliver s v ip kind code).pins = s.pins := (deliver_settled s v ip kind code).same.2.2.2.1
@[simp] theorem deliver_stiShadow : (deliver s v ip kind code).stiShadow = s.stiShadow :=
  (deliver_settled s v ip kind code).same.2.2.2.2.1
end

/-! ### Far transfers -/

theorem switchTo_within {s u : State} (h : Within s u) (t : Word) (b : Desc) (kind : SwitchKind) :
    Ends (Within s) (switchTo u t b kind) :=
  .bind (switchTasks_within h t b kind u.nextIp false) fun _ hu => checkNewIp_within hu false

theorem jumpCode_within {s t u : State} (h : Within s t) {sel off : Word} {d : Desc} (hu : jumpCode t sel d off = .ok u) :
    Within s u := by
  obtain ⟨_, -, hu⟩ := bind_ok hu
  obtain ⟨_, -, hu⟩ := bind_ok hu
  cases hu
  exact h.commitCs _ _ _ _

theorem jumpGate_within {s t u : State} (h : Within s t) {sel : Word} {g : Desc} (hu : jumpGate t sel g = .ok u) :
    Within s u := by
  unfold jumpGate at hu
  dsimp only at hu
  obtain ⟨_, -, hu⟩ := bind_ok hu
  obtain ⟨_, -, hu⟩ := bind_ok hu
  obtain ⟨⟨c, v⟩, hc, hu⟩ := bind_ok hu
  obtain ⟨_, -, hu⟩ := bind_ok ((afterReads_ok_iff _ _ _).1 hu)
  obtain ⟨_, -, hu⟩ := bind_ok hu
  obtain ⟨_, -, hu⟩ := bind_ok hu
  obtain ⟨_, -, hu⟩ := bind_ok hu
  obtain ⟨_, -, hu⟩ := bind_ok hu
  cases hu
  exact (h.fetchOr hc).commitCs _ _ _ _

theorem taskGateTarget_within {s t u : State} (h : Within s t) {sel : Word} {g b : Desc}
    (hu : taskGateTarget t sel g = .ok (b, u)) : Within s u := by
  unfold taskGateTarget at hu
  dsimp only at hu
  obtain ⟨_, -, hu⟩ := bind_ok hu
  obtain ⟨_, -, hu⟩ := bind_ok hu
  obtain ⟨_, -, hu⟩ := bind_ok hu
  obtain ⟨⟨d, v⟩, hd, hu⟩ := bind_ok hu
  obtain ⟨_, -, hu⟩ := bind_ok ((afterReads_ok_iff _ _ _).1 hu)
  obtain ⟨_, -, hu⟩ := bind_ok hu
  cases hu
  exact h.fetchOr hd

/-- Core after a load of CS in Real Address Mode. -/
theorem Core.setCs_real {s : State} (h : Core Q s) (sel ip : Word) : Core Q { s with cs := realCache sel, ip := ip } :=
  h.setSeg_real .cs sel

/-- A far JMP, both ends. -/
theorem farJump_kept {s : State} (h : Core Q s) (sel off : Word) : Ends (Kept Q s) (farJump s sel off) := by
  unfold farJump
  cases hp : s.msw.pe with
  | false => exact .ok ⟨rfl, h.setCs_real sel off, rfl⟩
  | true =>
    have hw := Within.refl s
    have k : ∀ {r : Except Failure State}, Ends (Within s) r → Ends (Kept Q s) r := fun e =>
      ⟨fun t q => (e.1 t q).kept h hp, fun f q => (e.2 f q).kept h hp⟩
    refine k (.check hw.over fun _ _ => .check hw.over fun x hx => ?_)
    obtain ⟨d, u⟩ := x
    have hv := hw.fetchOr hx
    dsimp only
    split
    · exact .failIn hv.over fun u hu => jumpCode_within hv hu
    · split
      · exact .failIn hv.over fun u hu => jumpGate_within hv hu
      · split
        · exact .check hv.over fun b hb => switchTo_within (taskGateTarget_within hv hb) _ _ .jump
        · split
          · exact .check hv.over fun _ _ => switchTo_within hv sel d .jump
          · exact .failIn hv.over fun u hu => (nomatch hu)

theorem pushReturn_ok {s t : State} (h : pushReturn s = .ok t) : pushAll s [s.cs.sel, s.nextIp] = .ok t := by
  obtain ⟨_, -, hu⟩ := bind_ok h
  exact hu

theorem callSame_within {s t u : State} (h : Within s t) {sel off : Word} {d : Desc} (hu : callSame t sel d off = .ok u) :
    Within s u := by
  obtain ⟨_, -, hu⟩ := bind_ok hu
  obtain ⟨_, -, hu⟩ := bind_ok hu
  obtain ⟨t, ht, hu⟩ := bind_ok hu
  cases hu
  exact (h.pushAll (pushReturn_ok ht)).commitCs _ _ _ _

theorem callCode_within {s t u : State} (h : Within s t) {sel off : Word} {d : Desc} (hu : callCode t sel d off = .ok u) :
    Within s u := by
  obtain ⟨_, -, hu⟩ := bind_ok hu
  exact callSame_within h hu

/-- Reading the parameters keeps what a transfer keeps. -/
theorem paramWords_within {s t : State} (h : Within s t) (k n : Nat) : Within s (paramWords t k n).2 := by
  induction n generalizing t k with
  | zero => exact h
  | succ n ih => exact ih (h.stackGet k) (k + 2)

theorem callGate_within {s t u : State} (h : Within s t) {sel : Word} {g : Desc} (hu : callGate t sel g = .ok u) :
    Within s u := by
  unfold callGate at hu
  dsimp only at hu
  obtain ⟨_, -, hu⟩ := bind_ok hu
  obtain ⟨_, -, hu⟩ := bind_ok hu
  obtain ⟨⟨c, v⟩, hc, hu⟩ := bind_ok hu
  obtain ⟨_, -, hu⟩ := bind_ok ((afterReads_ok_iff _ _ _).1 hu)
  obtain ⟨_, -, hu⟩ := bind_ok hu
  obtain ⟨_, -, hu⟩ := bind_ok hu
  have hv := h.fetchOr hc
  split at hu
  · obtain ⟨k, hk, hu⟩ := bind_ok hu
    obtain ⟨_, -, hu⟩ := bind_ok ((afterReads_ok_iff _ _ _).1 hu)
    obtain ⟨_, -, hu⟩ := bind_ok hu
    obtain ⟨_, -, hu⟩ := bind_ok hu
    exact (((paramWords_within (innerStack_within hv hk) 0 _).commitSs _ _ _).commitCs _ _ _ _).pushAll hu
  · exact callSame_within hv hu

/-- A far CALL, both ends. -/
theorem farCall_kept {s : State} (h : Core Q s) (sel off : Word) : Ends (Kept Q s) (farCall s sel off) := by
  unfold farCall
  cases hp : s.msw.pe with
  | false =>
    refine .check (Kept.refl h).over fun t ht => .ok ?_
    have ht := pushReturn_ok ht
    obtain ⟨hf, hc, hpe⟩ := (Kept.refl h).pushAll ht
    exact ⟨hf.trans rfl, hc.setCs_real sel off, hpe⟩
  | true =>
    have hw := Within.refl s
    have k : ∀ {r : Except Failure State}, Ends (Within s) r → Ends (Kept Q s) r := fun e =>
      ⟨fun t q => (e.1 t q).kept h hp, fun f q => (e.2 f q).kept h hp⟩
    refine k (.check hw.over fun _ _ => .check hw.over fun x hx => ?_)
    obtain ⟨d, u⟩ := x
    have hv := hw.fetchOr hx
    dsimp only
    split
    · exact .failIn hv.over fun u hu => callCode_within hv hu
    · split
      · exact .failIn hv.over fun u hu => callGate_within hv hu
      · split
        · exact .check hv.over fun b hb => switchTo_within (taskGateTarget_within hv hb) _ _ .nest
        · split
          · exact .check hv.over fun _ _ => switchTo_within hv sel d .nest
          · exact .failIn hv.over fun u hu => (nomatch hu)

theorem returnCode_within {s t u : State} (h : Within s t) {sel : Word} {c : Desc} (hu : returnCode t sel = .ok (c, u)) :
    Within s u := by
  obtain ⟨_, -, hu⟩ := bind_ok hu
  obtain ⟨⟨d, v⟩, hd, hu⟩ := bind_ok hu
  obtain ⟨_, -, hu⟩ := bind_ok ((afterReads_ok_iff _ _ _).1 hu)
  obtain ⟨_, -, hu⟩ := bind_ok hu
  obtain ⟨_, -, hu⟩ := bind_ok hu
  obtain ⟨_, -, hu⟩ := bind_ok hu
  cases hu
  exact h.fetchOr hd

theorem returnStack_within {s t u : State} (h : Within s t) {sel : Word} {l : BitVec 2} {d : Desc}
    (hu : returnStack t sel l = .ok (d, u)) : Within s u := by
  obtain ⟨_, -, hu⟩ := bind_ok hu
  obtain ⟨⟨d, v⟩, hd, hu⟩ := bind_ok hu
  obtain ⟨_, -, hu⟩ := bind_ok ((afterReads_ok_iff _ _ _).1 hu)
  obtain ⟨_, -, hu⟩ := bind_ok hu
  obtain ⟨_, -, hu⟩ := bind_ok hu
  obtain ⟨_, -, hu⟩ := bind_ok hu
  cases hu
  exact h.fetchOr hd

theorem retSame_within {s t u : State} (h : Within s t) {sel release : Word} (hu : retSame t sel release = .ok u) :
    Within s u := by
  obtain ⟨⟨c, v⟩, hc, hu⟩ := bind_ok hu
  obtain ⟨_, -, hu⟩ := bind_ok ((afterReads_ok_iff _ _ _).1 hu)
  obtain ⟨_, -, hu⟩ := bind_ok ((afterReads_ok_iff _ _ _).1 hu)
  cases hu
  exact (((returnCode_within h hc).stackGet 0).commitCs _ _ _ _).setSp _

theorem retOuter_within {s t u : State} (h : Within s t) {sel release : Word} (hu : retOuter t sel release = .ok u) :
    Within s u := by
  obtain ⟨_, -, hu⟩ := bind_ok hu
  obtain ⟨⟨c, v⟩, hc, hu⟩ := bind_ok hu
  obtain ⟨⟨d, w⟩, hd, hu⟩ := bind_ok ((afterReads_ok_iff _ _ _).1 hu)
  obtain ⟨_, -, hu⟩ := bind_ok ((afterReads_ok_iff _ _ _).1 hu)
  have h1 := ((returnCode_within h hc).stackGet (4 + release.toNat)).stackGet (6 + release.toNat)
  have h2 := (returnStack_within h1 hd).stackGet 0
  obtain rfl := Except.ok.inj hu
  exact (((h2.commitCs _ _ _ _).commitSs _ _ _).nullIfInaccessible _).nullIfInaccessible _

theorem iretSame_within {s t u : State} (h : Within s t) {sel : Word} (hu : iretSame t sel = .ok u) : Within s u := by
  obtain ⟨_, -, hu⟩ := bind_ok hu
  obtain ⟨⟨c, v⟩, hc, hu⟩ := bind_ok hu
  obtain ⟨_, -, hu⟩ := bind_ok ((afterReads_ok_iff _ _ _).1 hu)
  have h1 := ((returnCode_within h hc).stackGet 0).stackGet 4
  obtain rfl := Except.ok.inj hu
  exact ((h1.commitCs _ _ _ _).setFlags _).setSp _

theorem iretOuter_within {s t u : State} (h : Within s t) {sel : Word} (hu : iretOuter t sel = .ok u) : Within s u := by
  obtain ⟨_, -, hu⟩ := bind_ok hu
  obtain ⟨⟨c, v⟩, hc, hu⟩ := bind_ok hu
  obtain ⟨⟨d, w⟩, hd, hu⟩ := bind_ok ((afterReads_ok_iff _ _ _).1 hu)
  obtain ⟨_, -, hu⟩ := bind_ok ((afterReads_ok_iff _ _ _).1 hu)
  have h1 := ((returnCode_within h hc).stackGet 6).stackGet 8
  have h2 := ((returnStack_within h1 hd).stackGet 0).stackGet 4
  obtain rfl := Except.ok.inj hu
  exact ((((h2.commitCs _ _ _ _).setFlags _).commitSs _ _ _).nullIfInaccessible _).nullIfInaccessible _

/-- Words read from the stack in Real Address Mode, then a load of CS and IP. -/
theorem Kept.stackGet {s t : State} (h : Kept Q s t) (k : Nat) : Kept Q s (t.stackGet k).2 :=
  h.onBus (t.stackGet_onBus k) (State.loadWord_wf h.2.1.1 _ _) (·.stackGet k)

theorem Kept.setCs_real {s t : State} (h : Kept Q s t) (sel ip : Word) : Kept Q s { t with cs := realCache sel, ip := ip } :=
  ⟨h.1.trans rfl, h.2.1.setCs_real sel ip, h.2.2⟩

theorem Kept.setSp {s t : State} (h : Kept Q s t) (v : Word) : Kept Q s (t.setSp v) := ⟨h.1.trans rfl, h.2⟩

theorem Kept.setFlags {s t : State} (h : Kept Q s t) {f : Flags} (h1 : f.iopl = t.flags.iopl) (h2 : f.nt = t.flags.nt) :
    Kept Q s (t.setFlags f) := ⟨h.1.trans rfl, h.2.1.setFlags h1 h2, h.2.2⟩

/-- A far RET, both ends. -/
theorem farReturn_kept {s : State} (h : Core Q s) (release : Word) : Ends (Kept Q s) (farReturn s release) := by
  refine .failIn (Kept.refl h).over fun u hu => ?_
  cases hp : s.msw.pe with
  | false =>
    simp only [hp] at hu
    obtain ⟨_, -, hu⟩ := bind_ok hu
    cases hu
    exact ((((Kept.refl h).stackGet 0).stackGet 2).setCs_real _ _).setSp _
  | true =>
    simp only [hp] at hu
    have hw := Within.refl s
    refine Within.kept h hp ?_
    obtain ⟨_, -, hu⟩ := bind_ok hu
    obtain ⟨_, -, hu⟩ := bind_ok ((afterReads_ok_iff _ _ _).1 hu)
    split at hu
    · exact retSame_within (hw.stackGet 2) hu
    · exact retOuter_within (hw.stackGet 2) hu

theorem iretReal_kept {s u : State} (h : Core Q s) (hu : iretReal s = .ok u) : Kept Q s u := by
  unfold iretReal at hu
  dsimp only at hu
  have hk := (((Kept.refl h).stackGet 0).stackGet 2).stackGet 4
  have hf : ((((s.stackGet 0).2.stackGet 2).2).stackGet 4).2.flags = s.flags := by simp only [State.stackGet_flags]
  generalize (s.stackGet 0).2.stackGet 2 = sel at hu hk hf
  generalize sel.2.stackGet 4 = image at hu hk hf
  obtain ⟨_, -, hu⟩ := bind_ok hu
  obtain rfl := Except.ok.inj hu
  exact ((hk.setCs_real _ _).setFlags (f := s.flags.restoreReal _) (congrArg Flags.iopl hf).symm (congrArg Flags.nt hf).symm).setSp _

/-- IRET, both ends, but for the NMI mask that a completed one clears. -/
theorem interruptReturn_kept {s : State} (h : Core Q s) :
    (∀ t, interruptReturn s = .ok t → ∃ u, Kept Q s u ∧ t = { u with nmiMasked := false }) ∧
      ∀ f, interruptReturn s = .error f → Kept Q s f.st := by
  have hr : Ends (Kept Q s) (if !s.msw.pe then failIn s (iretReal s) else if s.flags.nt then iretTask s else failIn s (iretStack s)) := by
    cases hp : s.msw.pe with
    | false =>
      exact .failIn (Kept.refl h).over fun u hu => iretReal_kept h hu
    | true =>
      have hw := Within.refl s
      have k : ∀ {r : Except Failure State}, Ends (Within s) r → Ends (Kept Q s) r := fun e =>
        ⟨fun t q => (e.1 t q).kept h hp, fun f q => (e.2 f q).kept h hp⟩
      refine k ?_
      rw [if_neg (show ¬ (!true) = true from Bool.false_ne_true)]
      split
      · have h1 : Within s (s.tssWord 0).2 := hw.fetch16 _ _
        refine .check hw.over fun _ _ => .check h1.over fun _ _ => .check h1.over fun _ _ => .check h1.over fun x hx => ?_
        have h2 := h1.fetchOr hx
        refine .check h2.over fun _ _ => .check h2.over fun _ _ => ?_
        exact .bind (switchTasks_within h2 _ _ .iret s.nextIp false) fun _ hu => checkNewIp_within hu false
      · refine .failIn hw.over fun u hu => ?_
        obtain ⟨_, -, hu⟩ := bind_ok hu
        obtain ⟨_, -, hu⟩ := bind_ok ((afterReads_ok_iff _ _ _).1 hu)
        split at hu
        · exact iretSame_within (hw.stackGet 2) hu
        · exact iretOuter_within (hw.stackGet 2) hu
  have e : interruptReturn s =
      ((if !s.msw.pe then failIn s (iretReal s) else if s.flags.nt then iretTask s else failIn s (iretStack s)) >>=
        fun t => .ok { t with nmiMasked := false }) := by
    unfold interruptReturn
    split
    · rfl
    · split <;> rfl
  rw [e]
  refine ⟨fun t ht => ?_, fun f hf => ?_⟩
  · obtain ⟨u, hu, ht⟩ := bind_ok ht
    cases ht
    exact ⟨u, hr.1 u hu, rfl⟩
  · generalize (if !s.msw.pe then failIn s (iretReal s) else if s.flags.nt then iretTask s else failIn s (iretStack s)) = r
      at hr hf
    cases r with
    | error g => cases hf; exact hr.2 f rfl
    | ok u => exact nomatch hf

end Sys2Proof.Machine
end

