-- ==== Sys2Proof/Tests/Slice0.lean ====
section
/-! SUPPORT. Tests: ill-formed terms that `Instr.wf` refuses, words written out from spec/30_encoding.md and what they decode to, one
step of instructions against the vectors of spec/95_test_vectors.md (the vector's id stands in each comment), and for every
statement that has hypotheses a concrete state and operands that meet them. -/

set_option linter.unusedSimpArgs false
set_option Elab.async false

open Sys2Proof Sys2Proof.Machine

namespace Sys2Proof.Tests

/-! ### Ill-formed terms are refused -/

/-- BP alone is no ModRM form (R211). -/
theorem test_wf_bp_alone_byte : (Instr.addEbRb (.mem (.based .bp .none)) .al).wf = false := by decide

/-- The same of a word operand, and with a displacement it is one. -/
theorem test_wf_bp_alone_word : (Instr.lgdt (.mem (.based .bp .none))).wf = false ∧
    (Instr.lgdt (.mem (.based .bp (.d8 0)))).wf = true := by decide

/-- The same of an ESC operand. -/
theorem test_wf_bp_alone_esc : (Instr.esc 7 7 (.mem (.based .bp .none))).wf = false := by decide

/-- XCHG AX,AX is NOP (R520). -/
theorem test_wf_xchg_ax : (Instr.xchgAxRw .ax).wf = false ∧ (Instr.xchgAxRw .bx).wf = true := by decide

/-- D4 0A is AAM, not an undefined opcode. -/
theorem test_wf_undef_d4 : (Instr.undefD4 false 0x0A).wf = false ∧ (Instr.undefD4 true 0x0A).wf = false ∧
    (Instr.undefD4 false 0x10).wf = true := by decide

/-- The second bytes after 0FH that have an instruction are not undefined opcodes. -/
theorem test_wf_undef_0f : (Instr.undef0F 0x00).wf = false ∧ (Instr.undef0F 0x01).wf = false ∧ (Instr.undef0F 0x02).wf = false ∧
    (Instr.undef0F 0x03).wf = false ∧ (Instr.undef0F 0x06).wf = false ∧ (Instr.undef0F 0x04).wf = true := by decide

/-! ### Words written out from the encodings (30_encoding.md R210 to R223, R240 to R248) -/

/-- 0000 0010, ModRM 00 011 110: ADD BL,[1234]. -/
theorem test_decode_add : decode [0x02, 0x1E, 0x34, 0x12] = .ok (.addRbEb .bl (.mem (.direct 0x1234)), []) := rfl

/-- 1000 0000, ModRM 11 011 011: SBB BL,20. -/
theorem test_decode_sbb : decode [0x80, 0xDB, 0x20] = .ok (.sbbEbDb (.reg .bl) 0x20, []) := rfl

/-- 0110 1011, ModRM 11 011 110: IMUL BX,SI,5. -/
theorem test_decode_imul : decode [0x6B, 0xDE, 0x05] = .ok (.imulRwEwDb .bx (.reg .si) 5, []) := rfl

/-- 1100 0000, ModRM 00 011 110: RCR [1234],3; displacement before immediate. -/
theorem test_decode_rcr : decode [0xC0, 0x1E, 0x34, 0x12, 0x03] = .ok (.rcrEbDb (.mem (.direct 0x1234)) 3, []) := rfl

/-- 1000 1011, ModRM 10 000 110: MOV AX,[BP+FFFE] (I3). -/
theorem test_decode_mov : decode [0x8B, 0x86, 0xFE, 0xFF] = .ok (.movRwEw .ax (.mem (.based .bp (.d16 0xFFFE))), []) := rfl

/-- 1100 0111, ModRM 00 000 110: MOV [1234],5678 (I5). -/
theorem test_decode_mov_imm :
    decode [0xC7, 0x06, 0x34, 0x12, 0x78, 0x56] = .ok (.movEwDw (.mem (.direct 0x1234)) 0x5678, []) := rfl

/-- 1100 0101, ModRM 00 110 110: LDS SI,[0050] (C25). -/
theorem test_decode_lds : decode [0xC5, 0x36, 0x50, 0x00] = .ok (.lds .si (.mem (.direct 0x0050)), []) := rfl

/-- 1010 0111: CMPSW. -/
theorem test_decode_cmpsw : decode [0xA7, 0x90] = .ok (.cmpsw, [0x90]) := rfl

/-- 1110 1010, offset then selector: JMP 5678:1234 (I16). -/
theorem test_decode_jmp_far : decode [0xEA, 0x34, 0x12, 0x78, 0x56] = .ok (.jmpCd 0x1234 0x5678, []) := rfl

/-- 1111 1111, ModRM 10 010 110: CALL [BP+0010]. -/
theorem test_decode_call : decode [0xFF, 0x96, 0x10, 0x00] = .ok (.callEw (.mem (.based .bp (.d16 0x0010))), []) := rfl

/-- 0110 0010, ModRM 00 011 110: BOUND BX,[0100] (F9). -/
theorem test_decode_bound : decode [0x62, 0x1E, 0x00, 0x01] = .ok (.bound .bx (.mem (.direct 0x0100)), []) := rfl

/-- 0000 1111, 0000 0010, ModRM 11 000 011: LAR AX,BX (G15). -/
theorem test_decode_lar : decode [0x0F, 0x02, 0xC3] = .ok (.lar .ax (.reg .bx), []) := rfl

/-- 1101 1101, ModRM 00 110 110: escape 101 110 with [002C] (S9). -/
theorem test_decode_esc : decode [0xDD, 0x36, 0x2C, 0x00] = .ok (.esc 5 6 (.mem (.direct 0x002C)), []) := rfl

/-- A prefix byte alone, and a byte that starts nothing more. -/
theorem test_decode_prefix : decode [0x26, 0xF3, 0xA5] = .ok (.segEs, [0xF3, 0xA5]) := rfl

/-- Bytes that run out are refused. -/
theorem test_decode_short : (decode [0xC7, 0x06, 0x34, 0x12, 0x78]).toOption = none := by decide

/-- The host's words: bits 15:8 are the second byte. -/
theorem test_table_word : decodeTableWord 16 0xD801 = some (.addEwRw (.reg .ax) .bx) := by decide

/-! ### Small states -/

/-- Memory cells from an address on, zero bytes unlisted. -/
def cells (a : Nat) : List Nat → Memory
  | [] => []
  | b :: bs => if b = 0 then cells (a + 1) bs else (a, BitVec.ofNat 8 b) :: cells (a + 1) bs

/-- Part 2's machine: Real Address Mode, CS = 0100, DS = 0200, SS = 0300, ES = 0400. -/
def real (g : Gpr) (m : Memory := []) : State :=
  { State.reset with
    gpr := g, ip := 0, nextIp := 0, cs := realCache 0x0100, ds := realCache 0x0200, ss := realCache 0x0300
    es := realCache 0x0400, mem := m }

/-- One step with the given bytes at CS:IP. -/
def ran (s : State) (code : List Nat) : Option State :=
  match step (s.placeBytes 0 (code.map fun b => BitVec.ofNat 8 b)) with
  | .next t => some t
  | .fault _ => none
  | .refused _ => none

/-- Group G's descriptors at 010000, and five more: 40 an available TSS at 021000, 48 an LDT, 50 conforming code, 58 code that can
only be executed, 60 writable data not present.  Past the limit of most states here: 68 a busy TSS at 021000, 70 a task gate to
0040. -/
def gdt : Memory :=
  cells 0x10008 [0xFF, 0xFF, 0, 0, 3, 0x9B, 0, 0] ++ cells 0x10010 [0xFF, 0x0F, 0, 0, 4, 0x92, 0, 0] ++
  cells 0x10018 [0xFF, 0xFF, 0, 0, 5, 0xFB, 0, 0] ++ cells 0x10020 [0xFF, 0xFF, 0, 0, 6, 0xF2, 0, 0] ++
  cells 0x10028 [0, 1, 8, 0, 2, 0xE4, 0, 0] ++ cells 0x10030 [0x2B, 0, 0, 0, 2, 0x83, 0, 0] ++
  cells 0x10038 [0xFF, 0x0F, 0, 0, 7, 0x12, 0, 0] ++ cells 0x10040 [0x2B, 0, 0, 0x10, 2, 0x81, 0, 0] ++
  cells 0x10048 [0x0F, 0, 0, 0x20, 2, 0x82, 0, 0] ++ cells 0x10050 [0xFF, 0xFF, 0, 0, 8, 0x9E, 0, 0] ++
  cells 0x10058 [0xFF, 0xFF, 0, 0, 9, 0x98, 0, 0] ++ cells 0x10068 [0x2B, 0, 0, 0x10, 2, 0x83, 0, 0] ++
  cells 0x10070 [0, 0, 0x40, 0, 0, 0xE5, 0, 0]

/-- Gates at 011000: 0A and 20 task gates to 0040, 0D a trap gate to 0008:0D00, 30 an interrupt gate to the conforming 0050:0000,
40 an interrupt gate of DPL 0 to 0008:FFFF. -/
def idt : Memory := cells 0x11050 [0, 0, 0x40, 0, 0, 0x85, 0, 0] ++ cells 0x11068 [0x00, 0x0D, 8, 0, 0, 0x87, 0, 0] ++
  cells 0x11100 [0, 0, 0x40, 0, 0, 0x85, 0, 0] ++ cells 0x11180 [0, 0, 0x50, 0, 0, 0x86, 0, 0] ++
  cells 0x11200 [0xFF, 0xFF, 8, 0, 0, 0x86, 0, 0]

/-- The current TSS at 020000, its level 0 stack 0010:0800; the other at 021000: IP 0, FLAGS 0002, SP 1000, CS 0008,
SS 0010. -/
def tss : Memory :=
  cells 0x20002 [0x00, 0x08, 0x10, 0] ++ cells 0x21010 [0x02, 0] ++ cells 0x2101A [0, 0x10] ++ cells 0x21024 [8, 0, 0x10, 0]

/-- Protected Mode at level 0 with those tables: CS = 0008, SS = DS = 0010, ES null, TR = 0030. -/
def prot (g : Gpr) (m : Memory := []) : State :=
  { State.reset with
    gpr := g, ip := 0, nextIp := 0
    msw := { pe := true, mp := false, em := false, ts := false }
    cs := { sel := 0x0008, ar := 0x9B, base := 0x030000, limit := 0xFFFF }
    ss := { sel := 0x0010, ar := 0x93, base := 0x040000, limit := 0x0FFF }
    ds := { sel := 0x0010, ar := 0x93, base := 0x040000, limit := 0x0FFF }
    es := { sel := 0x0000, ar := 0x00, base := 0, limit := 0 }
    gdtr := { base := 0x010000, limit := 0x5F }
    idtr := { base := 0x011000, limit := 0x0207 }
    tr := { sel := 0x0030, base := 0x020000, limit := 0x2B, valid := true }
    mem := gdt ++ idt ++ tss ++ m }

/-- The same machine at level 3: CS = 001B, SS = DS = 0023. -/
def user (g : Gpr) (m : Memory := []) : State :=
  { prot g m with
    cs := { sel := 0x001B, ar := 0xFB, base := 0x050000, limit := 0xFFFF }
    ss := { sel := 0x0023, ar := 0xF3, base := 0x060000, limit := 0xFFFF }
    ds := { sel := 0x0023, ar := 0xF3, base := 0x060000, limit := 0xFFFF } }

/-- The word at a physical address. -/
def at16 (t : State) (a : Nat) : Word := t.peek16 (BitVec.ofNat 24 a)

/-! ### Arithmetic, logic and shifts: one step (spec/95 A, B) -/

/-- A1: ADD 7FFF,0001. -/
theorem test_add : (ran (real { ax := 0x7FFF, bx := 1 }) [0x01, 0xD8]).map (fun t => (t.gpr.ax, t.flags.toWord, t.ip)) =
    some (0x8000, 0x0896, 2) := by decide +kernel

/-- A8: ADC FF,FF with CF. -/
theorem test_adc : (ran { real { ax := 0xFF, bx := 0xFF } with flags := { cf := true } } [0x10, 0xD8]).map
    (fun t => (t.gpr.ax, t.flags.toWord)) = some (0xFF, 0x0097) := by decide +kernel

/-- A14: SBB 8000,0000 with CF. -/
theorem test_sbb : (ran { real { ax := 0x8000 } with flags := { cf := true } } [0x19, 0xD8]).map
    (fun t => (t.gpr.ax, t.flags.toWord)) = some (0x7FFF, 0x0816) := by decide +kernel

/-- A16: CMP 7FFF,FFFF. -/
theorem test_cmp : (ran (real { ax := 0x7FFF, bx := 0xFFFF }) [0x39, 0xD8]).map (fun t => (t.gpr.ax, t.flags.toWord)) =
    some (0x7FFF, 0x0887) := by decide +kernel

/-- A20: INC FFFF keeps CF. -/
theorem test_inc : (ran { real { ax := 0xFFFF } with flags := { cf := true } } [0x40]).map
    (fun t => (t.gpr.ax, t.flags.toWord)) = some (0, 0x0057) := by decide +kernel

/-- A25: NEG 8000. -/
theorem test_neg : (ran (real { ax := 0x8000 }) [0xF7, 0xD8]).map (fun t => (t.gpr.ax, t.flags.toWord)) =
    some (0x8000, 0x0887) := by decide +kernel

/-- A29: MUL ignores the old AH. -/
theorem test_mul : (ran (real { ax := 0x12FF, bx := 0xFF }) [0xF6, 0xE3]).map (fun t => (t.gpr.ax, t.flags.cf, t.flags.ov)) =
    some (0xFE01, true, true) := by decide +kernel

/-- A31: IMUL of -128 by -1 needs the upper half. -/
theorem test_imul : (ran (real { ax := 0x80, bx := 0xFF }) [0xF6, 0xEB]).map (fun t => (t.gpr.ax, t.flags.cf, t.flags.ov)) =
    some (0x0080, true, true) := by decide +kernel

/-- A36: IMUL BX,SI,5 with SI = -1. -/
theorem test_imul_imm : (ran (real { si := 0xFFFF }) [0x6B, 0xDE, 0x05]).map (fun t => (t.gpr.bx, t.flags.cf)) =
    some (0xFFFB, false) := by decide +kernel

/-- A38: DIV BL at its largest quotient. -/
theorem test_div : (ran (real { ax := 0xFEFF, bx := 0xFF }) [0xF6, 0xF3]).map (fun t => t.gpr.ax) = some 0xFEFF := by
  decide +kernel

/-- A43: IDIV of 7 by -2. -/
theorem test_idiv : (ran (real { ax := 7, bx := 0xFE }) [0xF6, 0xFB]).map (fun t => t.gpr.ax) = some 0x01FD := by
  decide +kernel

/-- A46: IDIV of -32768 by -1 is a divide error; the frame names the IDIV. -/
theorem test_idiv_error : (ran (real { sp := 0x100, ax := 0x8000, dx := 0xFFFF, bx := 0xFFFF }) [0xF7, 0xFB]).map
    (fun t => (t.gpr.ax, t.gpr.dx, t.gpr.sp, at16 t 0x30FA, at16 t 0x30FC, at16 t 0x30FE)) =
    some (0x8000, 0xFFFF, 0xFA, 0, 0x0100, 0x0002) := by decide +kernel

/-- A48: CBW. -/
theorem test_cbw : (ran (real { ax := 0x1280 }) [0x98]).map (fun t => t.gpr.ax) = some 0xFF80 := by decide +kernel

/-- A50: CWD. -/
theorem test_cwd : (ran (real { ax := 0x8000, dx := 0x1234 }) [0x99]).map (fun t => t.gpr.dx) = some 0xFFFF := by
  decide +kernel

/-- A63: DAA after 99 + 99. -/
theorem test_daa : (ran { real { ax := 0x32 } with flags := { af := true, cf := true } } [0x27]).map
    (fun t => (t.gpr.ax, t.flags.cf, t.flags.af, t.flags.sf)) = some (0x98, true, true, true) := by decide +kernel

/-- A64: DAS. -/
theorem test_das : (ran { real { ax := 0xEE } with flags := { af := true, cf := true } } [0x2F]).map
    (fun t => (t.gpr.ax, t.flags.cf, t.flags.pf)) = some (0x88, true, true) := by decide +kernel

/-- A69: AAA with a low digit above 9. -/
theorem test_aaa : (ran (real { ax := 0xFA }) [0x37]).map (fun t => (t.gpr.ax, t.flags.cf, t.flags.af)) =
    some (0x0100, true, true) := by decide +kernel

/-- A71: AAS with nothing to adjust clears CF. -/
theorem test_aas : (ran { real { ax := 5 } with flags := { cf := true } } [0x3F]).map (fun t => (t.gpr.ax, t.flags.cf)) =
    some (5, false) := by decide +kernel

/-- A73: AAM. -/
theorem test_aam : (ran (real { ax := 0xFF }) [0xD4, 0x0A]).map (fun t => (t.gpr.ax, t.flags.pf)) = some (0x1905, true) := by
  decide +kernel

/-- A76: AAD. -/
theorem test_aad : (ran (real { ax := 0xFFFF }) [0xD5, 0x0A]).map (fun t => (t.gpr.ax, t.flags.sf, t.flags.zf)) =
    some (0x00F5, true, false) := by decide +kernel

/-- A77: AAM with another immediate is an undefined opcode. -/
theorem test_aam_undefined : (ran (real { sp := 0x100 } (cells 0x18 [0x00, 0x06])) [0xD4, 0x10]).map
    (fun t => (t.ip, t.cs.sel, at16 t 0x30FA)) = some (0x0600, 0, 0) := by decide +kernel

/-- B1: AND clears CF. -/
theorem test_and : (ran { real { ax := 0xF0F0, bx := 0x0FF0 } with flags := { cf := true } } [0x21, 0xD8]).map
    (fun t => (t.gpr.ax, t.flags.cf, t.flags.pf, t.flags.zf)) = some (0x00F0, false, true, false) := by decide +kernel

/-- B4: XOR. -/
theorem test_xor : (ran (real { ax := 0x8001, bx := 3 }) [0x31, 0xD8]).map (fun t => (t.gpr.ax, t.flags.sf, t.flags.pf)) =
    some (0x8002, true, false) := by decide +kernel

/-- B5: TEST writes no operand. -/
theorem test_test : (ran (real { bx := 0x20 }) [0xF6, 0xC3, 0x20]).map (fun t => (t.gpr.bx, t.flags.zf, t.flags.pf)) =
    some (0x20, false, false) := by decide +kernel

/-- B6: NOT keeps every flag. -/
theorem test_not : (ran { real { ax := 0x00FF } with flags := Flags.ofWord 0x08D7 } [0xF7, 0xD0]).map
    (fun t => (t.gpr.ax, t.flags.toWord)) = some (0xFF00, 0x08D7) := by decide +kernel

/-- B17: SAR by 16 is performed in full. -/
theorem test_sar : (ran (real { ax := 0x8000 }) [0xC1, 0xF8, 16]).map (fun t => (t.gpr.ax, t.flags.cf)) =
    some (0xFFFF, true) := by decide +kernel

/-- B23: SHL by 32 is a count of 0. -/
theorem test_shl_32 : (ran { real { ax := 0xFFFF } with flags := { cf := true } } [0xC1, 0xE0, 0x20]).map
    (fun t => (t.gpr.ax, t.flags.toWord)) = some (0xFFFF, 3) := by decide +kernel

/-- B15: SHR by 1. -/
theorem test_shr : (ran (real { ax := 0x81 }) [0xD0, 0xE8]).map (fun t => (t.gpr.ax, t.flags.cf, t.flags.ov)) =
    some (0x40, true, true) := by decide +kernel

/-- B27: ROR by 31. -/
theorem test_ror : (ran (real { ax := 0x8001 }) [0xC1, 0xC8, 31]).map (fun t => (t.gpr.ax, t.flags.cf)) =
    some (3, false) := by decide +kernel

/-- B28: RCL of a byte by 9 goes once around the nine-bit ring. -/
theorem test_rcl : (ran { real { ax := 0xA5 } with flags := { cf := true } } [0xC0, 0xD0, 9]).map
    (fun t => (t.gpr.ax, t.flags.cf)) = some (0xA5, true) := by decide +kernel

/-- B31: RCR of a byte by 3. -/
theorem test_rcr : (ran { real { ax := 0x9A } with flags := { cf := true } } [0xC0, 0xD8, 3]).map
    (fun t => (t.gpr.ax, t.flags.cf)) = some (0xB3, false) := by decide +kernel

/-- B25: ROL of a byte by 8. -/
theorem test_rol : (ran (real { ax := 0xA5 }) [0xC0, 0xC0, 8]).map (fun t => (t.gpr.ax, t.flags.cf)) =
    some (0xA5, true) := by decide +kernel

/-! ### Data transfer (spec/95 C) -/

/-- C1: MOV [BX+SI+2],AX. -/
theorem test_mov_store : (ran (real { ax := 0x1234, bx := 0x10, si := 4 }) [0x89, 0x40, 0x02]).map
    (fun t => (t.mem.read 0x2016, t.mem.read 0x2017)) = some (0x34, 0x12) := by decide +kernel

/-- C2: MOV AX,[BP+DI] wraps and goes through SS. -/
theorem test_mov_load : (ran (real { bp := 0x20, di := 0xFFF0 } (cells 0x3010 [0xFE, 0xCA])) [0x8B, 0x03]).map
    (fun t => t.gpr.ax) = some 0xCAFE := by decide +kernel

/-- C4: a DS override of a BP-based operand, its prefix already read. -/
theorem test_override : (ran { real { bp := 0x20 } (cells 0x2020 [0x11, 0x11] ++ cells 0x3020 [0x22, 0x22]) with
    pfx := { count := 1, seg := some .ds } } [0x8B, 0x46, 0x00]).map (fun t => (t.gpr.ax, t.ip)) = some (0x1111, 4) := by
  decide +kernel

/-- C6: LEA of a register is undefined. -/
theorem test_lea_undefined : (ran (real { sp := 0x100 } (cells 0x18 [0x00, 0x06])) [0x8D, 0xC0]).map (fun t => t.ip) =
    some 0x0600 := by decide +kernel

/-- C7: XCHG AX,BX. -/
theorem test_xchg : (ran (real { ax := 0x1111, bx := 0x2222 }) [0x93]).map (fun t => (t.gpr.ax, t.gpr.bx)) =
    some (0x2222, 0x1111) := by decide +kernel

/-- C8: PUSH SP stores the value before the push. -/
theorem test_push_sp : (ran (real { sp := 0x100 }) [0x54]).map (fun t => (t.gpr.sp, at16 t 0x30FE)) = some (0xFE, 0x100) := by
  decide +kernel

/-- C10: PUSH with SP = 1 shuts the machine down. -/
theorem test_push_shutdown : (ran (real { sp := 1 }) [0x50]).map (fun t => (t.run, t.gpr.sp)) = some (.shutdown, 1) := by
  decide +kernel

/-- C12: POP SP. -/
theorem test_pop_sp : (ran (real { sp := 0x100 } (cells 0x3100 [0x00, 0x02])) [0x5C]).map (fun t => t.gpr.sp) =
    some 0x0200 := by decide +kernel

/-- C15: PUSHA. -/
theorem test_pusha : (ran (real { ax := 1, cx := 2, dx := 3, bx := 4, sp := 0x100, bp := 5, si := 6, di := 7 }) [0x60]).map
    (fun t => (t.gpr.sp, at16 t 0x30FE, at16 t 0x30F6, at16 t 0x30F0)) = some (0xF0, 1, 0x100, 7) := by decide +kernel

/-- C17: POPA drops the word for SP. -/
theorem test_popa : (ran (real { sp := 0xF0 } (cells 0x30F0 [7, 0, 6, 0, 5, 0, 0, 1, 4, 0, 3, 0, 2, 0, 1, 0])) [0x61]).map
    (fun t => t.gpr) = some { ax := 1, cx := 2, dx := 3, bx := 4, sp := 0x100, bp := 5, si := 6, di := 7 } := by decide +kernel

/-- C19: POPF in Real Address Mode leaves IOPL and NT alone. -/
theorem test_popf : (ran (real { sp := 0x100 } (cells 0x3100 [0xFF, 0xFF])) [0x9D]).map (fun t => t.flags.toWord) =
    some 0x0FD7 := by decide +kernel

/-- C20: POPF at level 3 with IOPL 0 keeps IF. -/
theorem test_popf_user : (ran { user { sp := 0x100 } with flags := { ie := true } } [0x9D]).map (fun t => t.flags.toWord) =
    some 0x0202 := by decide +kernel

/-- C22: SAHF. -/
theorem test_sahf : (ran { real { ax := 0xFF00 } with flags := { ov := true } } [0x9E]).map (fun t => t.flags.toWord) =
    some 0x08D7 := by decide +kernel

/-- C21: LAHF. -/
theorem test_lahf : (ran { real {} with flags := Flags.ofWord 0x0FD7 } [0x9F]).map (fun t => t.gpr.ax) = some 0xD700 := by
  decide +kernel

/-- C24: XLAT wraps. -/
theorem test_xlat : (ran (real { ax := 0x80, bx := 0xFFC0 } (cells 0x2040 [0x99])) [0xD7]).map (fun t => t.gpr.ax) =
    some 0x99 := by decide +kernel

/-- C25: LDS SI,[0050]. -/
theorem test_lds : (ran (real {} (cells 0x2050 [0x34, 0x12, 0x00, 0x50])) [0xC5, 0x36, 0x50, 0x00]).map
    (fun t => (t.gpr.si, t.ds.sel, t.ds.base)) = some (0x1234, 0x5000, 0x050000) := by decide +kernel

/-- C28: IN AL,60. -/
theorem test_in : (ran { real {} with portFeed := [(0x60, 0x5A)] } [0xE4, 0x60]).map (fun t => (t.gpr.ax, t.portLog)) =
    some (0x5A, [.read8 0x60 0x5A]) := by decide +kernel

/-- C29: OUT DX,AX. -/
theorem test_out : (ran (real { ax := 0x1234, dx := 0x03F8 }) [0xEF]).map (fun t => t.portLog) =
    some [.write16 0x03F8 0x1234] := by decide +kernel

/-! ### Strings (spec/95 D) -/

/-- D2: MOVSB downward. -/
theorem test_movsb : (ran { real { si := 0x10, di := 0x20 } (cells 0x2010 [0x77]) with flags := { df := true } } [0xA4]).map
    (fun t => (t.gpr.si, t.gpr.di, t.mem.read 0x4020)) = some (0x0F, 0x1F, 0x77) := by decide +kernel

/-- D3: REP with CX = 0 does nothing, its prefix already read. -/
theorem test_rep_zero : (ran { real { si := 5 } with pfx := { count := 1, rep := some .repe } } [0xA4]).map
    (fun t => (t.gpr.si, t.gpr.cx, t.ip)) = some (5, 0, 2) := by decide +kernel

/-- D5: the iteration of REPE SCASB that meets the mismatch ends it. -/
theorem test_repe_scasb : (ran { real { cx := 3, di := 0x32 } (cells 0x4032 [7]) with pfx := { count := 1, rep := some .repe } }
    [0xAE]).map (fun t => (t.gpr.cx, t.gpr.di, t.ip, t.flags.toWord)) = some (2, 0x33, 2, 0x97) := by decide +kernel

/-- D8: an iteration of REPE CMPSW that is equal goes back to the prefix. -/
theorem test_repe_cmpsw : (ran { real { cx := 3, si := 0x10, di := 0x10 } with pfx := { count := 1, rep := some .repe } }
    [0xA7]).map (fun t => (t.gpr.cx, t.gpr.si, t.ip)) = some (2, 0x12, 0) := by decide +kernel

/-- D12: INSB reads the port DX names. -/
theorem test_insb : (ran { real { dx := 0x300 } with portFeed := [(0x300, 0x11)] } [0x6C]).map
    (fun t => (t.gpr.di, t.mem.read 0x4000)) = some (1, 0x11) := by decide +kernel

/-- LODSB keeps AH (R424). -/
theorem test_lodsb : (ran (real { ax := 0x1200, si := 0x10 } (cells 0x2010 [0x34])) [0xAC]).map
    (fun t => (t.gpr.ax, t.gpr.si)) = some (0x1234, 0x11) := by decide +kernel

/-! ### Control transfer (spec/95 E) -/

/-- E1: a short jump wraps. -/
theorem test_jmp : (ran { real {} with ip := 0xFFFE } [0xEB, 0x10]).map (fun t => t.ip) = some 0x10 := by decide +kernel

/-- E7: CALL 3000:0200. -/
theorem test_call_far : (ran { real { sp := 0x100 } with ip := 0x10 } [0x9A, 0x00, 0x02, 0x00, 0x30]).map
    (fun t => (at16 t 0x30FE, at16 t 0x30FC, t.cs.base, t.ip)) = some (0x0100, 0x0015, 0x030000, 0x0200) := by decide +kernel

/-- E8: RET 6. -/
theorem test_ret : (ran { real { sp := 0xFE } (cells 0x30FE [0x13, 0]) with ip := 0x10 } [0xC2, 6, 0]).map
    (fun t => (t.ip, t.gpr.sp)) = some (0x13, 0x106) := by decide +kernel

/-- E11: JL taken on SF ≠ OF. -/
theorem test_jl : (ran { real {} with ip := 0x10, flags := { sf := true } } [0x7C, 5]).map (fun t => t.ip) = some 0x17 := by
  decide +kernel

/-- E12: JA not taken. -/
theorem test_ja : (ran { real {} with ip := 0x10, flags := { cf := true, zf := true } } [0x77, 5]).map (fun t => t.ip) =
    some 0x12 := by decide +kernel

/-- E15: LOOPE counts down from 0. -/
theorem test_loope : (ran { real {} with ip := 0x10, flags := { zf := true } } [0xE1, 0xFE]).map (fun t => (t.ip, t.gpr.cx)) =
    some (0x10, 0xFFFF) := by decide +kernel

/-- E18: JCXZ. -/
theorem test_jcxz : (ran { real {} with ip := 0x10 } [0xE3, 0x10]).map (fun t => t.ip) = some 0x22 := by decide +kernel

/-- E19: INT 21. -/
theorem test_int : (ran { real { sp := 0x100 } (cells 0x84 [0x34, 0x12, 0x00, 0x20]) with
    ip := 0x10, flags := { ie := true } } [0xCD, 0x21]).map
    (fun t => (at16 t 0x30FE, at16 t 0x30FA, t.cs.sel, t.ip, t.flags.toWord)) =
    some (0x0202, 0x0012, 0x2000, 0x1234, 0x0002) := by decide +kernel

/-- E20: INTO leaves OF set. -/
theorem test_into : (ran { real { sp := 0x100 } (cells 0x10 [0, 1, 0, 0x30]) with ip := 0x10, flags := { ov := true } }
    [0xCE]).map (fun t => (t.cs.sel, t.ip, t.flags.toWord)) = some (0x3000, 0x0100, 0x0802) := by decide +kernel

/-- E22: IRET in Real Address Mode. -/
theorem test_iret : (ran { real { sp := 0xFA } (cells 0x30FA [0x02, 0x02, 0x00, 0x10, 0xFF, 0xFF]) with ip := 0x10 } [0xCF]).map
    (fun t => (t.ip, t.cs.sel, t.flags.toWord, t.gpr.sp)) = some (0x0202, 0x1000, 0x0FD7, 0x0100) := by decide +kernel

/-! ### Flag control and miscellaneous (spec/95 F) -/

/-- F2: STI. -/
theorem test_sti : (ran (real {}) [0xFB]).map (fun t => t.flags.toWord) = some 0x0202 := by decide +kernel

/-- F4: ENTER 8,3. -/
theorem test_enter : (ran (real { sp := 0x1000, bp := 0x1100 } (cells 0x40FC [0xBB, 0xBB, 0xAA, 0xAA])) [0xC8, 8, 0, 3]).map
    (fun t => (at16 t 0x3FFE, at16 t 0x3FFC, at16 t 0x3FFA, at16 t 0x3FF8, t.gpr.bp, t.gpr.sp)) =
    some (0x1100, 0xAAAA, 0xBBBB, 0x0FFE, 0x0FFE, 0x0FF0) := by decide +kernel

/-- F8: LEAVE. -/
theorem test_leave : (ran (real { sp := 0x0FF0, bp := 0x0FFE } (cells 0x3FFE [0x00, 0x11])) [0xC9]).map
    (fun t => (t.gpr.sp, t.gpr.bp)) = some (0x1000, 0x1100) := by decide +kernel

/-- F9: BOUND above its upper limit is interrupt 5 at the BOUND. -/
theorem test_bound : (ran (real { sp := 0x100, bx := 0x0A } (cells 0x14 [0, 5] ++ cells 0x2102 [9])) [0x62, 0x1E, 0, 1]).map
    (fun t => (t.ip, at16 t 0x30FA)) = some (0x0500, 0) := by decide +kernel

/-- F11: HLT. -/
theorem test_hlt : (ran (real {}) [0xF4]).map (fun t => (t.run, t.ip)) = some (.halted, 1) := by decide +kernel

/-- F13: WAIT with TS and MP is interrupt 7. -/
theorem test_wait : (ran { real { sp := 0x100 } (cells 0x1C [0, 7]) with
    msw := { pe := false, mp := true, em := false, ts := true } } [0x9B]).map (fun t => t.ip) = some 0x0700 := by decide +kernel

/-- S9's ESC with a memory operand is handed over. -/
theorem test_esc : (ran (real {}) [0xDD, 0x36, 0x2C, 0x00]).map (fun t => t.escLog) =
    some [.escape 0xDD 0x36 (some (.ds, 0x2C))] := by decide +kernel

/-! ### Protected Mode (spec/95 G) -/

/-- G1: MOV DS,AX marks the descriptor accessed. -/
theorem test_load_ds : (ran (user { ax := 0x0023 }) [0x8E, 0xD8]).map (fun t => (t.ds, t.mem.read 0x10025)) =
    some ({ sel := 0x0023, ar := 0xF3, base := 0x060000, limit := 0xFFFF }, 0xF3) := by decide +kernel

/-- G3: an RPL above DPL is #GP(0010), the error code on the handler's stack. -/
theorem test_load_ds_privilege : (ran (prot { ax := 0x0013, sp := 0x100 }) [0x8E, 0xD8]).map
    (fun t => (t.ip, t.gpr.sp, at16 t 0x400F8)) = some (0x0D00, 0xF8, 0x0010) := by decide +kernel

/-- G13: PUSH at the stack segment's last word. -/
theorem test_push_limit : (ran (prot { ax := 0xABCD, sp := 0x1000 }) [0x50]).map (fun t => (t.gpr.sp, at16 t 0x40FFE)) =
    some (0x0FFE, 0xABCD) := by decide +kernel

/-- G15: LAR gives the access byte as it was. -/
theorem test_lar : (ran (user { bx := 0x0023 }) [0x0F, 0x02, 0xC3]).map (fun t => (t.gpr.ax, t.flags.zf, t.mem.read 0x10025)) =
    some (0xF200, true, 0xF3) := by decide +kernel

/-- G18: LSL of a call gate clears ZF. -/
theorem test_lsl : (ran { user { bx := 0x002B } with flags := { zf := true } } [0x0F, 0x03, 0xC3]).map
    (fun t => (t.gpr.ax, t.flags.zf)) = some (0, false) := by decide +kernel

/-- G20: VERW of a code segment clears ZF. -/
theorem test_verw : (ran { user { bx := 0x001B } with flags := { zf := true } } [0x0F, 0x00, 0xEB]).map (fun t => t.flags.zf) =
    some false := by decide +kernel

/-- G21: ARPL. -/
theorem test_arpl : (ran (prot { bx := 0x20, ax := 0x1B }) [0x63, 0xC3]).map (fun t => (t.gpr.bx, t.flags.zf)) =
    some (0x23, true) := by decide +kernel

/-- G25: LMSW does not clear PE. -/
theorem test_lmsw : (ran { prot {} with msw := { pe := true, mp := true, em := true, ts := true } } [0x0F, 0x01, 0xF0]).map
    (fun t => t.msw) = some { pe := true, mp := false, em := false, ts := false } := by decide +kernel

/-- U13: LMSW that sets PE with CS bits 1:0 not zero is refused. -/
theorem test_lmsw_refused : exec (.lmsw (.reg .ax)) { real { ax := 1 } with cs := realCache 0x0101 } =
    .refused .protectedEntryWithNonzeroRpl := rfl

/-- R730: the same LMSW with a RESET in the middle of its operand's word at an odd address, and with one after a register's. -/
theorem test_lmsw_reset :
    (ran { real {} (cells 0x2101 [1]) with cs := realCache 0x0101, inputs := [{ reset := some 1 }] } [0x0F, 0x01, 0x36, 0x01, 0x01]).map
      (fun t => (t.ip, t.cs.sel, t.msw.pe)) = some (0xFFF0, 0xF000, false) ∧
    (ran { real { ax := 1 } with cs := realCache 0x0101, inputs := [{ reset := some 3 }] } [0x0F, 0x01, 0xF0]).map
      (fun t => (t.ip, t.cs.sel, t.msw.pe)) = some (0xFFF0, 0xF000, false) := by decide +kernel

/-- G28: LTR of a busy TSS is #GP(0030). -/
theorem test_ltr : (ran (prot { ax := 0x30, sp := 0x100 }) [0x0F, 0x00, 0xD8]).map (fun t => (t.ip, at16 t 0x400F8)) =
    some (0x0D00, 0x0030) := by decide +kernel

/-- G34: INT 40 at level 3 through a gate of DPL 0 is #GP(0202), taken on the level 0 stack. -/
theorem test_int_privilege : (ran (user { sp := 0x100 }) [0xCD, 0x40]).map
    (fun t => (t.ss.sel, t.gpr.sp, at16 t 0x407F4, t.cs.sel)) = some (0x0010, 0x07F4, 0x0202, 0x0008) := by decide +kernel

/-- JMP to an available TSS switches tasks (R570, R590). -/
theorem test_jump_task : (ran (prot {}) [0xEA, 0, 0, 0x40, 0]).map
    (fun t => (t.tr.sel, t.ss.sel, t.mem.read 0x10035, t.mem.read 0x10045, t.msw.ts)) =
    some (0x40, 0x10, 0x81, 0x83, true) := by decide +kernel

/-! ### Exceptions, interrupts, reset (spec/95 H, I, J) -/

/-- X1: a word at offset FFFF is interrupt 13 at the instruction. -/
theorem test_segment_end : (ran { real { bx := 0xFFFF, sp := 0x100 } (cells 0x34 [0, 0x0D]) with ip := 0x10 } [0x8B, 0x07]).map
    (fun t => (t.ip, at16 t 0x30FA)) = some (0x0D00, 0x10) := by decide +kernel

/-- X4: INTR at the boundary of a NOP. -/
theorem test_intr : (ran { real { sp := 0x100 } (cells 0x20 [0, 8]) with
    flags := { ie := true }, pins := { intr := some 8 } } [0x90]).map (fun t => (t.ip, at16 t 0x30FA, t.pins.intr)) =
    some (0x0800, 1, none) := by decide +kernel

/-- X6: the single-step trap follows INC. -/
theorem test_single_step : (ran { real { sp := 0x100 } (cells 4 [0, 1]) with ip := 0x10, flags := { tf := true } } [0x40]).map
    (fun t => (t.gpr.ax, t.ip, at16 t 0x30FA, at16 t 0x30FE, t.flags.tf)) = some (1, 0x0100, 0x11, 0x0102, false) := by
  decide +kernel

/-- I11: an eleventh byte is interrupt 13. -/
theorem test_eleven_bytes : (ran { real { sp := 0x100 } (cells 0x34 [0, 0x0D]) with pfx := { count := 5, seg := some .es } }
    [0xC7, 0x06, 0x34, 0x12, 0x78, 0x56]).map (fun t => (t.ip, at16 t 0x30FA)) = some (0x0D00, 0) := by decide +kernel

/-- J2: the first instruction after RESET, at FFFFF0, goes to the first megabyte. -/
theorem test_reset_jump : (ran State.reset [0xEA, 0x00, 0x01, 0x00, 0xF0]).map (fun t => (t.cs.sel, t.cs.base, t.ip)) =
    some (0xF000, 0x0F0000, 0x0100) := by decide +kernel

/-- The host's placement: the instruction of a word runs as the first after reset. -/
theorem test_first_word : (match step (State.reset.withFetchWord 16 0x5AB0) with
    | .next t => some (t.reg8 .al, t.ip)
    | .fault _ => none
    | .refused _ => none) = some (0x5A, 0xFFF2) := by decide +kernel

/-! ### Kinds of memory, devices, hazards (R85, R92, R266, R528, R742, R750, R753, R754, D36) -/

/-- Part 2's machine with one byte of another kind at DS:0100. -/
def odd (k : MemKind) (feed : List Host.Cell := []) (m : Memory := []) : State :=
  { real { ax := 0x1255 } m with bus := { map := [{ base := 0x2100, size := 1, kind := k }], feed := feed } }

/-- R754: a write to ROM completes and changes nothing. -/
theorem test_rom : (ran (odd .rom [] (cells 0x2100 [7])) [0xA2, 0x00, 0x01]).map (fun t => (t.ip, t.mem.read 0x2100)) =
    some (3, 7) := by decide +kernel

/-- R85: an increment of a device's byte reads it once and writes it once. -/
theorem test_device : (ran (odd .device [(0x2100, 0x41)]) [0xFE, 0x06, 0x00, 0x01]).map (fun t => (t.bus.feed, t.bus.log)) =
    some ([], [.read 0x2100 0x41, .write 0x2100 0x42]) := by decide +kernel

/-- R84, R140: another agent's byte lands between the two words of LDS, at a second word it has still to read. -/
theorem test_lds_between : (ran (withBetween (real {} (cells 0x2050 [0x34, 0x12, 0x00, 0x50])) [[], [.place 0x2050 9, .place 0x2053 0x60]])
    [0xC5, 0x36, 0x50, 0x00]).map (fun t => (t.gpr.si, t.ds.sel)) = some (0x1234, 0x6000) := by decide +kernel

/-- R84: the same between the two bytes of a word at an odd address, and of no aligned one. -/
theorem test_odd_word_between :
    ((ran (withBetween (real {}) [[], [.place 0x2101 1, .place 0x2102 2]]) [0xA1, 0x01, 0x01]).map fun t => t.gpr.ax) = some 0x0200 ∧
    ((ran (withBetween (real {}) [[], [.place 0x2102 1, .place 0x2103 2]]) [0xA1, 0x02, 0x01]).map fun t => t.gpr.ax) = some 0 := by
  decide +kernel

/-- R142: nothing comes between the read and the write of XCHG. -/
theorem test_xchg_locked : (ran (withBetween (real { ax := 7 }) [[], [.place 0x2100 5]]) [0x87, 0x06, 0x00, 0x01]).map
    (fun t => (t.gpr.ax, at16 t 0x2100, t.bus.between)) = some (0, 7, [[], [.place 0x2100 5]]) := by decide +kernel

/-- R444: between the iterations of a locked MOVS another agent is kept waiting; it acts when the last one has ended. -/
theorem test_locked_repeat :
    ((ran { real { cx := 1 } (cells 0x2000 [2]) with bus := { lock := .kept }, inputs := [{ acts := [.place 0x2000 9] }] } [0xF0]).map
      fun t => (t.bus.lock, t.bus.held, t.mem.read 0x2000)) = some (.active, [.place 0x2000 9], 2) ∧
    ((ran { real { cx := 1 } (cells 0x2000 [2]) with
        pfx := { count := 2, rep := some .repe, lock := true }, bus := { lock := .active, held := [.place 0x2000 9] } } [0xA4]).map
      fun t => (t.bus.lock, t.mem.read 0x4000, t.mem.read 0x2000)) = some (.free, 2, 9) := by decide +kernel

/-- R576, R85: a return outward reads its offset after SP and SS; an SS that fails leaves the device at SS:0FF6 unread. -/
theorem test_outer_return_order :
    (let s := fun (nss : Nat) => { prot { sp := 0x0FF6 } (cells 0x40FF8 [0x1B, 0, 0, 2, nss]) with
        bus := { map := [{ base := 0x40FF6, size := 2, kind := .device }] } };
      ((ran (s 0x10) [0xCB]).map fun t => (t.ip, t.bus.log)) = some (0x0D00, []) ∧
      ((ran (s 0x23) [0xCB]).map fun t => (t.cs.sel, t.bus.log)) = some (0x1B, [.read 0x40FF6 0, .read 0x40FF7 0])) := by
  decide +kernel

/-- R85: ADD to a device's word reads each byte once and writes it once. -/
theorem test_device_word : (ran { real { ax := 1 } with
      bus := { map := [{ base := 0x2100, size := 2, kind := .device }], feed := [(0x2101, 2), (0x2100, 0xFF)] } } [0x01, 0x06, 0x00, 0x01]).map
    (fun t => t.bus.log) = some [.read 0x2100 0xFF, .read 0x2101 2, .write 0x2100 0, .write 0x2101 3] := by decide +kernel

/-- R85, R663: the vector of INT 21 in a device's window is read once, byte by byte in rising order; the feed answers for the offset, the
device's content for the selector. -/
theorem test_device_vector : (ran { real { sp := 0x100 } (cells 0x86 [0, 0x20]) with
      bus := { map := [{ base := 0x84, size := 4, kind := .device }], feed := [(0x85, 0x12), (0x84, 0x34)] } } [0xCD, 0x21]).map
    (fun t => (t.ip, t.cs.sel, t.bus.feed, t.bus.log)) =
    some (0x1234, 0x2000, [], [.read 0x84 0x34, .read 0x85 0x12, .read 0x86 0, .read 0x87 0x20]) := by decide +kernel

/-- R113, R421: MOVS whose destination fails its check reads no device: interrupt 13, and nothing on the bus. -/
theorem test_movs_checks_first : (ran { odd .device [(0x2100, 1)] (cells 0x34 [0, 0x0D]) with
      gpr := { si := 0x100, di := 0xFFFF, sp := 0x100 } } [0xA5]).map (fun t => (t.ip, t.bus.feed, t.bus.log)) = some (0x0D00, [(0x2100, 1)], []) := by decide +kernel

/-- R113: POP to memory whose destination fails its check reads no device on the stack. -/
theorem test_pop_checks_first : (ran { real { sp := 0x100 } (cells 0x34 [0, 0x0D]) with
      bus := { map := [{ base := 0x3100, size := 2, kind := .device }] } } [0x8F, 0x06, 0xFF, 0xFF]).map
    (fun t => (t.ip, t.bus.log)) = some (0x0D00, []) := by decide +kernel

/-- R730, R731: a RESET after the first bus cycle of PUSHA, a whole word at an even address and a byte at an odd one. -/
theorem test_reset_in_pusha :
    (ran { real { ax := 0x0102, cx := 3, sp := 16 } with inputs := [{ reset := some 1 }] } [0x60]).map
      (fun t => (t.ip, at16 t 0x300E, at16 t 0x300C)) = some (0xFFF0, 0x0102, 0) ∧
    (ran { real { ax := 0x0102, cx := 3, sp := 17 } with inputs := [{ reset := some 1 }] } [0x60]).map
      (fun t => (t.ip, at16 t 0x300F, at16 t 0x300D)) = some (0xFFF0, 0x0002, 0) := by decide +kernel

/-- R96, R730: a RESET after the first of the two cycles of OUT to an odd port; the second byte is not written. -/
theorem test_reset_in_out : (ran { real { ax := 0x0102, dx := 0x301 } with inputs := [{ reset := some 1 }] } [0xEF]).map
    (fun t => (t.ip, t.portLog)) = some (0xFFF0, [.write8 0x301 2]) := by decide +kernel

/-- R112, R266: a PUSH through an SS that is not writable is #SS(0). -/
theorem test_push_read_only :
    push16 { prot { sp := 0x100 } with ss := { sel := 0x10, ar := 0x91, base := 0x040000, limit := 0x0FFF } } 1 = .error trapSs0 := rfl

/-- R528: BOUND's four bytes pass the limit with the last of them. -/
theorem test_bound_unit : (ran (prot { sp := 0x100 }) [0x62, 0x1E, 0xFD, 0x0F]).map (fun t => (t.ip, at16 t 0x400F8)) =
    some (0x0D00, 0) := by decide +kernel

/-- R742 step 7: the processor extension's answer in AX. -/
theorem test_esc_answer : (ran { real {} with npxReplies := [some 0x1234] } [0xDF, 0xE0]).map (fun t => (t.gpr.ax, t.npxReplies)) =
    some (0x1234, []) := by decide +kernel

/-- R750: after an LMSW that sets PE a far JMP misses the jump asked for, a near one is it. -/
theorem test_far_after_lmsw :
    ((ran { prot {} with lmsw := .justSet } [0xEA, 0, 0, 8, 0]).map fun t => t.hazardLmswNoJmp) = some true ∧
    ((ran { prot {} with lmsw := .justSet } [0xEB, 0]).map fun t => t.hazardLmswNoJmp) = some false := by decide +kernel

/-- R753: a byte stored since the last transfer and then run. -/
theorem test_stale_code :
    ((ran (odd .ram) [0xA2, 0x00, 0x01]).map fun t => t.storedSince) = some [0x2100] ∧
    ((ran { real {} with storedSince := [0x1001] } [0x40, 0x90]).map fun t => t.hazardStaleCode) = some false ∧
    ((ran { real {} with storedSince := [0x1001] } [0xB0, 0x07]).map fun t => t.hazardStaleCode) = some true := by decide +kernel

/-- D36: with `stiDelay`, an NMI through a trap gate at the boundary of an STI lets no INTR in behind it. -/
theorem test_sti_shadow : (ran { prot { sp := 0x100 } with
    idtr := { base := 0x011058, limit := 0x0207 }, platform := { stiDelay := true }, nmiPending := true, pins := { intr := some 2 } }
    [0xFB]).map (fun t => (t.ip, t.flags.ie, t.pins.intr)) = some (0x0D00, true, some 2) := by decide +kernel

/-! ### Hypotheses that hold somewhere

One theorem for each statement that has hypotheses, one conjunct for each of its cases: `real` and `prot` states with the operand at
the boundary of what the hypotheses allow. -/

/-- StepKeepsInv: both modes, the prefix count at its limit. -/
theorem witness_StepKeepsInv :
    (let s := real { sp := 0x100 } (cells 0x1000 [0x90]);
      Invariant s ∧ ∃ t, step s = .next t) ∧
    (let s := { prot { sp := 0x100 } with pfx := { count := 10, seg := some .es } };
      Invariant s ∧ ∃ t, step s = .next t) := by
  refine ⟨⟨?_, _, rfl⟩, ⟨?_, _, rfl⟩⟩
  · refine ⟨by decide +kernel, fun _ => by decide +kernel, fun _ r => ?_, by decide +kernel, fun _ => rfl, fun h => absurd rfl h, rfl⟩
    cases r <;> exact ⟨rfl, rfl, .inl rfl⟩
  · refine ⟨by decide +kernel, fun h => ?_, fun h => ?_, by decide +kernel, fun h => ?_, fun _ => rfl, rfl⟩
    · cases h
    · cases h
    · rcases h with h | h
      · cases h
      · exact absurd rfl h

/-- StepRunsDecoded: without inputs, with one, a prefix still being read, and a boundary at which nothing happens. -/
theorem witness_StepRunsDecoded :
    (Instr.wf .nop = true ∧ (real {} (cells 0x1000 [0x90])).run = .running ∧ (real {} (cells 0x1000 [0x90])).inputs = [] ∧
      decode (real {} (cells 0x1000 [0x90])).fetched = .ok (.nop, [0, 0, 0, 0, 0])) ∧
    (({ real {} (cells 0x1000 [0x90]) with inputs := [{ nmi := true }] } : State).inputs = [{ nmi := true }] ∧
      ({ nmi := true } : Signals).reset = none ∧
      decode (({ real {} (cells 0x1000 [0x90]) with inputs := [{ nmi := true }] } : State).accept { nmi := true } []).fetched =
        .ok (.nop, [0, 0, 0, 0, 0])) ∧
    (State.reset.pfx.count = 0 ∧ State.reset.run = .running ∧ State.reset.inhibitNext = false ∧ State.reset.tfAtStart = false ∧
      State.reset.nmiPending = false ∧ State.reset.int9Pending = false ∧ State.reset.pins.intr = none ∧
      State.reset.lmsw = .clear ∧ State.reset.bus.lock ≠ .active) ∧
    ({ real {} with pfx := { count := 1, lock := true } } : State).pfx.count ≠ 0 :=
  ⟨⟨rfl, rfl, rfl, rfl⟩, ⟨rfl, rfl, rfl⟩, ⟨rfl, rfl, rfl, rfl, rfl, rfl, rfl, rfl, by decide⟩, by decide⟩

/-- DecodeEncode: the longest form. -/
theorem witness_DecodeEncode : (Instr.movEwDw (.mem (.based .bp (.d16 0xFFFF))) 0x8000).wf = true := by decide

/-- DecodeTakesBytes: six bytes, and one. -/
theorem witness_DecodeTakesBytes :
    decode [0xC7, 0x06, 0x34, 0x12, 0x78, 0x56, 0x90] = .ok (.movEwDw (.mem (.direct 0x1234)) 0x5678, [0x90]) ∧
    decode [0x90] = .ok (.nop, []) := ⟨rfl, rfl⟩

/-- UndefinedOpcodes: an undefined opcode, a Protected Mode instruction in Real Address Mode; vector 6 the table's last. -/
theorem witness_UndefinedOpcodes :
    undefinedForms (.undef0F 0xFF) = true ∧ undefinedForms (.lea .ax (.reg .ax)) = true ∧
    (protectedOnlyForms (.verr (.reg .ax)) = true ∧ (real {}).msw.pe = false) ∧
    ({ real { sp := 6 } with idtr := { base := 0, limit := 27 } } : State).mem.wf = true ∧
    RealEntryOk { real { sp := 6 } with idtr := { base := 0, limit := 27 } } 6 := by
  simp only [LockAllowed, IoAllowed, Privileged, Accessible, InMemory, Alone, Reachable, WordOk, StackRoom, StackHolds, PointerOk,
    Rm8Ok, Rm16Ok, NearOk, RealEntryOk]
  and_intros <;> decide +kernel

/-- Arithmetic, bytes: the last byte of a segment in Real Address Mode, the last byte below the limit in Protected Mode. -/
theorem witness_Arithmetic_bytes :
    (LockAllowed (real {}) ∧ (real {}).mem.wf = true ∧ Form8.Ok (real {}) ArithOp.add.access (.toRm (.mem (.direct 0xFFFF)) .ah)) ∧
    (LockAllowed (prot {}) ∧ (prot {}).mem.wf = true ∧ Form8.Ok (prot {}) ArithOp.cmp.access (.imm (.mem (.direct 0x0FFF)) 1)) := by
  simp only [LockAllowed, IoAllowed, Privileged, Accessible, InMemory, Alone, Reachable, WordOk, StackRoom, StackHolds, PointerOk,
    Rm8Ok, Rm16Ok, NearOk, RealEntryOk, Form8.Ok, ArithOp.access]
  and_intros <;> decide +kernel

/-- Arithmetic, words: the last word of a segment. -/
theorem witness_Arithmetic_words :
    (LockAllowed (real {}) ∧ (real {}).mem.wf = true ∧
      ArithForm16.Ok (real {}) ArithOp.sbb.access (.sext (.mem (.direct 0xFFFE)) 0x80)) ∧
    (LockAllowed (prot {}) ∧ (prot {}).mem.wf = true ∧
      ArithForm16.Ok (prot {}) ArithOp.adc.access (.plain (.toReg .sp (.mem (.direct 0x0FFE))))) := by
  simp only [LockAllowed, IoAllowed, Privileged, Accessible, InMemory, Alone, Reachable, WordOk, StackRoom, StackHolds, PointerOk,
    Rm8Ok, Rm16Ok, NearOk, RealEntryOk, ArithForm16.Ok, Form16.Ok, ArithOp.access]
  and_intros <;> decide +kernel

/-- Logic, bytes and words. -/
theorem witness_Logic :
    (LockAllowed (real {}) ∧ (real {}).mem.wf = true ∧ Form8.Ok (real {}) .write (.toRm (.mem (.direct 0xFFFF)) .bh)) ∧
    (LockAllowed (prot {}) ∧ (prot {}).mem.wf = true ∧ Form16.Ok (prot {}) .write (.imm (.mem (.direct 0x0FFE)) 1)) := by
  simp only [LockAllowed, IoAllowed, Privileged, Accessible, InMemory, Alone, Reachable, WordOk, StackRoom, StackHolds, PointerOk,
    Rm8Ok, Rm16Ok, NearOk, RealEntryOk, Form8.Ok, Form16.Ok]
  and_intros <;> decide +kernel

/-- Logic, TEST: bytes, and words through a segment that can only be read. -/
theorem witness_Logic_test :
    (LockAllowed (real {}) ∧ Rm8Ok (real {}) (TestForm8.rm (.mem (.direct 0xFFFF)) .al).dest .read) ∧
    (LockAllowed { prot {} with pfx := { seg := some .cs } } ∧
      Rm16Ok { prot {} with pfx := { seg := some .cs } } (TestForm16.imm (.mem (.direct 0xFFFE)) 1).dest .read) := by
  simp only [LockAllowed, IoAllowed, Privileged, Accessible, InMemory, Alone, Reachable, WordOk, StackRoom, StackHolds, PointerOk,
    Rm8Ok, Rm16Ok, NearOk, RealEntryOk, TestForm8.dest, TestForm16.dest]
  and_intros <;> decide +kernel

/-- Unary, bytes and words. -/
theorem witness_Unary :
    (LockAllowed (real {}) ∧ (real {}).mem.wf = true ∧ Rm8Ok (real {}) (.mem (.direct 0xFFFF)) .write) ∧
    (LockAllowed (prot {}) ∧ (prot {}).mem.wf = true ∧ Rm16Ok (prot {}) (UnaryForm16.rm .neg (.mem (.direct 0x0FFE))).dest .write) := by
  simp only [LockAllowed, IoAllowed, Privileged, Accessible, InMemory, Alone, Reachable, WordOk, StackRoom, StackHolds, PointerOk,
    Rm8Ok, Rm16Ok, NearOk, RealEntryOk, UnaryForm16.dest]
  and_intros <;> decide +kernel

/-- OperandFault: a byte just past the limit; a word at offset FFFF; a write to code; TEST, one operand, a shift and moves past the
limit or through an invalid segment; LOCK at level 3 before WAIT and before an ESC. -/
theorem witness_OperandFault :
    (LockAllowed (prot {}) ∧ (Form8.toRm (.mem (.direct 0x1000)) .al).memory ArithOp.add.access = some (.direct 0x1000, .write) ∧
      ¬ Accessible (prot {}) ((prot {}).memSeg (.direct 0x1000)) ((prot {}).effOffset (.direct 0x1000)) 1 .write) ∧
    (LockAllowed (real {}) ∧
      (ArithForm16.plain (.toReg .ax (.mem (.direct 0xFFFF)))).memory ArithOp.add.access = some (.direct 0xFFFF, .read) ∧
      (ArithForm16.sext (.mem (.direct 0xFFFF)) 1).memory ArithOp.cmp.access = some (.direct 0xFFFF, .read) ∧
      ¬ Accessible (real {}) ((real {}).memSeg (.direct 0xFFFF)) ((real {}).effOffset (.direct 0xFFFF)) 2 .read) ∧
    (let s := { prot {} with pfx := { seg := some .cs } };
      LockAllowed s ∧ (Form16.imm (.mem (.direct 0)) 1).memory .write = some (.direct 0, .write) ∧
      (MoveForm16.msw (.mem (.direct 0))).memory = some (.direct 0, .write) ∧
      (MoveForm8.accStore 0).memory = some (.direct 0, .write) ∧
      ¬ Accessible s (s.memSeg (.direct 0)) (s.effOffset (.direct 0)) 2 .write ∧
      ¬ Accessible s (s.memSeg (.direct 0)) (s.effOffset (.direct 0)) 1 .write) ∧
    (let s := { prot {} with pfx := { seg := some .es } };
      LockAllowed s ∧ (TestForm8.rm (.mem (.direct 0)) .al).dest = .mem (.direct 0) ∧
      (TestForm16.imm (.mem (.direct 0)) 1).dest = .mem (.direct 0) ∧
      ¬ Accessible s (s.memSeg (.direct 0)) (s.effOffset (.direct 0)) 1 .read ∧
      ¬ Accessible s (s.memSeg (.direct 0)) (s.effOffset (.direct 0)) 2 .read) ∧
    (let s := prot { bp := 0x1000 };
      LockAllowed s ∧ (UnaryForm16.rm .neg (.mem (.based .bp (.d8 0)))).dest = .mem (.based .bp (.d8 0)) ∧
      ¬ Accessible s (s.memSeg (.based .bp (.d8 0))) (s.effOffset (.based .bp (.d8 0))) 1 .write ∧
      ¬ Accessible s (s.memSeg (.based .bp (.d8 0))) (s.effOffset (.based .bp (.d8 0))) 2 .write) ∧
    (let s := { user {} with pfx := { count := 1, lock := true } };
      ¬ LockAllowed s ∧ LockChecked s .wait ∧ LockChecked s (.esc 0 0 (.reg 0)) ∧ LockChecked s (.addEwRw (.reg .ax) .bx)) := by
  refine ⟨?_, ?_, ?_, ?_, ?_, ?_, ⟨rfl, rfl, fun _ => ⟨.inl rfl, rfl, .inr rfl⟩, fun _ _ _ h => nomatch h⟩,
    ⟨rfl, rfl, fun h => (nomatch h), fun _ _ _ _ => ⟨rfl, rfl, fun h => absurd h (by decide), fun h => absurd h (by decide)⟩⟩,
    ⟨rfl, rfl, fun h => (nomatch h), fun _ _ _ h => nomatch h⟩⟩ <;>
    simp only [LockAllowed, IoAllowed, Privileged, Accessible, InMemory, Alone, Reachable, WordOk, StackRoom, StackHolds, PointerOk,
    Rm8Ok, Rm16Ok, NearOk, RealEntryOk] <;>
    and_intros <;> decide +kernel

/-- OperandFault, the other instructions: one byte past the limit, at each word of an operand of several; the level, the stack word
and the mode that come first. -/
theorem witness_OperandFault_more :
    (let s := prot { sp := 0x0FFE, bx := 0x0FF0, ax := 0x10 };
      LockAllowed s ∧ s.msw.pe = true ∧ Privileged s ∧ WordsAbove s 1 ∧
        ¬ Accessible s (s.memSeg (.direct 0x1000)) (s.effOffset (.direct 0x1000)) 1 .read ∧
        ¬ Accessible s (s.memSeg (.direct 0x1000)) (s.effOffset (.direct 0x1000)) 1 .write ∧
        ¬ Accessible s (s.memSeg (.direct 0x0FFF)) (s.effOffset (.direct 0x0FFF)) 2 .read ∧
        ¬ Accessible s (s.memSeg (.direct 0x0FFF)) (s.effOffset (.direct 0x0FFF)) 2 .write ∧
        ¬ PointerOpen s (.direct 0x0FFD) ∧ ¬ PointerOpen s (.direct 0x0FFF) ∧ PointerOpen s (.direct 0x0FFB) ∧
        ¬ Accessible s (s.memSeg (.direct 0x0FFB)) (s.effOffset (.direct 0x0FFB) + 4) 2 .read ∧
        ¬ Accessible s (s.memSeg (.direct 0x0FFB)) (s.effOffset (.direct 0x0FFB) + 4) 2 .write ∧
        ¬ Accessible s (sourceSeg s) (BitVec.ofNat 16 (s.gpr.bx.toNat + s.gpr.ax.toNat % 256)) 1 .read) ∧
    ReadForm16.Allowed (prot {}) .ltr ∧ ReadForm16.Allowed (user {}) (.lar .ax) ∧ ReadForm16.Allowed (real {}) .lmsw ∧
    ReadForm16.Allowed (real {}) .idiv := by
  simp only [LockAllowed, IoAllowed, Privileged, Accessible, InMemory, Alone, Reachable, WordOk, StackRoom, StackHolds, PointerOk,
    Rm8Ok, Rm16Ok, NearOk, RealEntryOk, PointerOpen, WordsAbove, ReadForm16.Allowed]
  and_intros <;> decide +kernel

/-- StackAndStringFault, the plain stack instructions: one byte too few below SP, or above it, at each count of words; a source that a
device answers. -/
theorem witness_StackAndStringFault_stack :
    (let s := real { sp := 1 };
      LockAllowed s ∧ ¬ RoomBelow s 1 ∧ PushForm.Open s (.rm (.mem (.direct 0xFFFE))) ∧ Rm16Open s (.mem (.direct 0xFFFE)) .read) ∧
    (let s := { odd .device with gpr := { sp := 1 } };
      LockAllowed s ∧ ¬ RoomBelow s 1 ∧ PushForm.Open s (.rm (.mem (.direct 0x100))) ∧
        s.kindAt (s.segAddr (s.memSeg (.direct 0x100)) (s.effOffset (.direct 0x100)) 0).toNat = .device) ∧
    (LockAllowed (real { sp := 15 }) ∧ ¬ RoomBelow (real { sp := 15 }) 8) ∧
    (LockAllowed (prot { sp := 0x0FFF }) ∧ ¬ WordsAbove (prot { sp := 0x0FFF }) 1) ∧
    (LockAllowed (prot { sp := 0x0FF1 }) ∧ ¬ WordsAbove (prot { sp := 0x0FF1 }) 8) ∧
    (LockAllowed (real { sp := 0xFFFD }) ∧ (real { sp := 0xFFFD }).msw.pe = false ∧ ¬ WordsAbove (real { sp := 0xFFFD }) 2) ∧
    (LockAllowed (real { sp := 0xFFFB }) ∧ (real { sp := 0xFFFB }).msw.pe = false ∧ ¬ WordsAbove (real { sp := 0xFFFB }) 3) ∧
    (LockAllowed (real { bp := 0xFFFF }) ∧ ¬ Accessible (real { bp := 0xFFFF }) .ss 0xFFFF 2 .read) := by
  simp only [LockAllowed, IoAllowed, Privileged, Accessible, InMemory, Alone, Reachable, WordOk, StackRoom, StackHolds, PointerOk,
    Rm8Ok, Rm16Ok, NearOk, RealEntryOk, RoomBelow, WordsAbove, PushForm.Open, Rm16Open]
  and_intros <;> decide +kernel

/-- StackAndStringFault, the far transfers and ENTER: the selector's word, the frame of IRET to the same level and to an outer one, the
words of RETF, the frame of a far CALL in either mode; the words, the display and the storage of ENTER. -/
theorem witness_StackAndStringFault_far :
    (let s := prot { sp := 0x0FFD };
      LockAllowed s ∧ s.msw.pe = true ∧ s.flags.nt = false ∧ ¬ Accessible s .ss (s.gpr.sp + 2) 2 .read) ∧
    (let s := prot { sp := 0x0FFB } (cells 0x40FFD [8]);
      LockAllowed s ∧ s.msw.pe = true ∧ s.flags.nt = false ∧ WordOk s .ss (s.gpr.sp + 2) .read ∧
        8 = s.segWord .ss (s.gpr.sp + 2) ∧ rpl 8 = s.cpl ∧ ¬ WordsAbove s 3) ∧
    (let s := prot { sp := 0x0FF7 } (cells 0x40FF9 [0x1B]);
      LockAllowed s ∧ s.msw.pe = true ∧ s.flags.nt = false ∧ WordOk s .ss (s.gpr.sp + 2) .read ∧
        0x1B = s.segWord .ss (s.gpr.sp + 2) ∧ s.cpl < rpl 0x1B ∧ ¬ WordsAbove s 5 ∧
        ¬ Accessible s .ss s.gpr.sp (8 + (2 : Word).toNat) .read) ∧
    (let s := user { sp := 0xFFFF } (cells 0x60001 [0x1B]);
      let d := s.readDesc 0x010018;
      LockAllowed s ∧ s.msw.pe = true ∧ WordOk s .ss (s.gpr.sp + 2) .read ∧ 0x1B = s.segWord .ss (s.gpr.sp + 2) ∧
        rpl 0x1B = s.cpl ∧ s.fetchDesc 0x1B = some d ∧ CodeAt d s.cpl ∧ ¬ WordsAbove s 1) ∧
    (LockAllowed (real { sp := 3 }) ∧ ¬ RoomBelow (real { sp := 3 }) 2 ∧ (real { sp := 3 }).msw.pe = false ∧
      PointerOpen (real { sp := 3 }) (.direct 0xFFFC)) ∧
    (let s := prot { sp := 3 };
      let d := s.readDesc 0x010008;
      LockAllowed s ∧ ¬ RoomBelow s 2 ∧ s.msw.pe = true ∧ Alone s ∧ s.fetchDesc 8 = some d ∧ CodeAt d s.cpl ∧ rpl 8 ≤ s.cpl) ∧
    (let s := real { sp := 3 };
      LockAllowed s ∧ 1 = (0x21 : Byte).toNat % 32 ∧ ¬ RoomBelow s 2) ∧
    (let s := real { sp := 0x100, bp := 1 };
      LockAllowed s ∧ 2 = (2 : Byte).toNat % 32 ∧ ¬ Accessible s .ss (s.gpr.bp - BitVec.ofNat 16 (2 * 1)) 2 .read) ∧
    (let s := prot { sp := 0x10 };
      LockAllowed s ∧ s.msw.pe = true ∧ (0x0F : Word) ≠ 0 ∧
        ¬ Accessible s .ss (s.gpr.sp - BitVec.ofNat 16 (2 * 1) - 0x0F) 2 .write) := by
  simp only [LockAllowed, IoAllowed, Privileged, Accessible, InMemory, Alone, Reachable, WordOk, StackRoom, StackHolds, PointerOk,
    Rm8Ok, Rm16Ok, NearOk, RealEntryOk, RoomBelow, WordsAbove, PointerOpen, CodeAt]
  and_intros <;> decide +kernel

/-- StackAndStringFault, strings: the source that fails, with no repeat prefix and with one; the destination after a source that does
not. -/
theorem witness_StackAndStringFault_strings :
    (let s := real { si := 0xFFFF };
      LockAllowed s ∧ s.pfx.rep = none ∧
        StringKind.refs s .movs = [(.ds, 0xFFFF, .read), (.es, 0, .write)] ∧ ¬ Accessible s .ds 0xFFFF Elem.word.size .read) ∧
    (let s := { prot { cx := 1 } with pfx := { count := 1, rep := some .repne } };
      LockAllowed s ∧ IoAllowed s ∧ s.gpr.cx ≠ 0 ∧ StringKind.refs s .ins = [(.es, 0, .write)] ∧
        ¬ Accessible s .es 0 Elem.byte.size .write) ∧
    (let s := real { si := 0xFFFE, di := 0xFFFF };
      LockAllowed s ∧ StringKind.refs s .cmps = [(.ds, 0xFFFE, .read), (.es, 0xFFFF, .read)] ∧
        Accessible s .ds 0xFFFE Elem.word.size .read ∧ ¬ Accessible s .es 0xFFFF Elem.word.size .read) := by
  simp only [LockAllowed, IoAllowed, Privileged, Accessible, InMemory, Alone, Reachable, WordOk, StackRoom, StackHolds, PointerOk,
    Rm8Ok, Rm16Ok, NearOk, RealEntryOk]
  and_intros <;> decide +kernel

/-- Multiply: the four forms. -/
theorem witness_Multiply :
    (LockAllowed (real {}) ∧ Rm8Ok (real {}) (.mem (.direct 0xFFFF)) .read ∧ Rm16Ok (real {}) (.mem (.direct 0xFFFE)) .read) ∧
    (LockAllowed (prot {}) ∧ Rm16Ok (prot {}) (.mem (.direct 0x0FFE)) .read) := by
  simp only [LockAllowed, IoAllowed, Privileged, Accessible, InMemory, Alone, Reachable, WordOk, StackRoom, StackHolds, PointerOk,
    Rm8Ok, Rm16Ok, NearOk, RealEntryOk]
  and_intros <;> decide +kernel

/-- Divide, unsigned: the largest quotients. -/
theorem witness_Divide_unsigned :
    (let s := real { ax := 0xFEFF, bx := 0xFF };
      LockAllowed s ∧ Rm8Ok s (.reg .bl) .read ∧ (rm8Value s (.reg .bl)).toNat ≠ 0 ∧
        s.gpr.ax.toNat / (rm8Value s (.reg .bl)).toNat ≤ 0xFF) ∧
    (let s := real { ax := 0xFFFF, bx := 1 };
      LockAllowed s ∧ Rm16Ok s (.reg .bx) .read ∧ (rm16Value s (.reg .bx)).toNat ≠ 0 ∧
        0xFFFF = 65536 * s.gpr.dx.toNat + s.gpr.ax.toNat ∧ 0xFFFF / (rm16Value s (.reg .bx)).toNat ≤ 0xFFFF) := by
  simp only [LockAllowed, IoAllowed, Privileged, Accessible, InMemory, Alone, Reachable, WordOk, StackRoom, StackHolds, PointerOk,
    Rm8Ok, Rm16Ok, NearOk, RealEntryOk]
  and_intros <;> decide +kernel

/-- Divide, signed: the most negative quotients (A44), and 32767. -/
theorem witness_Divide_signed :
    (let s := real { ax := 0xFF80, bx := 1 };
      LockAllowed s ∧ Rm8Ok s (.reg .bl) .read ∧ (rm8Value s (.reg .bl)).toInt ≠ 0 ∧
        s.gpr.ax.toInt = -128 * (rm8Value s (.reg .bl)).toInt + 0 ∧
        (0 : Int).natAbs < (rm8Value s (.reg .bl)).toInt.natAbs ∧ 0 ≤ (0 : Int) * s.gpr.ax.toInt) ∧
    (let s := real { ax := 0x7FFF, bx := 1 };
      LockAllowed s ∧ Rm16Ok s (.reg .bx) .read ∧ (rm16Value s (.reg .bx)).toInt ≠ 0 ∧
        (32767 : Int) = 65536 * s.gpr.dx.toInt + s.gpr.ax.toNat ∧
        (32767 : Int) = 32767 * (rm16Value s (.reg .bx)).toInt + 0 ∧
        (0 : Int).natAbs < (rm16Value s (.reg .bx)).toInt.natAbs ∧ 0 ≤ (0 : Int) * 32767) := by
  simp only [LockAllowed, IoAllowed, Privileged, Accessible, InMemory, Alone, Reachable, WordOk, StackRoom, StackHolds, PointerOk,
    Rm8Ok, Rm16Ok, NearOk, RealEntryOk]
  and_intros <;> decide +kernel

/-- Divide, exception 0: a zero divisor; quotients just out of range: 100H, 10000H, +128, -129, +32768. -/
theorem witness_Divide_error :
    (let s := real { ax := 0x1234 };
      LockAllowed s ∧ Rm8Ok s (.reg .bl) .read ∧ (rm8Value s (.reg .bl)).toNat = 0) ∧
    (let s := real { ax := 0x100, bx := 1 };
      LockAllowed s ∧ Rm8Ok s (.reg .bl) .read ∧ 0xFF < s.gpr.ax.toNat / (rm8Value s (.reg .bl)).toNat) ∧
    (let s := real { dx := 1, bx := 1 };
      LockAllowed s ∧ Rm16Ok s (.reg .bx) .read ∧
        0xFFFF < (65536 * s.gpr.dx.toNat + s.gpr.ax.toNat) / (rm16Value s (.reg .bx)).toNat) ∧
    (let s := real { ax := 0x80, bx := 1 };
      LockAllowed s ∧ Rm8Ok s (.reg .bl) .read ∧ 127 < s.gpr.ax.toInt.tdiv (rm8Value s (.reg .bl)).toInt) ∧
    (let s := real { ax := 0xFF7F, bx := 1 };
      LockAllowed s ∧ Rm8Ok s (.reg .bl) .read ∧ s.gpr.ax.toInt.tdiv (rm8Value s (.reg .bl)).toInt < -128) ∧
    (let s := real { ax := 0x8000, dx := 0xFFFF, bx := 0xFFFF };
      LockAllowed s ∧ Rm16Ok s (.reg .bx) .read ∧ (-32768 : Int) = 65536 * s.gpr.dx.toInt + s.gpr.ax.toNat ∧
        32767 < (-32768 : Int).tdiv (rm16Value s (.reg .bx)).toInt) := by
  simp only [LockAllowed, IoAllowed, Privileged, Accessible, InMemory, Alone, Reachable, WordOk, StackRoom, StackHolds, PointerOk,
    Rm8Ok, Rm16Ok, NearOk, RealEntryOk]
  and_intros <;> decide +kernel

/-- SignExtension, FlagControl, TranslateAndAddress (LEA), SoftwareInterrupts: a LOCK prefix at the level IOPL allows. -/
theorem witness_LockAllowed : LockAllowed { user {} with flags := { iopl := 3 }, pfx := { count := 1, lock := true } } := by
  simp only [LockAllowed, IoAllowed, Privileged, Accessible, InMemory, Alone, Reachable, WordOk, StackRoom, StackHolds, PointerOk,
    Rm8Ok, Rm16Ok, NearOk, RealEntryOk]
  decide +kernel

/-- Adjustments, DAA: a low digit of 10 and an AL of A0H after it. -/
theorem witness_Adjustments_decimal :
    LockAllowed (real { ax := 0x9A }) ∧ 0x9A = ((real { ax := 0x9A }).reg8 .al).toNat ∧
    true = (decide (9 < 0x9A % 16) || (real { ax := 0x9A }).flags.af) ∧ 0xA0 = (0x9A + 6) % 256 ∧
    true = (decide (0x9F < 0xA0) || (real { ax := 0x9A }).flags.cf) ∧ 0 = (0xA0 + 96) % 256 := by
  simp only [LockAllowed, IoAllowed, Privileged, Accessible, InMemory, Alone, Reachable, WordOk, StackRoom, StackHolds, PointerOk,
    Rm8Ok, Rm16Ok, NearOk, RealEntryOk]
  and_intros <;> decide +kernel

/-- Adjustments, AAA: a low digit of 10. -/
theorem witness_Adjustments_ascii :
    LockAllowed (real { ax := 0xFA }) ∧ 0xFA = ((real { ax := 0xFA }).reg8 .al).toNat ∧ 0 = ((real { ax := 0xFA }).reg8 .ah).toNat ∧
    true = (decide (9 < 0xFA % 16) || (real { ax := 0xFA }).flags.af) := by
  simp only [LockAllowed, IoAllowed, Privileged, Accessible, InMemory, Alone, Reachable, WordOk, StackRoom, StackHolds, PointerOk,
    Rm8Ok, Rm16Ok, NearOk, RealEntryOk]
  and_intros <;> decide +kernel

/-- Shifts: memory operands at the end of a segment, a raw count of 31 in CL. -/
theorem witness_Shifts :
    (LockAllowed (real { cx := 31 }) ∧ (real { cx := 31 }).mem.wf = true ∧ Rm8Ok (real { cx := 31 }) (.mem (.direct 0xFFFF)) .write ∧
      (CountForm.cl.raw (real { cx := 31 })).toNat % 32 = 31) ∧
    (LockAllowed (prot {}) ∧ (prot {}).mem.wf = true ∧ Rm16Ok (prot {}) (.mem (.direct 0x0FFE)) .write ∧
      ((CountForm.imm 32).raw (prot {})).toNat % 32 = 0) := by
  simp only [LockAllowed, IoAllowed, Privileged, Accessible, InMemory, Alone, Reachable, WordOk, StackRoom, StackHolds, PointerOk,
    Rm8Ok, Rm16Ok, NearOk, RealEntryOk]
  and_intros <;> decide +kernel

/-- Moves. -/
theorem witness_Moves :
    (LockAllowed (real {}) ∧ (real {}).mem.wf = true ∧ MoveForm8.Ok (real {}) (.accStore 0xFFFF)) ∧
    (LockAllowed (prot {}) ∧ (prot {}).mem.wf = true ∧ MoveForm16.Ok (prot {}) (.seg (.mem (.direct 0x0FFE)) .cs)) := by
  simp only [LockAllowed, IoAllowed, Privileged, Accessible, InMemory, Alone, Reachable, WordOk, StackRoom, StackHolds, PointerOk,
    Rm8Ok, Rm16Ok, NearOk, RealEntryOk, MoveForm8.Ok, MoveForm16.Ok]
  decide +kernel

/-- Exchange: a memory operand, a register with its own other half, and XCHG AX,rw. -/
theorem witness_Exchange :
    (LockAllowed (real {}) ∧ (real {}).mem.wf = true ∧ Rm8Ok (real {}) (.mem (.direct 0xFFFF)) .write ∧
      Rm8Ok (real {}) (.reg .ah) .write) ∧
    (LockAllowed (prot {}) ∧ (prot {}).mem.wf = true ∧ Rm16Ok (prot {}) (.mem (.direct 0x0FFE)) .write ∧
      (∃ q, (RM.reg Reg16.bx : Rm16) = .reg q ∧ Instr.xchgAxRw .bx = .xchgAxRw q)) := by
  refine ⟨?_, ?_⟩ <;>
    simp only [LockAllowed, IoAllowed, Privileged, Accessible, InMemory, Alone, Reachable, WordOk, StackRoom, StackHolds, PointerOk,
      Rm8Ok, Rm16Ok, NearOk, RealEntryOk]
  · decide +kernel
  · exact ⟨by decide +kernel, by decide +kernel, by decide +kernel, .bx, rfl, rfl⟩

/-- PushPop, PUSH: SP = 0 in Real Address Mode (C9), the limit in Protected Mode (G13). -/
theorem witness_PushPop_push :
    (LockAllowed (real {}) ∧ (real {}).mem.wf = true ∧ PushForm.Ok (real {}) (.reg .sp) ∧ StackRoom (real {}) 1) ∧
    (LockAllowed (prot { sp := 0x1000 }) ∧ (prot { sp := 0x1000 }).mem.wf = true ∧
      PushForm.Ok (prot { sp := 0x1000 }) (.rm (.mem (.direct 0x0FFE))) ∧ StackRoom (prot { sp := 0x1000 }) 1) := by
  simp only [LockAllowed, IoAllowed, Privileged, Accessible, InMemory, Alone, Reachable, WordOk, StackRoom, StackHolds, PointerOk,
    Rm8Ok, Rm16Ok, NearOk, RealEntryOk, PushForm.Ok]
  and_intros <;> decide +kernel

/-- PushPop, POP: the last word of the stack (C11), and a destination in memory. -/
theorem witness_PushPop_pop :
    (LockAllowed (real { sp := 0xFFFE }) ∧ StackHolds (real { sp := 0xFFFE }) 1) ∧
    (LockAllowed (prot { sp := 0x0FFE }) ∧ (prot { sp := 0x0FFE }).mem.wf = true ∧ StackHolds (prot { sp := 0x0FFE }) 1 ∧
      Rm16Ok (prot { sp := 0x0FFE }) (.mem (.direct 0x0FFE)) .write) := by
  simp only [LockAllowed, IoAllowed, Privileged, Accessible, InMemory, Alone, Reachable, WordOk, StackRoom, StackHolds, PointerOk,
    Rm8Ok, Rm16Ok, NearOk, RealEntryOk]
  and_intros <;> decide +kernel

/-- PushAllPopAll: sixteen bytes, and no more, below SP or above it. -/
theorem witness_PushAllPopAll :
    (LockAllowed (real { sp := 16 }) ∧ (real { sp := 16 }).mem.wf = true ∧ StackRoom (real { sp := 16 }) 8) ∧
    (LockAllowed (prot { sp := 0x0FF0 }) ∧ StackHolds (prot { sp := 0x0FF0 }) 8) := by
  simp only [LockAllowed, IoAllowed, Privileged, Accessible, InMemory, Alone, Reachable, WordOk, StackRoom, StackHolds, PointerOk,
    Rm8Ok, Rm16Ok, NearOk, RealEntryOk]
  and_intros <;> decide +kernel

/-- FlagImages: POPF at level 3. -/
theorem witness_FlagImages : LockAllowed (user { sp := 0xFFFE }) ∧ StackHolds (user { sp := 0xFFFE }) 1 := by
  simp only [LockAllowed, IoAllowed, Privileged, Accessible, InMemory, Alone, Reachable, WordOk, StackRoom, StackHolds, PointerOk,
    Rm8Ok, Rm16Ok, NearOk, RealEntryOk]
  and_intros <;> decide +kernel

/-- TranslateAndAddress: XLAT at the last byte of a segment. -/
theorem witness_TranslateAndAddress :
    LockAllowed (real { ax := 0xFF, bx := 0xFF00 }) ∧
    Reachable (real { ax := 0xFF, bx := 0xFF00 }) (sourceSeg (real { ax := 0xFF, bx := 0xFF00 }))
      (BitVec.ofNat 16 ((real { ax := 0xFF, bx := 0xFF00 }).gpr.bx.toNat + (real { ax := 0xFF, bx := 0xFF00 }).gpr.ax.toNat % 256)) 1
      .read := by
  simp only [LockAllowed, IoAllowed, Privileged, Accessible, InMemory, Alone, Reachable, WordOk, StackRoom, StackHolds, PointerOk,
    Rm8Ok, Rm16Ok, NearOk, RealEntryOk]
  and_intros <;> decide +kernel

/-- Ports: level 3 with IOPL 3, the feed's next entry for the port. -/
theorem witness_Ports :
    LockAllowed { user {} with flags := { iopl := 3 }, portFeed := [(0xFF, 1), (0x100, 2)] } ∧
    IoAllowed { user {} with flags := { iopl := 3 }, portFeed := [(0xFF, 1), (0x100, 2)] } ∧ Unreset (user {}) ∧
    (∃ v, Instr.inAlDb 0xFF = .inAlDb v ∧ (0xFF : Word) = BitVec.ofNat 16 v.toNat) ∧
    (∃ v, Instr.inAxDb 0xFF = .inAxDb v ∧ (0xFF : Word) = BitVec.ofNat 16 v.toNat) := by
  refine ⟨?_, ?_, rfl, ⟨0xFF, rfl, rfl⟩, ⟨0xFF, rfl, rfl⟩⟩ <;>
    simp only [LockAllowed, IoAllowed, Privileged, Accessible, InMemory, Alone, Reachable, WordOk, StackRoom, StackHolds, PointerOk,
      Rm8Ok, Rm16Ok, NearOk, RealEntryOk] <;>
    decide +kernel

/-- SegLoadReal: a pointer whose selector word is the segment's last; SS from the last word of the stack. -/
theorem witness_SegLoadReal :
    (LockAllowed (real {}) ∧ (real {}).msw.pe = false ∧ SegLoadForm.Ok (real {}) (.lds .si (.direct 0xFFFC))) ∧
    (LockAllowed (real { sp := 0xFFFE }) ∧ StackLoadForm.Ok (real { sp := 0xFFFE }) .pop) := by
  simp only [LockAllowed, IoAllowed, Privileged, Accessible, InMemory, Alone, Reachable, WordOk, StackRoom, StackHolds, PointerOk,
    Rm8Ok, Rm16Ok, NearOk, RealEntryOk, SegLoadForm.Ok, StackLoadForm.Ok]
  and_intros <;> decide +kernel

/-- SegLoadProtected: selector 3 (null); selector 4H's lower bound, loadable; execute-only code, and RPL above DPL; not present; the
first selector outside the table. -/
theorem witness_SegLoadProtected :
    (let s := prot { ax := 3 };
      LockAllowed s ∧ s.msw.pe = true ∧ SegLoadForm.Ok s (.movDs (.reg .ax)) ∧
        (SegLoadForm.selector s (.movDs (.reg .ax))).toNat < 4) ∧
    (let s := prot { ax := 8 };
      let d := s.readDesc 0x010008;
      LockAllowed s ∧ s.msw.pe = true ∧ SegLoadForm.Ok s (.movEs (.reg .ax)) ∧ SegLoadForm.selector s (.movEs (.reg .ax)) = 8 ∧
        s.fetchDesc 8 = some d ∧ DataLoadable s 8 d ∧ s.mem.wf = true ∧ d.InMemory s) ∧
    (let s := prot { sp := 0x0FFE } (cells 0x40FFE [0x58]);
      let d := s.readDesc 0x010058;
      LockAllowed s ∧ Alone s ∧ SegLoadForm.Ok s .popEs ∧ SegLoadForm.selector s .popEs = 0x58 ∧ s.fetchDesc 0x58 = some d ∧
        readable d.ar = false) ∧
    (let s := prot {} (cells 0x40FFE [0x13]);
      let d := s.readDesc 0x010010;
      LockAllowed s ∧ Alone s ∧ SegLoadForm.Ok s (.lds .si (.direct 0x0FFC)) ∧
        SegLoadForm.selector s (.lds .si (.direct 0x0FFC)) = 0x13 ∧
        s.fetchDesc 0x13 = some d ∧ conforming d.ar = false ∧ ¬ (s.cpl ≤ dpl d.ar ∧ rpl 0x13 ≤ dpl d.ar)) ∧
    (let s := prot { ax := 0x38 };
      let d := s.readDesc 0x010038;
      LockAllowed s ∧ Alone s ∧ SegLoadForm.selector s (.movDs (.reg .ax)) = 0x38 ∧ s.fetchDesc 0x38 = some d ∧
        readable d.ar = true ∧ s.cpl ≤ dpl d.ar ∧ rpl 0x38 ≤ dpl d.ar ∧ present d.ar = false) ∧
    (let s := prot { ax := 0x60 };
      LockAllowed s ∧ SegLoadForm.selector s (.movDs (.reg .ax)) = 0x60 ∧ s.fetchDesc 0x60 = none) := by
  refine ⟨?_, ?_, ?_, ?_, ?_, ?_⟩ <;>
    simp only [LockAllowed, IoAllowed, Privileged, Accessible, InMemory, Alone, Reachable, WordOk, StackRoom, StackHolds, PointerOk,
      Rm8Ok, Rm16Ok, NearOk, RealEntryOk, SegLoadForm.Ok, DataLoadable, Desc.InMemory] <;>
    and_intros <;> decide +kernel

/-- StackSegLoad: null; loadable; of the wrong level; not present; outside the table. -/
theorem witness_StackSegLoad :
    (let s := prot { ax := 3 };
      LockAllowed s ∧ s.msw.pe = true ∧ StackLoadForm.Ok s (.mov (.reg .ax)) ∧
        (StackLoadForm.selector s (.mov (.reg .ax))).toNat < 4) ∧
    (let s := prot { sp := 0x0FFE } (cells 0x40FFE [0x10]);
      let d := s.readDesc 0x010010;
      LockAllowed s ∧ s.msw.pe = true ∧ StackLoadForm.Ok s .pop ∧ StackLoadForm.selector s .pop = 0x10 ∧
        s.fetchDesc 0x10 = some d ∧ StackLoadable s 0x10 d ∧ s.mem.wf = true ∧ d.InMemory s) ∧
    (let s := prot { ax := 0x20 };
      let d := s.readDesc 0x010020;
      LockAllowed s ∧ Alone s ∧ StackLoadForm.selector s (.mov (.reg .ax)) = 0x20 ∧ s.fetchDesc 0x20 = some d ∧
        ¬ (writable d.ar = true ∧ rpl 0x20 = s.cpl ∧ dpl d.ar = s.cpl)) ∧
    (let s := prot { ax := 0x38 };
      let d := s.readDesc 0x010038;
      LockAllowed s ∧ Alone s ∧ StackLoadForm.selector s (.mov (.reg .ax)) = 0x38 ∧ s.fetchDesc 0x38 = some d ∧
        writable d.ar = true ∧ rpl 0x38 = s.cpl ∧ dpl d.ar = s.cpl ∧ present d.ar = false) ∧
    (let s := prot { ax := 0x60 };
      LockAllowed s ∧ StackLoadForm.selector s (.mov (.reg .ax)) = 0x60 ∧ s.fetchDesc 0x60 = none) := by
  simp only [LockAllowed, IoAllowed, Privileged, Accessible, InMemory, Alone, Reachable, WordOk, StackRoom, StackHolds, PointerOk,
    Rm8Ok, Rm16Ok, NearOk, RealEntryOk, StackLoadForm.Ok, StackLoadable, Desc.InMemory]
  and_intros <;> decide +kernel

/-- StringOnce: the last word of the source and of the destination segment; INS and OUTS. -/
theorem witness_StringOnce :
    (LockAllowed (real { si := 0xFFFE, di := 0xFFFE }) ∧ (real { si := 0xFFFE, di := 0xFFFE }).mem.wf = true ∧
      (real { si := 0xFFFE, di := 0xFFFE }).pfx.rep = none ∧ StringKind.Ok (real { si := 0xFFFE, di := 0xFFFE }) .word .movs ∧
      StringKind.Ok (real { si := 0xFFFE, di := 0xFFFE }) .word .ins) ∧
    (LockAllowed (prot { si := 0x0FFE }) ∧ StringKind.Ok (prot { si := 0x0FFE }) .word .outs) := by
  simp only [LockAllowed, IoAllowed, Privileged, Accessible, InMemory, Alone, Reachable, WordOk, StackRoom, StackHolds, PointerOk,
    Rm8Ok, Rm16Ok, NearOk, RealEntryOk, StringKind.Ok]
  and_intros <;> decide +kernel

/-- StringRepeat: CX = 0; CX = 1; a locked MOVS that goes on. -/
theorem witness_StringRepeat :
    (LockAllowed { real {} with pfx := { count := 1, rep := some .repne } } ∧
      ({ real {} with pfx := { count := 1, rep := some .repne } } : State).gpr.cx = 0) ∧
    (LockAllowed { real { cx := 1, di := 0xFFFF } with pfx := { count := 1, rep := some .repe } } ∧
      ({ real { cx := 1, di := 0xFFFF } with pfx := { count := 1, rep := some .repe } } : State).gpr.cx ≠ 0 ∧
      ({ real { cx := 1, di := 0xFFFF } with pfx := { count := 1, rep := some .repe } } : State).mem.wf = true ∧
      StringKind.Ok { real { cx := 1, di := 0xFFFF } with pfx := { count := 1, rep := some .repe } } .byte .scas) ∧
    (let s := { real { cx := 2, si := 0xFFFE, di := 0xFFFE } with pfx := { count := 2, rep := some .repe, lock := true } };
      LockAllowed s ∧ s.gpr.cx ≠ 0 ∧ s.mem.wf = true ∧ StringKind.Ok s .word .movs ∧ StringKind.lockable .movs = true) := by
  simp only [LockAllowed, IoAllowed, Privileged, Accessible, InMemory, Alone, Reachable, WordOk, StackRoom, StackHolds, PointerOk,
    Rm8Ok, Rm16Ok, NearOk, RealEntryOk, StringKind.Ok]
  and_intros <;> decide +kernel

/-- NearJumps, Loops: a target at the CS limit, and one past it. -/
theorem witness_Near :
    (let s := prot {};
      LockAllowed s ∧ NearOk s (s.nextIp + 0xFFFF)) ∧
    (let s := { prot {} with cs := { sel := 8, ar := 0x9B, base := 0x030000, limit := 0x000F } };
      LockAllowed s ∧ NearOk s (s.nextIp + (0x0F : Byte).signExtend 16) ∧ ¬ NearOk s (s.nextIp + (0x10 : Byte).signExtend 16) ∧
        JumpCond.Holds s .cxz ∧ ¬ JumpCond.Holds s .b) ∧
    (let s := prot { bx := 0x0FFE };
      LockAllowed s ∧ Rm16Ok s (.mem (.based .bx .none)) .read ∧ NearOk s (rm16Value s (.mem (.based .bx .none)))) ∧
    (let s := real { cx := 2 };
      LockAllowed s ∧ (True ↔ s.gpr.cx ≠ 1) ∧ (False ↔ s.gpr.cx ≠ 1 ∧ s.flags.zf = true) ∧
        (True ↔ s.gpr.cx ≠ 1 ∧ s.flags.zf = false)) := by
  refine ⟨?_, ?_, ?_, ?_⟩ <;>
    simp only [LockAllowed, IoAllowed, Privileged, Accessible, InMemory, Alone, Reachable, WordOk, StackRoom, StackHolds, PointerOk,
      Rm8Ok, Rm16Ok, NearOk, RealEntryOk, JumpCond.Holds] <;>
    and_intros <;> decide +kernel

/-- NearCallRet: a stack with room for one word; a return to the CS limit. -/
theorem witness_NearCallRet :
    (LockAllowed (real { sp := 2 }) ∧ (real { sp := 2 }).mem.wf = true ∧ StackRoom (real { sp := 2 }) 1 ∧
      NearOk (real { sp := 2 }) 0xFFFF) ∧
    (LockAllowed (prot { sp := 0x0FFE } (cells 0x40FFE [0xFF, 0xFF])) ∧
      StackHolds (prot { sp := 0x0FFE } (cells 0x40FFE [0xFF, 0xFF])) 1 ∧
      NearOk (prot { sp := 0x0FFE } (cells 0x40FFE [0xFF, 0xFF]))
        ((prot { sp := 0x0FFE } (cells 0x40FFE [0xFF, 0xFF])).segWord .ss 0x0FFE)) := by
  simp only [LockAllowed, IoAllowed, Privileged, Accessible, InMemory, Alone, Reachable, WordOk, StackRoom, StackHolds, PointerOk,
    Rm8Ok, Rm16Ok, NearOk, RealEntryOk]
  and_intros <;> decide +kernel

/-- FarTransferReal: a pointer at the end of the segment, a stack of two words either way. -/
theorem witness_FarTransferReal :
    (let s := real {} (cells 0x11FFC [0x34, 0x12, 0, 0x50]);
      LockAllowed s ∧ s.msw.pe = false ∧ PointerOk s (.direct 0xFFFC) ∧
        0x1234 = s.segWord (s.memSeg (.direct 0xFFFC)) (s.effOffset (.direct 0xFFFC)) ∧
        0x5000 = s.segWord (s.memSeg (.direct 0xFFFC)) (s.effOffset (.direct 0xFFFC) + 2)) ∧
    (let s := real { sp := 4 };
      LockAllowed s ∧ s.msw.pe = false ∧ s.mem.wf = true ∧ StackRoom s 2 ∧ PointerOk s (.direct 0xFFFC) ∧
        0 = s.segWord (s.memSeg (.direct 0xFFFC)) (s.effOffset (.direct 0xFFFC))) ∧
    (let s := real { sp := 0xFFFC };
      LockAllowed s ∧ s.msw.pe = false ∧ StackHolds s 2) := by
  refine ⟨?_, ?_, ?_⟩ <;>
    simp only [LockAllowed, IoAllowed, Privileged, Accessible, InMemory, Alone, Reachable, WordOk, StackRoom, StackHolds, PointerOk,
      Rm8Ok, Rm16Ok, NearOk, RealEntryOk] <;>
    and_intros <;> decide +kernel

/-- RealDelivery: vector FFH, the last of the reset table; three words of stack; its entry in RAM, and half in a device's window and half
where nothing answers. -/
theorem witness_RealDelivery :
    ((real { sp := 6 }).mem.wf = true ∧ RealEntryOk (real { sp := 6 }) 0xFF) ∧
    (let s := { real { sp := 6 } with
        bus := { map := [{ base := 0x3FC, size := 2, kind := .device }, { base := 0x3FE, size := 2, kind := .absent }] } };
      s.mem.wf = true ∧ RealEntryOk s 0xFF) := by
  simp only [LockAllowed, IoAllowed, Privileged, Accessible, InMemory, Alone, Reachable, WordOk, StackRoom, StackHolds, PointerOk,
    Rm8Ok, Rm16Ok, NearOk, RealEntryOk]
  and_intros <;> decide +kernel

/-- SoftwareInterrupts: INTO with OF set and clear. -/
theorem witness_SoftwareInterrupts :
    (LockAllowed { real { sp := 6 } with flags := { ov := true } } ∧
      ({ real { sp := 6 } with flags := { ov := true } } : State).flags.ov = true ∧
      ({ real { sp := 6 } with flags := { ov := true } } : State).mem.wf = true ∧
      RealEntryOk { real { sp := 6 } with flags := { ov := true } } 4) ∧
    (real {}).flags.ov = false := by
  simp only [LockAllowed, IoAllowed, Privileged, Accessible, InMemory, Alone, Reachable, WordOk, StackRoom, StackHolds, PointerOk,
    Rm8Ok, Rm16Ok, NearOk, RealEntryOk]
  and_intros <;> decide +kernel

/-- InterruptReturn: three words of stack in either mode, IP at the limit in Protected Mode, to code of the same level and to
conforming code; five words to level 3; the back link of a nested task. -/
theorem witness_InterruptReturn :
    (let s := real { sp := 0xFFFA };
      LockAllowed s ∧ s.msw.pe = false ∧ StackHolds s 3) ∧
    (let s := prot { sp := 0x0FFA } (cells 0x40FFA [0xFF, 0xFF, 8]);
      let d := s.readDesc 0x010008;
      LockAllowed s ∧ s.msw.pe = true ∧ s.flags.nt = false ∧ s.mem.wf = true ∧ StackHolds s 3 ∧
        8 = s.segWord .ss (s.gpr.sp + 2) ∧ rpl 8 = s.cpl ∧ s.fetchDesc 8 = some d ∧ CodeAt d (rpl 8) ∧
        (s.segWord .ss s.gpr.sp).toNat ≤ d.w0.toNat ∧ d.InMemory s) ∧
    (let s := user { sp := 0xFFFA } (cells 0x6FFFA [0xFF, 0xFF, 0x53]);
      let d := s.readDesc 0x010050;
      LockAllowed s ∧ s.msw.pe = true ∧ s.flags.nt = false ∧ s.mem.wf = true ∧ StackHolds s 3 ∧
        0x53 = s.segWord .ss (s.gpr.sp + 2) ∧ rpl 0x53 = s.cpl ∧ s.fetchDesc 0x53 = some d ∧ CodeAt d (rpl 0x53) ∧
        conforming d.ar = true ∧ (s.segWord .ss s.gpr.sp).toNat ≤ d.w0.toNat ∧ d.InMemory s) ∧
    (let s := prot { sp := 0x0FF6 } (cells 0x40FF6 [0xFF, 0xFF, 0x1B, 0, 0, 0, 0, 2, 0x23]);
      let d := s.readDesc 0x010018;
      let k := s.readDesc 0x010020;
      LockAllowed s ∧ s.msw.pe = true ∧ s.flags.nt = false ∧ s.mem.wf = true ∧ StackHolds s 3 ∧
        0x1B = s.segWord .ss (s.gpr.sp + 2) ∧ s.cpl < rpl 0x1B ∧ s.fetchDesc 0x1B = some d ∧ CodeAt d (rpl 0x1B) ∧
        (s.segWord .ss s.gpr.sp).toNat ≤ d.w0.toNat ∧ d.InMemory s ∧ StackHolds s 5 ∧
        0x200 = s.segWord .ss (s.gpr.sp + 6) ∧ 0x23 = s.segWord .ss (s.gpr.sp + 8) ∧ StackAt s 0x23 k (rpl 0x1B) ∧
        k.InMemory s) ∧
    (let s := { prot {} with
        flags := { nt := true }, gdtr := { base := 0x010000, limit := 0x6F }, mem := (prot {}).mem.write 0x20000 0x68 };
      let b := s.readDesc 0x010068;
      LockAllowed s ∧ Alone s ∧ s.msw.pe = true ∧ s.flags.nt = true ∧ s.tr.valid = true ∧ 1 ≤ s.tr.limit.toNat ∧
        0x68 = s.peek16 s.tr.base 0 ∧ (0x68 : Word).getLsbD 2 = false ∧ s.fetchDesc 0x68 = some b ∧ isSys b.ar 3 = true ∧
        present b.ar = true ∧
        ((switchTasks s 0x68 b .iret s.nextIp false).toOption.map fun u => decide (u.ip.toNat ≤ u.cs.limit.toNat)) =
          some true) := by
  refine ⟨?_, ?_, ?_, ?_, ?_⟩ <;>
    simp only [LockAllowed, IoAllowed, Privileged, Accessible, InMemory, Alone, Reachable, WordOk, StackRoom, StackHolds, PointerOk,
    Rm8Ok, Rm16Ok, NearOk, RealEntryOk, CodeAt,
      StackAt, Desc.InMemory] <;>
    and_intros <;> decide +kernel

/-- InterruptFlag: CPL = IOPL = 3, and CPL = IOPL + 1. -/
theorem witness_InterruptFlag :
    (LockAllowed { user {} with flags := { iopl := 3 } } ∧ IoAllowed { user {} with flags := { iopl := 3 } }) ∧
    (LockAllowed { user {} with flags := { iopl := 2 } } ∧ ¬ IoAllowed { user {} with flags := { iopl := 2 } }) := by
  simp only [LockAllowed, IoAllowed, Privileged, Accessible, InMemory, Alone, Reachable, WordOk, StackRoom, StackHolds, PointerOk,
    Rm8Ok, Rm16Ok, NearOk, RealEntryOk]
  and_intros <;> decide +kernel

/-- EnterLeave: levels 0, 1 and 31 with just the room they need; LEAVE at the last word. -/
theorem witness_EnterLeave :
    (let s := real { sp := 2 };
      LockAllowed s ∧ s.mem.wf = true ∧ 0 = (0x20 : Byte).toNat % 32 ∧ StackRoom s 1) ∧
    (let s := real { sp := 4 };
      LockAllowed s ∧ s.mem.wf = true ∧ 1 = (0x01 : Byte).toNat % 32 ∧ StackRoom s 2) ∧
    (let s := prot { sp := 0x1000, bp := 0x0800 };
      LockAllowed s ∧ s.mem.wf = true ∧ 31 = (0xFF : Byte).toNat % 32 ∧ StackRoom s 32 ∧
        (∀ k, k < 31 → 1 ≤ k → WordOk s .ss (s.gpr.bp - BitVec.ofNat 16 (2 * k)) .read) ∧
        (∀ k, k < 31 → 1 ≤ k → ∀ a, a ∈ wordBytes s .ss (s.gpr.bp - BitVec.ofNat 16 (2 * k)) → a ∉ pushedBytes s 32) ∧
        Accessible s .ss (s.gpr.sp - BitVec.ofNat 16 (2 * 32) - 0x0FC0) 2 .write) ∧
    (let s := real { bp := 0xFFFE };
      LockAllowed s ∧ WordOk s .ss s.gpr.bp .read) := by
  simp only [LockAllowed, IoAllowed, Privileged, Accessible, InMemory, Alone, Reachable, WordOk, StackRoom, StackHolds, PointerOk,
    Rm8Ok, Rm16Ok, NearOk, RealEntryOk, Unreset, true_and]
  and_intros <;> decide +kernel

/-- Bound: the register at each bound, and one past each; the four bytes at the end of a segment, and one byte past it in either
mode. -/
theorem witness_Bound :
    (let s := real { bx := 9 } (cells 0x11FFC [9, 0, 9]);
      LockAllowed s ∧ Accessible s (s.memSeg (.direct 0xFFFC)) (s.effOffset (.direct 0xFFFC)) 4 .read ∧ PointerOk s (.direct 0xFFFC) ∧
        (s.segWord (s.memSeg (.direct 0xFFFC)) (s.effOffset (.direct 0xFFFC))).toInt ≤ (s.reg16 .bx).toInt ∧
        (s.reg16 .bx).toInt ≤ (s.segWord (s.memSeg (.direct 0xFFFC)) (s.effOffset (.direct 0xFFFC) + 2)).toInt) ∧
    (let s := real { bx := 0x0A } (cells 0x2100 [0, 0, 9]);
      LockAllowed s ∧ Accessible s (s.memSeg (.direct 0x100)) (s.effOffset (.direct 0x100)) 4 .read ∧ PointerOk s (.direct 0x100) ∧
        (s.segWord (s.memSeg (.direct 0x100)) (s.effOffset (.direct 0x100) + 2)).toInt < (s.reg16 .bx).toInt) ∧
    (let s := prot { bx := 0xFFFF };
      LockAllowed s ∧ Accessible s (s.memSeg (.direct 0x0FFC)) (s.effOffset (.direct 0x0FFC)) 4 .read ∧
        PointerOk s (.direct 0x0FFC) ∧
        (s.reg16 .bx).toInt < (s.segWord (s.memSeg (.direct 0x0FFC)) (s.effOffset (.direct 0x0FFC))).toInt) ∧
    (LockAllowed (real {}) ∧
      ¬ Accessible (real {}) ((real {}).memSeg (.direct 0xFFFD)) ((real {}).effOffset (.direct 0xFFFD)) 4 .read) ∧
    (LockAllowed (prot {}) ∧
      ¬ Accessible (prot {}) ((prot {}).memSeg (.direct 0x0FFD)) ((prot {}).effOffset (.direct 0x0FFD)) 4 .read) := by
  simp only [LockAllowed, IoAllowed, Privileged, Accessible, InMemory, Alone, Reachable, WordOk, StackRoom, StackHolds, PointerOk,
    Rm8Ok, Rm16Ok, NearOk, RealEntryOk]
  and_intros <;> decide +kernel

/-- HaltWaitEscape: each case of WAIT; of an ESC its opcode bytes, the operand that can be accessed in either direction, the one that
can in neither, and the pins that leave nothing to the opaque constants. -/
theorem witness_HaltWaitEscape :
    (let s := prot {};
      LockAllowed s ∧ Privileged s) ∧
    (let s := { real {} with msw := { pe := false, mp := false, em := false, ts := true } };
      LockAllowed s ∧ (s.msw.mp = false ∨ s.msw.ts = false) ∧ s.pins.busy = false ∧ s.pins.error = false ∧ s.msw.em = false) ∧
    (let s := { real {} with pins := { error := true } };
      LockAllowed s ∧ (s.msw.mp = false ∨ s.msw.ts = false) ∧ s.pins.busy = false ∧ s.msw.em = false ∧ s.msw.ts = false ∧
        s.pins.error = true) ∧
    (let s := { real {} with pins := { busy := true, error := true } };
      LockAllowed s ∧ (s.msw.mp = false ∨ s.msw.ts = false) ∧ s.pins.busy = true ∧ s.msw.em = false ∧ s.msw.ts = false) ∧
    (let s := { real {} with msw := { pe := false, mp := true, em := true, ts := true } };
      s.msw.mp = true ∧ s.msw.ts = true ∧ s.msw.em = true) ∧
    (encode (.esc 5 6 (.mem (.direct 0x0FFE))) = 0xDD :: 0x36 :: [0xFE, 0x0F] ∧ encode (.esc 7 4 (.reg 0)) = 0xDF :: 0xE0 :: []) ∧
    (let s := prot {};
      LockAllowed s ∧ s.msw.em = false ∧ s.msw.ts = false ∧ s.pins.busy = false ∧ s.pins.error = false ∧ Unreset s ∧
        Accessible s (s.memSeg (.direct 0x0FFE)) (s.effOffset (.direct 0x0FFE)) 2 .read ∧
        Accessible s (s.memSeg (.direct 0x0FFE)) (s.effOffset (.direct 0x0FFE)) 2 .write ∧
        ¬ Accessible s (s.memSeg (.direct 0x0FFF)) (s.effOffset (.direct 0x0FFF)) 2 .read ∧
        ¬ Accessible s (s.memSeg (.direct 0x0FFF)) (s.effOffset (.direct 0x0FFF)) 2 .write) := by
  simp only [LockAllowed, IoAllowed, Privileged, Accessible, InMemory, Alone, Reachable, WordOk, StackRoom, StackHolds, PointerOk,
    Rm8Ok, Rm16Ok, NearOk, RealEntryOk]
  and_intros <;> decide +kernel

/-- DescriptorTables: the six bytes at the end of a segment. -/
theorem witness_DescriptorTables :
    (LockAllowed (prot {}) ∧ Privileged (prot {}) ∧ PointerOk (prot {}) (.direct 0x0FFA) ∧
      WordOk (prot {}) .ds (0x0FFA + 4) .read) ∧
    (LockAllowed (real {}) ∧ (real {}).mem.wf = true ∧ WordOk (real {}) .ds 0xFFFA .write ∧
      WordOk (real {}) .ds (0xFFFA + 2) .write ∧ WordOk (real {}) .ds (0xFFFA + 4) .write) := by
  simp only [LockAllowed, IoAllowed, Privileged, Accessible, InMemory, Alone, Reachable, WordOk, StackRoom, StackHolds, PointerOk,
    Rm8Ok, Rm16Ok, NearOk, RealEntryOk]
  and_intros <;> decide +kernel

/-- SystemSegments: a store at the limit; a null selector; one of the LDT and one outside the GDT; a busy TSS; an LDT and a TSS not
present; an LDT; an available TSS. -/
theorem witness_SystemSegments :
    (let s := user {};
      LockAllowed s ∧ s.msw.pe = true ∧ s.mem.wf = true ∧ Rm16Ok s (.mem (.direct 0xFFFE)) .write) ∧
    (let s := prot { ax := 3 };
      LockAllowed s ∧ s.msw.pe = true ∧ Privileged s ∧ Rm16Ok s (.reg .ax) .read ∧ (rm16Value s (.reg .ax)).toNat < 4) ∧
    (let s := prot { ax := 0x44, bx := 0x60 };
      LockAllowed s ∧ s.msw.pe = true ∧ Privileged s ∧ Rm16Ok s (.reg .ax) .read ∧ (rm16Value s (.reg .ax)).getLsbD 2 = true ∧
        s.fetchDesc (rm16Value s (.reg .bx)) = none) ∧
    (let s := prot { ax := 0x30 };
      let d := s.readDesc 0x010030;
      LockAllowed s ∧ s.msw.pe = true ∧ Privileged s ∧ Alone s ∧ rm16Value s (.reg .ax) = 0x30 ∧ s.fetchDesc 0x30 = some d ∧
        isSys d.ar 1 = false ∧ isSys d.ar 2 = false) ∧
    (let s := { prot { ax := 0x48, bx := 0x40 } with mem := ((prot {}).mem.write 0x1004D 0x02).write 0x10045 0x01 };
      let d := s.readDesc 0x010048;
      let e := s.readDesc 0x010040;
      LockAllowed s ∧ s.msw.pe = true ∧ Privileged s ∧ Alone s ∧ rm16Value s (.reg .ax) = 0x48 ∧ s.fetchDesc 0x48 = some d ∧
        isSys d.ar 2 = true ∧ present d.ar = false ∧ rm16Value s (.reg .bx) = 0x40 ∧ s.fetchDesc 0x40 = some e ∧
        isSys e.ar 1 = true ∧ present e.ar = false) ∧
    (let s := prot { ax := 0x48 };
      let d := s.readDesc 0x010048;
      LockAllowed s ∧ Alone s ∧ s.msw.pe = true ∧ Privileged s ∧ Rm16Ok s (.reg .ax) .read ∧ rm16Value s (.reg .ax) = 0x48 ∧
        (rm16Value s (.reg .ax)).getLsbD 2 = false ∧ s.fetchDesc 0x48 = some d ∧ isSys d.ar 2 = true ∧ present d.ar = true) ∧
    (let s := prot { ax := 0x40 };
      let d := s.readDesc 0x010040;
      LockAllowed s ∧ s.msw.pe = true ∧ Privileged s ∧ Rm16Ok s (.reg .ax) .read ∧ rm16Value s (.reg .ax) = 0x40 ∧
        (rm16Value s (.reg .ax)).getLsbD 2 = false ∧ s.fetchDesc 0x40 = some d ∧ isSys d.ar 1 = true ∧ present d.ar = true ∧
        s.mem.wf = true ∧ d.InMemory s) := by
  simp only [LockAllowed, IoAllowed, Privileged, Accessible, InMemory, Alone, Reachable, WordOk, StackRoom, StackHolds, PointerOk,
    Rm8Ok, Rm16Ok, NearOk, RealEntryOk, Desc.InMemory]
  and_intros <;> decide +kernel

/-- MachineStatus: the switch from CS bits 1:0 of 0 and of 1, the latter with a RESET in the step as well, and CLTS. -/
theorem witness_MachineStatus :
    (let s := real { ax := 1 };
      LockAllowed s ∧ Privileged s ∧ Rm16Ok s (.reg .ax) .read ∧ 1 = rm16Value s (.reg .ax) ∧
        s.cs.sel.extractLsb' 0 2 = 0) ∧
    (let s := { real { ax := 1 } with cs := realCache 0x0101 };
      LockAllowed s ∧ Privileged s ∧ Rm16Ok s (.reg .ax) .read ∧ s.msw.pe = false ∧
        (rm16Value s (.reg .ax)).getLsbD 0 = true ∧ s.cs.sel.extractLsb' 0 2 ≠ 0 ∧ Unreset s ∧ ¬ Unreset (s.awaitReset 0) ∧
        LockAllowed (s.awaitReset 0) ∧ Privileged (s.awaitReset 0) ∧ Rm16Ok (s.awaitReset 0) (.reg .ax) .read) ∧
    (let s := prot { ax := 0xFFF0 };
      LockAllowed s ∧ Privileged s ∧ Rm16Ok s (.reg .ax) .read ∧ s.msw.pe = true) := by
  simp only [LockAllowed, IoAllowed, Privileged, Accessible, InMemory, Alone, Reachable, WordOk, StackRoom, StackHolds, PointerOk,
    Rm8Ok, Rm16Ok, NearOk, RealEntryOk]
  and_intros <;> decide +kernel

/-- SelectorTests: RPL one below and equal; null and outside the table; fit and visible; visible and not fit. -/
theorem witness_SelectorTests :
    (let s := prot { bx := 0x22, ax := 0x1B };
      LockAllowed s ∧ s.msw.pe = true ∧ s.mem.wf = true ∧ Rm16Ok s (.reg .bx) .write ∧
        (rm16Value s (.reg .bx)).toNat % 4 < (s.reg16 .ax).toNat % 4) ∧
    (let s := prot { bx := 0x23, ax := 0x1B };
      LockAllowed s ∧ s.msw.pe = true ∧ s.mem.wf = true ∧ Rm16Ok s (.reg .bx) .write ∧
        (s.reg16 .ax).toNat % 4 ≤ (rm16Value s (.reg .bx)).toNat % 4) ∧
    (let s := user { bx := 3 };
      LockAllowed s ∧ s.msw.pe = true ∧ Rm16Ok s (.reg .bx) .read ∧ (rm16Value s (.reg .bx)).toNat < 4) ∧
    (let s := user { bx := 0x60 };
      LockAllowed s ∧ s.msw.pe = true ∧ Rm16Ok s (.reg .bx) .read ∧ s.fetchDesc (rm16Value s (.reg .bx)) = none) ∧
    (let s := user { bx := 0x23 };
      let d := s.readDesc 0x010020;
      LockAllowed s ∧ Alone s ∧ s.msw.pe = true ∧ s.mem.wf = true ∧ Rm16Ok s (.reg .bx) .read ∧ rm16Value s (.reg .bx) = 0x23 ∧
        s.fetchDesc 0x23 = some d ∧ isSeg d.ar = true ∧ readable d.ar = true ∧ writable d.ar = true ∧ s.cpl ≤ dpl d.ar ∧
        rpl 0x23 ≤ dpl d.ar ∧ d.InMemory s) ∧
    (let s := user { bx := 0x1B };
      let d := s.readDesc 0x010018;
      LockAllowed s ∧ Alone s ∧ s.msw.pe = true ∧ Rm16Ok s (.reg .bx) .read ∧ rm16Value s (.reg .bx) = 0x1B ∧
        s.fetchDesc 0x1B = some d ∧
        ¬ writable d.ar = true) := by
  simp only [LockAllowed, IoAllowed, Privileged, Accessible, InMemory, Alone, Reachable, WordOk, StackRoom, StackHolds, PointerOk,
    Rm8Ok, Rm16Ok, NearOk, RealEntryOk, Desc.InMemory]
  and_intros <;> decide +kernel

/-- PrivilegeTraps: level 3, IOPL 2; a repeat prefix with CX = 1. -/
theorem witness_PrivilegeTraps :
    (let s := user {};
      LockAllowed s ∧ s.msw.pe = true ∧ ¬ Privileged s) ∧
    (let s := { user {} with flags := { iopl := 2 } };
      LockAllowed s ∧ ¬ IoAllowed s ∧ s.pfx.rep = none) ∧
    (let s := { user { cx := 1 } with flags := { iopl := 2 }, pfx := { count := 1, rep := some .repe } };
      LockAllowed s ∧ ¬ IoAllowed s ∧ s.gpr.cx ≠ 0) ∧
    (real {}).msw.pe = false := by
  simp only [LockAllowed, IoAllowed, Privileged, Accessible, InMemory, Alone, Reachable, WordOk, StackRoom, StackHolds, PointerOk,
    Rm8Ok, Rm16Ok, NearOk, RealEntryOk]
  and_intros <;> decide +kernel

/-- GateDelivery: the trap gate of exception 13 with its error code, the interrupt gate of vector 40 at the code limit, the
interrupt gate of vector 30 to conforming code taken at level 3. -/
theorem witness_GateDelivery :
    (let s := prot { sp := 8 };
      let g := s.readDesc (s.idtr.base + BitVec.ofNat 24 (8 * 0x0D));
      let c := s.readDesc 0x010008;
      s.msw.pe = true ∧ s.mem.wf = true ∧ s.bus.lock = .free ∧ GateOpen s 0x0D .exception g ∧ isSys g.ar 7 = true ∧
        4 ≤ g.w1.toNat ∧ s.fetchDesc g.w1 = some c ∧ CodeAt c s.cpl ∧ c.InMemory s ∧ g.w0.toNat ≤ c.w0.toNat ∧ StackRoom s 4 ∧
        c.accessByte ∉ pushedBytes s 4) ∧
    (let s := prot { sp := 6 };
      let g := s.readDesc (s.idtr.base + BitVec.ofNat 24 (8 * 0x40));
      let c := s.readDesc 0x010008;
      s.msw.pe = true ∧ s.mem.wf = true ∧ GateOpen s 0x40 .software g ∧ isSys g.ar 6 = true ∧ 4 ≤ g.w1.toNat ∧
        s.fetchDesc g.w1 = some c ∧ CodeAt c s.cpl ∧ c.InMemory s ∧ g.w0.toNat = c.w0.toNat ∧ StackRoom s 3 ∧
        c.accessByte ∉ pushedBytes s 3) ∧
    (let s := user { sp := 6 };
      let g := s.readDesc (s.idtr.base + BitVec.ofNat 24 (8 * 0x30));
      let c := s.readDesc 0x010050;
      s.msw.pe = true ∧ s.mem.wf = true ∧ GateOpen s 0x30 .external g ∧ isSys g.ar 6 = true ∧ 4 ≤ g.w1.toNat ∧
        s.fetchDesc g.w1 = some c ∧ CodeAt c s.cpl ∧ conforming c.ar = true ∧ c.InMemory s ∧ g.w0.toNat ≤ c.w0.toNat ∧
        StackRoom s 3 ∧ c.accessByte ∉ pushedBytes s 3) := by
  simp only [LockAllowed, IoAllowed, Privileged, Accessible, InMemory, Alone, Reachable, WordOk, StackRoom, StackHolds, PointerOk,
    Rm8Ok, Rm16Ok, NearOk, RealEntryOk, CodeAt,
    GateOpen, Desc.InMemory]
  and_intros <;> decide +kernel

/-- InnerDelivery: exception 13 at level 3 with a stack of its own at level 0; INTR through the task gate of vector 20;
exception 10 through the task gate of vector 0A, with room for its error code on the incoming stack. -/
theorem witness_InnerDelivery :
    (let s := user {};
      let g := s.readDesc (s.idtr.base + BitVec.ofNat 24 (8 * 0x0D));
      let c := s.readDesc 0x010008;
      let k := s.readDesc 0x010010;
      s.msw.pe = true ∧ s.mem.wf = true ∧ s.bus.lock = .free ∧ GateOpen s 0x0D .exception g ∧ isSys g.ar 7 = true ∧
        4 ≤ g.w1.toNat ∧ s.fetchDesc g.w1 = some c ∧ isCode c.ar = true ∧ conforming c.ar = false ∧ dpl c.ar < s.cpl ∧
        present c.ar = true ∧ c.InMemory s ∧ g.w0.toNat ≤ c.w0.toNat ∧ InnerRoom s (dpl c.ar) 0x10 0x0800 c k 6) ∧
    (let s := user {};
      let g := s.readDesc (s.idtr.base + BitVec.ofNat 24 (8 * 0x20));
      let b := s.readDesc 0x010040;
      s.msw.pe = true ∧ s.mem.wf = true ∧ s.bus.lock = .free ∧ Alone s ∧ GateOpen s 0x20 .external g ∧ isSys g.ar 5 = true ∧
        g.w1.getLsbD 2 = false ∧
        4 ≤ g.w1.toNat ∧ s.fetchDesc g.w1 = some b ∧ isSys b.ar 1 = true ∧ present b.ar = true ∧
        ((switchTasks s g.w1 b .nest 0 true).toOption.map fun u => decide (u.ip.toNat ≤ u.cs.limit.toNat)) = some true) ∧
    (let s := user {};
      let g := s.readDesc (s.idtr.base + BitVec.ofNat 24 (8 * 0x0A));
      let b := s.readDesc 0x010040;
      GateOpen s 0x0A .exception g ∧ isSys g.ar 5 = true ∧ g.w1 = 0x40 ∧ s.fetchDesc g.w1 = some b ∧
        ((switchTasks s g.w1 b .nest 0 false).toOption.map fun u => (canPush u 1, decide (u.bus.map = []))) = some (true, true)) := by
  simp only [LockAllowed, IoAllowed, Privileged, Accessible, InMemory, Alone, Reachable, WordOk, StackRoom, StackHolds, PointerOk,
    Rm8Ok, Rm16Ok, NearOk, RealEntryOk,
    GateOpen, InnerRoom, StackAt, Desc.InMemory]
  and_intros <;> decide +kernel

/-- FarTransferProtected: conforming code named with RPL 3, other code with RPL = CPL, through a pointer in memory; the offset at
the limit. -/
theorem witness_FarTransferProtected :
    (let s := prot { sp := 4 };
      let d := s.readDesc 0x010050;
      LockAllowed s ∧ s.msw.pe = true ∧ s.mem.wf = true ∧ s.fetchDesc 0x53 = some d ∧ CodeAt d s.cpl ∧
        conforming d.ar = true ∧ (0xFFFF : Word).toNat ≤ d.w0.toNat ∧ d.InMemory s ∧ StackRoom s 2 ∧
        d.accessByte ∉ pushedBytes s 2) ∧
    (let s := user { sp := 4 } (cells 0x60100 [0xFF, 0xFF, 0x1B]);
      let d := s.readDesc 0x010018;
      LockAllowed s ∧ s.msw.pe = true ∧ s.mem.wf = true ∧ s.fetchDesc 0x1B = some d ∧ CodeAt d s.cpl ∧
        conforming d.ar = false ∧ rpl 0x1B ≤ s.cpl ∧ (0xFFFF : Word).toNat ≤ d.w0.toNat ∧ d.InMemory s ∧ StackRoom s 2 ∧
        d.accessByte ∉ pushedBytes s 2 ∧ PointerOk s (.direct 0x100) ∧
        0xFFFF = s.segWord (s.memSeg (.direct 0x100)) (s.effOffset (.direct 0x100)) ∧
        0x1B = s.segWord (s.memSeg (.direct 0x100)) (s.effOffset (.direct 0x100) + 2)) ∧
    FarJump (.jmpCd 0 8) (prot {}) 8 0 ∧ FarCall (.callCd 0 8) (prot {}) 8 0 := by
  refine ⟨?_, ?_, .inl rfl, .inl rfl⟩ <;>
    simp only [LockAllowed, IoAllowed, Privileged, Accessible, InMemory, Alone, Reachable, WordOk, StackRoom, StackHolds, PointerOk,
    Rm8Ok, Rm16Ok, NearOk, RealEntryOk, CodeAt,
      Desc.InMemory] <;>
    and_intros <;> decide +kernel

/-- CallGates: the gate 0028 from level 0 and from level 3, where it takes two parameter words from the end of the stack. -/
theorem witness_CallGates :
    (let s := prot { sp := 4 };
      let g := s.readDesc 0x010028;
      let c := s.readDesc 0x010008;
      LockAllowed s ∧ s.msw.pe = true ∧ s.mem.wf = true ∧ s.fetchDesc 0x28 = some g ∧ isSys g.ar 4 = true ∧
        s.cpl ≤ dpl g.ar ∧ rpl 0x28 ≤ dpl g.ar ∧ present g.ar = true ∧ 4 ≤ g.w1.toNat ∧ s.fetchDesc g.w1 = some c ∧
        isCode c.ar = true ∧ present c.ar = true ∧ g.w0.toNat ≤ c.w0.toNat ∧ c.InMemory s ∧ CodeAt c s.cpl ∧ StackRoom s 2 ∧
        c.accessByte ∉ pushedBytes s 2) ∧
    (let s := user { sp := 0xFFFC };
      let g := s.readDesc 0x010028;
      let c := s.readDesc 0x010008;
      let k := s.readDesc 0x010010;
      LockAllowed s ∧ s.msw.pe = true ∧ s.mem.wf = true ∧ s.fetchDesc 0x2B = some g ∧ isSys g.ar 4 = true ∧
        s.cpl ≤ dpl g.ar ∧ rpl 0x2B ≤ dpl g.ar ∧ present g.ar = true ∧ 4 ≤ g.w1.toNat ∧ s.fetchDesc g.w1 = some c ∧
        isCode c.ar = true ∧ present c.ar = true ∧ g.w0.toNat ≤ c.w0.toNat ∧ c.InMemory s ∧ conforming c.ar = false ∧
        dpl c.ar < s.cpl ∧ 2 = g.b4.toNat % 32 ∧ StackHolds s 2 ∧ InnerRoom s (dpl c.ar) 0x10 0x0800 c k 6) := by
  simp only [LockAllowed, IoAllowed, Privileged, Accessible, InMemory, Alone, Reachable, WordOk, StackRoom, StackHolds, PointerOk,
    Rm8Ok, Rm16Ok, NearOk, RealEntryOk, CodeAt,
    InnerRoom, StackAt, Desc.InMemory]
  and_intros <;> decide +kernel

/-- FarReturnProtected: the same level, IP at the limit; level 3, the eight bytes at the end of the stack. -/
theorem witness_FarReturnProtected :
    (let s := prot { sp := 0x0FFC } (cells 0x40FFC [0xFF, 0xFF, 8]);
      let d := s.readDesc 0x010008;
      LockAllowed s ∧ s.msw.pe = true ∧ s.mem.wf = true ∧ StackHolds s 2 ∧ 0xFFFF = s.segWord .ss s.gpr.sp ∧
        8 = s.segWord .ss (s.gpr.sp + 2) ∧ s.fetchDesc 8 = some d ∧ CodeAt d (rpl 8) ∧ (0xFFFF : Word).toNat ≤ d.w0.toNat ∧
        d.InMemory s ∧ rpl 8 = s.cpl) ∧
    (let s := prot { sp := 0x0FF6 } (cells 0x40FF6 [0, 1, 0x1B, 0, 7, 7, 0, 2, 0x23]);
      let d := s.readDesc 0x010018;
      let k := s.readDesc 0x010020;
      LockAllowed s ∧ s.msw.pe = true ∧ s.mem.wf = true ∧ StackHolds s 2 ∧ 0x100 = s.segWord .ss s.gpr.sp ∧
        0x1B = s.segWord .ss (s.gpr.sp + 2) ∧ s.fetchDesc 0x1B = some d ∧ CodeAt d (rpl 0x1B) ∧
        (0x100 : Word).toNat ≤ d.w0.toNat ∧ d.InMemory s ∧ s.cpl < rpl 0x1B ∧
        Accessible s .ss s.gpr.sp (8 + (2 : Word).toNat) .read ∧ InMemory s .ss (s.gpr.sp + 4 + 2) 2 .read ∧
        InMemory s .ss (s.gpr.sp + 6 + 2) 2 .read ∧ 0x200 = s.segWord .ss (s.gpr.sp + 4 + 2) ∧
        0x23 = s.segWord .ss (s.gpr.sp + 6 + 2) ∧ StackAt s 0x23 k (rpl 0x1B) ∧ k.InMemory s) := by
  simp only [LockAllowed, IoAllowed, Privileged, Accessible, InMemory, Alone, Reachable, WordOk, StackRoom, StackHolds, PointerOk,
    Rm8Ok, Rm16Ok, NearOk, RealEntryOk, CodeAt,
    StackAt, Desc.InMemory]
  and_intros <;> decide +kernel

/-- TaskSwitch: a switch of each kind to the TSS at 021000, whose limit is the least allowed, all in RAM and apart; a JMP to that TSS
and a CALL to the task gate 0070 that names it. -/
theorem witness_TaskSwitch :
    (prot {}).mem.wf = true ∧ (prot {}).msw.pe = true ∧ Alone (prot {}) ∧
    (switchTasks (prot {}) 0x40 ((prot {}).readDesc 0x010040) .jump 0 false).toOption.isSome = true ∧
    (switchTasks (prot {}) 0x40 ((prot {}).readDesc 0x010040) .nest 0 false).toOption.isSome = true ∧
    (switchTasks (prot {}) 0x40 ((prot {}).readDesc 0x010040) .iret 0 false).toOption.isSome = true ∧
    (∀ a, a ∈ switchBytes (prot {}) 0x40 ((prot {}).readDesc 0x010040) → (prot {}).kindAt a = .ram) ∧
    (switchBytes (prot {}) 0x40 ((prot {}).readDesc 0x010040)).Nodup ∧
    (let s := prot {};
      let d := s.readDesc 0x010040;
      LockAllowed s ∧ Alone s ∧ s.msw.pe = true ∧ s.fetchDesc 0x40 = some d ∧ s.cpl ≤ dpl d.ar ∧ rpl 0x40 ≤ dpl d.ar ∧
        present d.ar = true ∧ isSys d.ar 1 = true ∧ (0x40 : Word).getLsbD 2 = false ∧
        ((switchTasks s 0x40 d .jump s.nextIp false).toOption.map fun u => decide (u.ip.toNat ≤ u.cs.limit.toNat)) = some true) ∧
    (let s := { prot {} with gdtr := { base := 0x010000, limit := 0x77 } };
      let d := s.readDesc 0x010070;
      let b := s.readDesc 0x010040;
      LockAllowed s ∧ Alone s ∧ s.msw.pe = true ∧ s.fetchDesc 0x70 = some d ∧ s.cpl ≤ dpl d.ar ∧ rpl 0x70 ≤ dpl d.ar ∧
        present d.ar = true ∧ isSys d.ar 5 = true ∧ d.w1 = 0x40 ∧ s.fetchDesc 0x40 = some b ∧ isSys b.ar 1 = true ∧
        present b.ar = true ∧
        ((switchTasks s 0x40 b .nest s.nextIp false).toOption.map fun u => decide (u.ip.toNat ≤ u.cs.limit.toNat)) =
          some true) := by
  simp only [LockAllowed, IoAllowed, Privileged, Accessible, InMemory, Alone, Reachable, WordOk, StackRoom, StackHolds, PointerOk,
    Rm8Ok, Rm16Ok, NearOk, RealEntryOk]
  and_intros <;> decide +kernel

/-- Shutdown: the largest limit that shuts vector 8 out, and the least vector outside it; a shutdown machine with its NMI masked, and
one whose NMI is taken, fails, or has no vector. -/
theorem witness_Shutdown :
    (let s := { real {} with idtr := { base := 0, limit := 34 } };
      s.msw.pe = false ∧ s.bus.lock = .free ∧ s.idtr.limit.toNat < 35 ∧ s.idtr.limit.toNat < 4 * (8 : Byte).toNat + 3) ∧
    (let s := { real {} with run := .shutdown, nmiPending := true, nmiMasked := true };
      s.run = .shutdown ∧ s.inputs = [] ∧ s.nmiMasked = true) ∧
    (let s := { real { sp := 6 } with run := .shutdown, nmiPending := true };
      s.run = .shutdown ∧ s.inputs = [] ∧ s.nmiPending = true ∧ s.nmiMasked = false ∧ s.mem.wf = true ∧ RealEntryOk s 2 ∧
        (attempt { s with nmiPending := false, nmiMasked := true } 2 s.ip .external 0 true).toOption.isSome = true) ∧
    (let s := { real { sp := 5 } with run := .shutdown, nmiPending := true };
      s.run = .shutdown ∧ s.inputs = [] ∧ s.nmiMasked = false ∧
        (attempt { s with nmiPending := false, nmiMasked := true } 2 s.ip .external 0 true).toOption.isNone = true) ∧
    (let s := { real {} with run := .shutdown, nmiPending := true, idtr := { base := 0, limit := 10 } };
      s.run = .shutdown ∧ s.inputs = [] ∧ s.nmiMasked = false ∧ s.msw.pe = false ∧ s.idtr.limit.toNat < 11) := by
  simp only [RealEntryOk, StackRoom, WordOk, Reachable, Accessible, InMemory, Alone]
  and_intros <;> decide +kernel

/-- BoundaryEvents: each kind of event, interrupt 9 unmasked and masked, INTR in the shadow of an STI, all at once, a trace that shuts the
machine down, a halted machine that an NMI, interrupt 9 or INTR wakes and one that none does; a RESET before the first bus cycle,
after one and after all of PUSHA's eight, in a delivery and in a task switch.  Neither `noteStores`
nor `endLock` changes the fields named. -/
theorem witness_BoundaryEvents :
    (let u := { real {} with inhibitNext := true, nmiPending := true };
      let s := (u.noteStores u.mem).endLock;
      u.pfx.count = 0 ∧ u.run = .running ∧ u.lmsw = .clear ∧ s.inhibitNext = true) ∧
    (let u := { real {} with tfAtStart := true };
      let s := (u.noteStores u.mem).endLock;
      u.pfx.count = 0 ∧ u.run = .running ∧ u.lmsw = .clear ∧ s.inhibitNext = false ∧ s.nmiPending = false ∧
        s.int9Pending = false ∧ s.pins.intr = none ∧ s.tfAtStart = true) ∧
    (let s := (({ real {} with nmiPending := true } : State).noteStores []).endLock;
      s.inhibitNext = false ∧ s.tfAtStart = false ∧ s.nmiPending = true ∧ s.nmiMasked = false ∧ s.int9Pending = false ∧
        s.pins.intr = none) ∧
    (let s := (({ real {} with int9Pending := true } : State).noteStores []).endLock;
      s.inhibitNext = false ∧ s.tfAtStart = false ∧ s.nmiPending = false ∧ s.int9Pending = true ∧ s.pins.intr = none ∧
        s.nmiMasked = false ∧ ({ s with nmiMasked := true } : State).nmiMasked = true) ∧
    (let s := (({ real {} with flags := { ie := true }, pins := { intr := some 0xFF } } : State).noteStores []).endLock;
      s.inhibitNext = false ∧ s.tfAtStart = false ∧ s.nmiPending = false ∧ s.int9Pending = false ∧ s.stiShadow = false ∧
        s.pins.intr = some 0xFF ∧ s.flags.ie = true) ∧
    (let s := (({ real {} with flags := { ie := true }, stiShadow := true, pins := { intr := some 0 } } : State).noteStores []).endLock;
      s.stiShadow = true ∧ s.pins.intr = some 0) ∧
    (let s := (({ real { sp := 0x100 } with
          tfAtStart := true, nmiPending := true, int9Pending := true, flags := { ie := true }, pins := { intr := some 8 } } :
          State).noteStores []).endLock;
      s.inhibitNext = false ∧ s.tfAtStart = true ∧ (deliver s 1 s.ip .external 0).run ≠ .shutdown ∧ s.nmiPending = true ∧
        s.nmiMasked = false ∧ s.int9Pending = true) ∧
    (let s := (({ real { sp := 1 } with tfAtStart := true } : State).noteStores []).endLock;
      s.inhibitNext = false ∧ s.tfAtStart = true ∧ (deliver s 1 s.ip .external 0).run = .shutdown) ∧
    (let s := { real { sp := 6 } with run := .halted, int9Pending := true, nmiPending := true };
      s.run = .halted ∧ s.inputs = [] ∧ s.nmiPending = true ∧ s.nmiMasked = false ∧ s.mem.wf = true ∧ RealEntryOk s 2 ∧
        s.int9Pending = true) ∧
    (let s := { real { sp := 6 } with run := .halted, flags := { ie := true }, pins := { intr := some 8 } };
      s.run = .halted ∧ s.inputs = [] ∧ s.nmiPending = false ∧ s.int9Pending = false) ∧
    (let s := { real {} with run := .halted, pins := { intr := some 8 }, nmiPending := true, nmiMasked := true };
      s.run = .halted ∧ s.inputs = [] ∧ s.nmiMasked = true ∧ s.int9Pending = false ∧ s.flags.ie = false) ∧
    (let s := { real {} with inputs := [{ reset := some 0 }] };
      s.inputs = [{ reset := some 0 }] ∧ ({ reset := some 0 } : Signals).reset = some 0 ∧
        ({ reset := some 0 } : Signals).acts = [] ∧ s.bus.lock = .free ∧ s.dead = false) ∧
    (∀ n, n = 1 ∨ n = 8 →
      let s := { real { sp := 16 } (cells 0x1000 [0x60]) with inputs := [{ reset := some n }] };
      let u := s.accept { reset := some n } [];
      s.run = .running ∧ u.bus.lock = .free ∧ decode u.fetched = .ok (.pusha, [0, 0, 0, 0, 0]) ∧ LockAllowed u ∧ u.mem.wf = true ∧
        StackRoom u 8 ∧ (u.segAddr .ss u.gpr.sp).toNat % 2 = 0 ∧ u.flags.tf = false ∧ u.tfAtStart = false ∧
        u.nmiPending = false ∧ u.int9Pending = false ∧ u.pins.intr = none) ∧
    ((real { sp := 6 }).mem.wf = true ∧ RealEntryOk (real { sp := 6 }) 0xFF ∧
      ((real { sp := 6 }).segAddr .ss (real { sp := 6 }).gpr.sp).toNat % 2 = 0) ∧
    (let s := prot {};
      let b := s.readDesc 0x010040;
      s.mem.wf = true ∧ s.bus.lock = .free ∧ s.bus.between = [] ∧ s.tr.valid = true ∧ 41 ≤ s.tr.limit.toNat ∧
        s.tr.base.toNat % 2 = 0 ∧ (∀ a, a ∈ switchBytes s 0x40 b → s.kindAt a = .ram) ∧ (switchBytes s 0x40 b).Nodup) := by
  simp only [forall_eq_or_imp, forall_eq]
  simp only [LockAllowed, RealEntryOk, StackRoom, WordOk, Reachable, Accessible, InMemory, Alone]
  and_intros <;> decide +kernel

/-- RomKept: a store to ROM completes. -/
theorem witness_RomKept : (odd .rom).kindAt 0x2100 = .rom ∧ (odd .absent).kindAt 0x2100 = .absent ∧
    (ran (odd .rom) [0xA2, 0x00, 0x01]).isSome = true := by
  and_intros <;> decide +kernel

/-- MemoryKinds: a byte and a word of each kind at DS:0100 and DS:0102, read, written, read and written; a byte that another agent
changes at the last address; a transfer of the processor extension. -/
theorem witness_MemoryKinds :
    (∀ k, k = .device ∨ k = .absent ∨ k = .rom →
      LockAllowed (odd k) ∧ Alone (odd k) ∧
      Accessible (odd k) ((odd k).memSeg (.direct 0x100)) ((odd k).effOffset (.direct 0x100)) 1 .read ∧
      Accessible (odd k) ((odd k).memSeg (.direct 0x100)) ((odd k).effOffset (.direct 0x100)) 1 .write ∧
      0x2100 = ((odd k).segAddr ((odd k).memSeg (.direct 0x100)) ((odd k).effOffset (.direct 0x100)) 0).toNat ∧
      (odd k).kindAt 0x2100 = k) ∧
    Unreset (odd .rom) ∧ (MoveForm8.toReg .ah (.mem (.direct 0x100))).memory = some (.direct 0x100, .read) ∧
    (MoveForm8.accStore 0x100).memory = some (.direct 0x100, .write) ∧
    (Form8.imm (.mem (.direct 0x100)) 1).memory ArithOp.adc.access = some (.direct 0x100, .write) ∧
    (MoveForm16.accLoad 0x102).memory = some (.direct 0x102, .read) ∧
    (MoveForm16.accStore 0x102).memory = some (.direct 0x102, .write) ∧
    (ArithForm16.sext (.mem (.direct 0x102)) 0xFF).memory ArithOp.sub.access = some (.direct 0x102, .write) ∧
    (let s := { real {} with bus := { map := [{ base := 0x2102, size := 2, kind := .device }], feed := [(0x2102, 7)] } };
      LockAllowed s ∧ Alone s ∧ Accessible s (s.memSeg (.direct 0x102)) (s.effOffset (.direct 0x102)) 2 .read ∧
        Accessible s (s.memSeg (.direct 0x102)) (s.effOffset (.direct 0x102)) 2 .write ∧
        0x2102 = (s.segAddr (s.memSeg (.direct 0x102)) (s.effOffset (.direct 0x102)) 0).toNat ∧
        0x2103 = (s.segAddr (s.memSeg (.direct 0x102)) (s.effOffset (.direct 0x102)) 1).toNat ∧
        s.kindAt 0x2102 = .device ∧ s.kindAt 0x2103 = .device) ∧
    (let s := { real {} with bus := { map := [{ base := 0x2102, size := 1, kind := .rom }, { base := 0x2103, size := 1, kind := .absent }] } };
      s.kindAt 0x2102 = .rom ∧ s.kindAt 0x2103 = .absent) ∧
    (({ acts := [.place 0xFFFFFF 7] } : Signals).acts = [.place 0xFFFFFF 7] ∧ 0xFFFFFF < 2 ^ 24 ∧ (odd .rom).mem.wf = true ∧
      (odd .rom).bus.lock = .free ∧ (odd .rom).kindAt 0xFFFFFF = .ram) ∧
    (({ acts := [.npxWrite 0xFFFFFF 7] } : Signals).acts = [.npxWrite 0xFFFFFF 7] ∧ (odd .rom).kindAt (physAdd 0xFFFFFF 0) = .ram ∧
      (odd .rom).kindAt (physAdd 0xFFFFFF 1) = .ram) := by
  refine ⟨?_, ?_⟩
  · rintro k (rfl | rfl | rfl) <;>
      simp only [LockAllowed, Accessible, Alone] <;>
      and_intros <;> decide +kernel
  · simp only [LockAllowed, Accessible, Alone]
    and_intros <;> decide +kernel

/-- BusSharing: LDS of two aligned words with acts before each; a load and a store of AX at an odd address; a descriptor of RAM that an
act before its reading has not spoiled; XCHG and a locked repeated MOVS; a machine that holds the bus. -/
theorem witness_BusSharing :
    (let s := withBetween (real {}) [[.place 0x2100 1], [.place 0x2102 2]];
      LockAllowed s ∧ s.msw.pe = false ∧ Unreset s ∧ s.bus.lock = .free ∧ s.bus.between = [.place 0x2100 1] :: [.place 0x2102 2] :: [] ∧
        ∀ k, k < 3 → (k = 0 ∨ k = 2) →
          Accessible s (s.memSeg (.direct 0x100)) (s.effOffset (.direct 0x100) + BitVec.ofNat 16 k) 2 .read ∧
          (s.segAddr (s.memSeg (.direct 0x100)) (s.effOffset (.direct 0x100) + BitVec.ofNat 16 k) 0).toNat % 2 = 0 ∧
          ∀ j, j < 2 →
            s.kindAt (s.segAddr (s.memSeg (.direct 0x100)) (s.effOffset (.direct 0x100) + BitVec.ofNat 16 k) j).toNat = .ram) ∧
    (let s := withBetween (real {}) [[], [.place 0x2102 2]];
      LockAllowed s ∧ Unreset s ∧ 0x2101 = (s.segAddr (sourceSeg s) 0x101 0).toNat ∧ 0x2102 = (s.segAddr (sourceSeg s) 0x101 1).toNat ∧
        s.kindAt 0x2101 = .ram ∧ s.kindAt 0x2102 = .ram ∧ Accessible s (sourceSeg s) 0x101 2 .read ∧
        Accessible s (sourceSeg s) 0x101 2 .write) ∧
    (let s := withBetween (prot { ax := 0x10 }) [[.place 0x10010 0xFE], [.place 0x10015 0x90]];
      let u := afterOthers s [.place 0x10010 0xFE] [[.place 0x10015 0x90]];
      let d := u.readDesc 0x010010;
      LockAllowed s ∧ s.msw.pe = true ∧ Unreset s ∧ s.bus.lock = .free ∧ u.fetchDesc (s.reg16 .ax) = some d ∧ DataLoadable s 0x10 d ∧
        s.kindAt d.accessByte = .ram) ∧
    LockedCycles (real {}) (.xchgEwRw (.mem (.direct 0xFFFE)) .ax) ∧
    LockedCycles { real { cx := 2 } with pfx := { count := 2, rep := some .repe, lock := true } } .movsw ∧
    (exec .movsw { real { cx := 2 } with pfx := { count := 2, rep := some .repe, lock := true } } matches .next _) = true ∧
    (({ real {} with bus := { lock := .kept } } : State).beginInstr.bus.lock = .active ∧ BusLock.kept ≠ .free ∧
      ({ real {} with bus := { lock := .active } } : State).bus.lock = .active) := by
  refine ⟨?_, ?_, ?_, .inr (.inl ⟨_, _, rfl, ?_⟩), .inr (.inr ⟨.movs, .word, rfl, rfl, rfl, ?_⟩), ?_, ?_⟩ <;>
    simp only [LockAllowed, Accessible, InMemory, Alone, Reachable, Rm16Ok, StringKind.Ok, DataLoadable] <;>
    and_intros <;> decide +kernel

/-- Hazards: after an LMSW that still awaits its jump, and with nothing awaited. -/
theorem witness_Hazards :
    (({ prot {} with lmsw := .armed } : State).pfx.count = 0 ∧ ({ prot {} with lmsw := .armed } : State).lmsw = .armed) ∧
    ((prot {}).pfx.count = 0 ∧ (prot {}).lmsw = .clear) ∧ ({ real {} with lmsw := .justSet } : State).lmsw = .justSet :=
  ⟨⟨rfl, rfl⟩, ⟨rfl, rfl⟩, rfl⟩

end Sys2Proof.Tests
end

section
/-! PROOF of O57: no step changes a byte of ROM or of absent memory, the map of memory, or the platform's parameters.  One lemma
per operation of the model says that it spares them.  Here: memory, the bus, ports, operands, and what checks come to. -/

namespace Sys2Proof.Machine

/-! ### What is spared -/

/-- `t` has the map of memory, the platform's parameters and the bytes of ROM and of absent memory that `s` has. -/
def SparesRom (s t : State) : Prop :=
  t.bus.map = s.bus.map ∧ t.platform = s.platform ∧
    ∀ a, (s.kindAt a = .rom ∨ s.kindAt a = .absent) → t.mem.read a = s.mem.read a

section
variable {s t : State}

theorem SparesRom.refl (s : State) : SparesRom s s := ⟨rfl, rfl, fun _ _ => rfl⟩

theorem SparesRom.kindAt (h : SparesRom s t) (a : Nat) : t.kindAt a = s.kindAt a := by
  unfold State.kindAt
  rw [h.1]

/-- Bus cycles that keep the map, and the bytes that are not of RAM or a device, spare ROM. -/
theorem SparesRom.onBus {u : State} (h : SparesRom s t) (e : OnBus t u) (hb : u.bus.map = t.bus.map)
    (hm : ∀ a, (t.kindAt a = .rom ∨ t.kindAt a = .absent) → u.mem.read a = t.mem.read a) : SparesRom s u :=
  ⟨hb.trans h.1, e.platform.trans h.2.1, fun a ha => (hm a (by rwa [h.kindAt])).trans (h.2.2 a ha)⟩

/-! ### Memory and the bus -/

theorem SparesRom.store (h : SparesRom s t) (a : Nat) (v : Byte) : SparesRom s (t.store a v) :=
  h.onBus (t.store_onBus a v) (t.store_map a v) fun _ hq => t.store_rom a v fun e => by simp [e] at hq

theorem SparesRom.load (h : SparesRom s t) (a : Nat) : SparesRom s (t.load a).2 :=
  h.onBus (t.load_onBus a) (t.load_map a) fun _ _ => by rw [State.load_mem]

theorem SparesRom.write (h : SparesRom s t) {a : Nat} (ha : t.kindAt a = .ram ∨ t.kindAt a = .device) (v : Byte) :
    SparesRom s { t with mem := t.mem.write a v } :=
  h.onBus rfl rfl fun q hq => Memory.read_write_other _ v fun e => by
    subst e
    rcases ha with ha | ha <;> simp [ha] at hq

theorem SparesRom.placed (h : SparesRom s t) (a : Nat) (v : Byte) : SparesRom s (t.placed a v) := by
  unfold State.placed
  split
  · next hk => exact h.write (.inl hk) v
  · next hk => exact h.write (.inr hk) v
  · exact h
  · exact h

theorem SparesRom.act (h : SparesRom s t) (x : BusAct) : SparesRom s (t.act x) := by
  cases x with
  | place a v => exact h.placed _ v
  | npxRead a => exact (h.load _).load _
  | npxWrite a v => exact (h.store _ _).store _ _

theorem SparesRom.actAll (h : SparesRom s t) (xs : List BusAct) : SparesRom s (actAll t xs) := by
  induction xs generalizing t with
  | nil => exact h
  | cons x xs ih => exact ih (h.act x)

theorem SparesRom.release (h : SparesRom s t) : SparesRom s t.release := by
  unfold State.release
  split
  · exact h
  · refine SparesRom.actAll ?_ _
    exact h

theorem SparesRom.visitors (h : SparesRom s t) : SparesRom s t.visitors := by
  unfold State.visitors
  split
  · split
    · exact h
    · refine SparesRom.actAll ?_ _
      exact h
  · exact h

theorem SparesRom.cycle (h : SparesRom s t) : SparesRom s t.cycle := by
  unfold State.cycle
  split
  · exact h
  · exact h.release
  · exact h
  · exact h

theorem SparesRom.others (h : SparesRom s t) : SparesRom s t.others := h.visitors.cycle

theorem SparesRom.gap (h : SparesRom s t) (a : Nat) : SparesRom s (t.gap a) := by
  unfold State.gap
  split
  · exact h.others
  · exact h

theorem SparesRom.hear (h : SparesRom s t) (xs : List BusAct) : SparesRom s (t.hear xs) := by
  unfold State.hear
  split
  · exact h.actAll xs
  · exact h

theorem SparesRom.loadWord (h : SparesRom s t) (a b : Nat) : SparesRom s (t.loadWord a b).2 := ((h.others.load _).gap _).load _

theorem SparesRom.storeWord (h : SparesRom s t) (a b : Nat) (v : Word) : SparesRom s (t.storeWord a b v) :=
  ((h.others.store _ _).gap _).store _ _

theorem SparesRom.fetch16 (h : SparesRom s t) (a : Addr) (k : Nat) : SparesRom s (t.fetch16 a k).2 := h.others.gap _

theorem SparesRom.readWords (h : SparesRom s t) (a : Addr) (k n : Nat) : SparesRom s (readWords t a k n).2 := by
  induction n generalizing t k with
  | zero => exact h
  | succ n ih => exact ih (h.fetch16 a k) (k + 2)

theorem SparesRom.pokeWords (h : SparesRom s t) (a : Addr) (k : Nat) (ws : List Word) : SparesRom s (pokeWords t a k ws) := by
  induction ws generalizing t k with
  | nil => exact h
  | cons w ws ih => exact ih (h.storeWord _ _ w) (k + 2)

theorem SparesRom.setAccessed (h : SparesRom s t) (d : Desc) : SparesRom s (t.setAccessed d) := h.others.store _ _

theorem SparesRom.touch (h : SparesRom s t) (d : Desc) : SparesRom s (t.touch d) := by
  unfold State.touch
  split
  · exact h.setAccessed d
  · exact h

theorem SparesRom.segGet16 (h : SparesRom s t) (r : SegReg) (off : Word) : SparesRom s (t.segGet16 r off).2 := h.loadWord _ _

theorem SparesRom.segPut8 (h : SparesRom s t) (r : SegReg) (off : Word) (k : Nat) (v : Byte) :
    SparesRom s (t.segPut8 r off k v) :=
  h.others.store _ _

theorem SparesRom.segPut16 (h : SparesRom s t) (r : SegReg) (off v : Word) : SparesRom s (t.segPut16 r off v) := h.storeWord _ _ _

theorem SparesRom.stackGet (h : SparesRom s t) (k : Nat) : SparesRom s (t.stackGet k).2 := h.loadWord _ _

theorem SparesRom.memWord (h : SparesRom s t) (m : MemOp) (k : Word) : SparesRom s (t.memWord m k).2 := h.loadWord _ _

/-! ### Ports -/

theorem SparesRom.portByte (h : SparesRom s t) (p : Word) : SparesRom s (t.portByte p).2 := by
  unfold State.portByte
  repeat' split
  all_goals exact h

theorem SparesRom.record (h : SparesRom s t) (e : PortEvent) : SparesRom s (t.record e) := by
  unfold State.record
  split <;> exact h

theorem SparesRom.portGap (h : SparesRom s t) (p : Word) (e : PortEvent) : SparesRom s (t.portGap p e) := by
  have hc := (h.record e).cycle
  unfold State.portGap
  split
  · dsimp only
    split <;> exact hc
  · exact h

theorem SparesRom.portRead8 (h : SparesRom s t) (p : Word) : SparesRom s (t.portRead8 p).2 := (h.cycle.portByte p).record _

theorem SparesRom.portRead16 (h : SparesRom s t) (p : Word) : SparesRom s (t.portRead16 p).2 :=
  (((h.cycle.portByte p).portGap p _).portByte _).record _

theorem SparesRom.portWrite8 (h : SparesRom s t) (p : Word) (v : Byte) : SparesRom s (t.portWrite8 p v) := h.cycle.record _

theorem SparesRom.portWrite16 (h : SparesRom s t) (p : Word) (v : Word) : SparesRom s (t.portWrite16 p v) :=
  (h.cycle.portGap p _).record _

theorem SparesRom.escape (h : SparesRom s t) (ev : EscEvent) : SparesRom s (t.escape ev) := by
  unfold State.escape
  split <;> exact h.cycle

/-! ### Operands -/

theorem SparesRom.setSeg (h : SparesRom s t) (r : SegReg) (c : SegCache) : SparesRom s (t.setSeg r c) := by
  cases r <;> exact h

theorem SparesRom.getRm8 (h : SparesRom s t) (e : Rm8) : SparesRom s (t.getRm8 e).2 := by
  cases e with
  | reg r => exact h
  | mem m => exact h.others.load _

theorem SparesRom.getRm16 (h : SparesRom s t) (e : Rm16) : SparesRom s (t.getRm16 e).2 := by
  cases e with
  | reg r => exact h
  | mem m => exact h.segGet16 _ _

theorem SparesRom.storeRm8 (h : SparesRom s t) (e : Rm8) (v : Byte) : SparesRom s (storeRm8 t e v) := by
  cases e with
  | reg r => exact h
  | mem m => exact h.segPut8 _ _ _ _

theorem SparesRom.storeRm16 (h : SparesRom s t) (e : Rm16) (v : Word) : SparesRom s (storeRm16 t e v) := by
  cases e with
  | reg r => exact h
  | mem m => exact h.segPut16 _ _ _

theorem SparesRom.elemGet (h : SparesRom s t) (w : Elem) (r : SegReg) (off : Word) : SparesRom s (w.get t r off).2 := by
  cases w with
  | byte => exact h.others.load _
  | word => exact h.segGet16 _ _

theorem SparesRom.elemPut (h : SparesRom s t) (w : Elem) (r : SegReg) (off v : Word) : SparesRom s (w.put t r off v) := by
  cases w with
  | byte => exact h.segPut8 _ _ _ _
  | word => exact h.segPut16 _ _ _

theorem SparesRom.elemPortRead (h : SparesRom s t) (w : Elem) : SparesRom s (w.portRead t).2 := by
  cases w with
  | byte => exact h.portRead8 _
  | word => exact h.portRead16 _

theorem SparesRom.elemPortWrite (h : SparesRom s t) (w : Elem) (v : Word) : SparesRom s (w.portWrite t v) := by
  cases w with
  | byte => exact h.portWrite8 _ _
  | word => exact h.portWrite16 _ _

theorem SparesRom.aluCompute (h : SparesRom s t) {n : Nat} (op : AluOp) (d v : BitVec n) :
    SparesRom s (aluCompute op t d v).2 := by
  cases op <;> exact h

theorem SparesRom.shiftCompute (h : SparesRom s t) {n : Nat} (op : ShiftOp) (x : BitVec n) (raw : Byte) :
    SparesRom s (shiftCompute op t x raw).2 := by
  unfold Machine.shiftCompute
  dsimp only
  split <;> exact h

theorem SparesRom.nullIfInaccessible (h : SparesRom s t) (r : SegReg) : SparesRom s (nullIfInaccessible t r) := by
  unfold Machine.nullIfInaccessible
  dsimp only
  split
  · exact h
  · split
    · exact h.setSeg _ _
    · exact h

end

/-! ### Checks and exceptions -/

/-- The bus that an exception carries over, if any, has the map of `s`. -/
def Trap.OnMap (s : State) (x : Trap) : Prop := ∀ b, x.bus = some b → b.map = s.bus.map

/-- An exception before any read carries no bus. -/
theorem Trap.onMap_of_none {s : State} {x : Trap} (h : x.bus = none) : x.OnMap s := fun b hb => by rw [h] at hb; cases hb

theorem SparesRom.over {s t : State} (h : SparesRom s t) {x : Trap} (hx : x.OnMap s) : SparesRom s (x.over t) := by
  unfold Trap.over
  split
  · exact h
  · next b hb => exact ⟨hx b hb, (h.actAll _).2⟩

/-- What checks and bus cycles come to from `s` on: an answer with the property `P`, or an exception on the map of `s`. -/
structure Comes (s : State) {α : Type} (P : α → Prop) (r : Except Trap α) : Prop where
  answer : ∀ a, r = .ok a → P a
  raises : ∀ x, r = .error x → x.OnMap s

section
variable {s t : State} {α β : Type} {P : α → Prop} {R : β → Prop}

theorem Comes.ok {a : α} (h : P a) : Comes s P (.ok a) := ⟨fun _ e => by cases e; exact h, fun _ e => nomatch e⟩

theorem Comes.error {x : Trap} (h : x.OnMap s) : Comes s P (.error x : Except Trap α) :=
  ⟨fun _ e => (nomatch e), fun _ e => by cases e; exact h⟩

theorem Comes.bind {r : Except Trap α} {g : α → Except Trap β} (h : Comes s P r) (hg : ∀ a, P a → Comes s R (g a)) :
    Comes s R (r >>= g) := by
  cases r with
  | error x => exact .error (h.raises x rfl)
  | ok a => exact hg a (h.answer a rfl)

/-- An exception after reads carries the bus of the state they have led to. -/
theorem Comes.afterReads (h : SparesRom s t) {r : Except Trap α} (hr : Comes s P r) : Comes s P (afterReads t r) := by
  cases r with
  | ok a => exact .ok (hr.answer a rfl)
  | error x =>
    refine .error fun b hb => ?_
    cases hx : x.bus with
    | none => rw [hx] at hb; cases hb; exact h.1
    | some c => rw [hx] at hb; cases hb; exact hr.raises x rfl c hx

/-- A check: whatever it asks, its exception carries no bus. -/
abbrev Checks (r : Except Trap Unit) : Prop := ∀ x, r = .error x → x.bus = none

theorem Comes.check {r : Except Trap Unit} {g : Unit → Except Trap β} (h : Checks r) (hg : Comes s R (g ())) :
    Comes s R (r >>= g) := by
  cases r with
  | error x => exact .error (Trap.onMap_of_none (h x rfl))
  | ok a => exact hg

theorem Checks.ok : Checks (.ok ()) := fun _ h => nomatch h

theorem Checks.error {x : Trap} (h : x.bus = none) : Checks (.error x) := fun _ e => by cases e; exact h

theorem checks_require {c : Bool} {x : Trap} (h : x.bus = none) : Checks (require c x) := by
  unfold require
  split
  · exact .ok
  · exact .error h

theorem Checks.seq {r q : Except Trap Unit} (hr : Checks r) (hq : Checks q) : Checks (r >>= fun _ => q) := by
  cases r with
  | error x => exact hr
  | ok a => exact hq

/-- A requirement, then the rest. -/
theorem Comes.require {c : Bool} {x : Trap} {g : Unit → Except Trap β} (h : x.bus = none) (hg : Comes s R (g ())) :
    Comes s R (Machine.require c x >>= g) := .check (checks_require h) hg

end

theorem segTrap_bus (r : SegReg) : (segTrap r).bus = none := by cases r <;> rfl

theorem stackTrap_bus (s : State) : (stackTrap s).bus = none := by unfold stackTrap; split <;> rfl

theorem checks_segCheck (s : State) (r : SegReg) (off : Word) (n : Nat) (k : Access) : Checks (segCheck s r off n k) := by
  unfold segCheck
  split
  · split
    · exact .error (segTrap_bus r)
    · split
      · exact .error rfl
      · split
        · exact .error (segTrap_bus r)
        · exact .ok
  · split
    · exact .ok
    · exact .error rfl

theorem checks_checkRm8 (s : State) (e : Rm8) (k : Access) : Checks (checkRm8 s e k) := by
  cases e with
  | reg r => exact .ok
  | mem m => exact checks_segCheck _ _ _ _ _

theorem checks_checkRm16 (s : State) (e : Rm16) (k : Access) : Checks (checkRm16 s e k) := by
  cases e with
  | reg r => exact .ok
  | mem m => exact checks_segCheck _ _ _ _ _

end Sys2Proof.Machine
end

section
/-! PROOF of O57, continued: segment loads, task switches, deliveries and far transfers spare ROM, whether they complete or fail. -/

namespace Sys2Proof.Machine

variable {s t : State}

theorem checks_lockGuard (s : State) : Checks (lockGuard s) := checks_require rfl
theorem checks_ioplGuard (s : State) : Checks (ioplGuard s) := checks_require rfl
theorem checks_privilegeGuard (s : State) : Checks (privilegeGuard s) := checks_require rfl

/-! ### Reads, the stack and segment loads -/

theorem segRead8_comes (h : SparesRom s t) (r : SegReg) (off : Word) : Comes s (fun p => SparesRom s p.2) (segRead8 t r off) :=
  .check (checks_segCheck _ _ _ _ _) (.ok (h.others.load _))

theorem segRead16_comes (h : SparesRom s t) (r : SegReg) (off : Word) : Comes s (fun p => SparesRom s p.2) (segRead16 t r off) :=
  .check (checks_segCheck _ _ _ _ _) (.ok (h.segGet16 _ _))

theorem loadRm8_comes (h : SparesRom s t) (e : Rm8) (k : Access) : Comes s (fun p => SparesRom s p.2) (loadRm8 t e k) :=
  .check (checks_checkRm8 _ _ _) (.ok (h.getRm8 e))

theorem loadRm16_comes (h : SparesRom s t) (e : Rm16) (k : Access) : Comes s (fun p => SparesRom s p.2) (loadRm16 t e k) :=
  .check (checks_checkRm16 _ _ _) (.ok (h.getRm16 e))

theorem checks_checkPointer (s : State) (m : MemOp) : Checks (checkPointer s m) :=
  (checks_segCheck _ _ _ _ _).seq (checks_segCheck _ _ _ _ _)

theorem SparesRom.getPointer (h : SparesRom s t) (m : MemOp) : SparesRom s (t.getPointer m).st := (h.memWord _ _).memWord _ _

theorem loadPointer_comes (h : SparesRom s t) (m : MemOp) : Comes s (fun p => SparesRom s p.st) (loadPointer t m) :=
  .check (checks_checkPointer _ _) (.ok (h.getPointer m))

theorem push16_comes (h : SparesRom s t) (v : Word) : Comes s (SparesRom s) (push16 t v) :=
  .require (stackTrap_bus t) (.ok (h.segPut16 .ss _ v))

theorem stackTop_comes (h : SparesRom s t) : Comes s (fun p => SparesRom s p.2) (stackTop t) :=
  .require (stackTrap_bus t) (.ok (h.stackGet 0))

theorem pop16_comes (h : SparesRom s t) : Comes s (fun p => SparesRom s p.2) (pop16 t) :=
  .bind (stackTop_comes h) fun _ hp => .ok hp

theorem pushAll_comes (h : SparesRom s t) (ws : List Word) : Comes s (SparesRom s) (pushAll t ws) := by
  induction ws generalizing t with
  | nil => exact .ok h
  | cons w ws ih =>
    have hp := push16_comes h w
    unfold pushAll
    cases hx : push16 t w with
    | ok u => exact ih (hp.answer u hx)
    | error x => exact .error (hp.raises x hx)

theorem fetchOr_comes (h : SparesRom s t) (sel : Word) {x : Trap} (hx : x.bus = none) :
    Comes s (fun p => SparesRom s p.2) (fetchOr t sel x) := by
  refine ⟨fun p hp => ?_, fun y hy => ?_⟩
  · rw [fetchOr_state (d := p.1) (u := p.2) hp]
    exact h.others
  · unfold fetchOr at hy
    split at hy
    · cases hy
    · cases hy; exact Trap.onMap_of_none hx

theorem loadDataSeg_comes (h : SparesRom s t) (r : SegReg) (sel : Word) : Comes s (SparesRom s) (loadDataSeg t r sel) := by
  unfold loadDataSeg
  split
  · exact .ok (h.setSeg _ _)
  · split
    · exact .ok (h.setSeg _ _)
    · exact .bind (fetchOr_comes h sel rfl) fun ⟨d, _⟩ hu => .afterReads hu <|
        .require rfl <| .require rfl <| .require rfl <| .ok ((hu.setAccessed d).setSeg _ _)

theorem loadSs_comes (h : SparesRom s t) (sel : Word) : Comes s (SparesRom s) (loadSs t sel) := by
  unfold loadSs
  split
  · exact .ok h
  · exact .require rfl <| .bind (fetchOr_comes h sel rfl) fun ⟨d, _⟩ hu => .afterReads hu <|
      .require rfl <| .require rfl <| .require rfl <| .require rfl <| .ok (hu.setAccessed d)

/-! ### Exceptions inside transfers -/

/-- A check made in a state that spares ROM, then the rest: both ends spare ROM. -/
theorem Ends.comes {α : Type} {P : α → Prop} {r : Except Trap α} {g : α → Except Failure State} (h : SparesRom s t)
    (hr : Comes s P r) (hg : ∀ a, P a → Ends (SparesRom s) (g a)) : Ends (SparesRom s) (Machine.failIn t r >>= g) := by
  cases r with
  | error x => exact Ends.error (h.over (hr.raises x rfl))
  | ok a => exact hg a (hr.answer a rfl)

theorem Ends.comesLast {r : Except Trap State} (h : SparesRom s t) (hr : Comes s (SparesRom s) r) :
    Ends (SparesRom s) (Machine.failIn t r) := by
  cases r with
  | error x => exact Ends.error (h.over (hr.raises x rfl))
  | ok a => exact .ok (hr.answer a rfl)

theorem Ends.checks {r : Except Trap Unit} {g : Unit → Except Failure State} (h : SparesRom s t)
    (hr : Checks r) (hg : Ends (SparesRom s) (g ())) : Ends (SparesRom s) (Machine.failIn t r >>= g) :=
  Ends.comes (P := fun _ => True) h ⟨fun _ _ => trivial, fun x hx => Trap.onMap_of_none (hr x hx)⟩ fun _ _ => hg

/-! ### Task switches -/

theorem SparesRom.setBusy (h : SparesRom s t) (sel : Word) : SparesRom s (t.setBusy sel) := h.store _ _

theorem SparesRom.clearBusy (h : SparesRom s t) (sel : Word) : SparesRom s (t.clearBusy sel) := h.others.store _ _

theorem leaveTask_spares (h : SparesRom s t) (sel : Word) (b : Desc) (kind : SwitchKind) (outIp : Word) (ext : Bool) :
    Ends (SparesRom s) (leaveTask t sel b kind outIp ext) := by
  have h1 : SparesRom s (if kind = .iret then t else t.setBusy sel) := by
    split
    · exact h
    · exact h.setBusy sel
  unfold leaveTask
  dsimp only
  generalize (if kind = .iret then t else t.setBusy sel) = s1 at h1
  split
  · exact .error h1
  · have h2 := h1.pokeWords t.tr.base 14 (tssImage t outIp kind)
    refine .ok ?_
    generalize pokeWords s1 t.tr.base 14 (tssImage t outIp kind) = s2 at h2
    split
    · exact h2.storeWord _ _ _
    · exact h2.clearBusy _

theorem switchLdt_comes (h : SparesRom s t) (ext : Bool) : Comes s (SparesRom s) (switchLdt t ext) := by
  unfold switchLdt
  dsimp only
  split
  · exact .ok h
  · exact .require rfl <| .bind (fetchOr_comes h _ rfl) fun ⟨d, _⟩ hu => .afterReads hu <|
      .require rfl <| .require rfl <| .ok hu

theorem switchSs_comes (h : SparesRom s t) (ext : Bool) : Comes s (SparesRom s) (switchSs t ext) :=
  .require rfl <| .bind (fetchOr_comes h _ rfl) fun ⟨d, _⟩ hu => .afterReads hu <|
    .require rfl <| .require rfl <| .require rfl <| .require rfl <| .ok (hu.setAccessed d)

theorem switchCs_comes (h : SparesRom s t) (ext : Bool) : Comes s (SparesRom s) (switchCs t ext) :=
  .require rfl <| .bind (fetchOr_comes h _ rfl) fun ⟨d, _⟩ hu => .afterReads hu <|
    .require rfl <| .require rfl <| .require rfl <| .require rfl <| .ok (hu.setAccessed d)

theorem switchData_comes (h : SparesRom s t) (r : SegReg) (ext : Bool) : Comes s (SparesRom s) (switchData t r ext) := by
  unfold switchData
  dsimp only
  split
  · exact .ok h
  · exact .bind (fetchOr_comes h _ rfl) fun ⟨d, _⟩ hu => .afterReads hu <|
      .require rfl <| .require rfl <| .require rfl <| .ok ((hu.setAccessed d).setSeg _ _)

theorem SparesRom.loadTss (h : SparesRom s t) (kind : SwitchKind) : SparesRom s (loadTss t kind) := h.readWords t.tr.base 14 15

theorem enterTask_spares (h : SparesRom s t) (kind : SwitchKind) (ext : Bool) : Ends (SparesRom s) (enterTask t kind ext) :=
  .checks h (checks_require rfl) <|
  .comes (h.loadTss kind) (switchLdt_comes (h.loadTss kind) ext) fun _ h2 =>
  .comes h2 (switchSs_comes h2 ext) fun _ h3 =>
  .comes h3 (switchCs_comes h3 ext) fun _ h4 =>
  .comes h4 (switchData_comes h4 .ds ext) fun _ h5 =>
  .comesLast h5 (switchData_comes h5 .es ext)

theorem switchTasks_spares (h : SparesRom s t) (sel : Word) (b : Desc) (kind : SwitchKind) (outIp : Word) (ext : Bool) :
    Ends (SparesRom s) (switchTasks t sel b kind outIp ext) :=
  .bind (leaveTask_spares h sel b kind outIp ext) fun _ hu => enterTask_spares hu kind ext

theorem checkNewIp_spares (h : SparesRom s t) (ext : Bool) : Ends (SparesRom s) (checkNewIp t ext) :=
  .checks h (checks_require rfl) (.ok h)

/-! ### Deliveries -/

theorem SparesRom.commitCs (h : SparesRom s t) (sel : Word) (d : Desc) (off : Word) (cpl : BitVec 2) :
    SparesRom s (commitCs t sel d off cpl) := h.setAccessed d

theorem SparesRom.commitSs (h : SparesRom s t) (sel : Word) (d : Desc) (sp : Word) : SparesRom s (commitSs t sel d sp) :=
  h.setAccessed d

theorem SparesRom.setFlags (h : SparesRom s t) (f : Flags) : SparesRom s { t with flags := f } := h

theorem deliverReal_spares (h : SparesRom s t) (v : Byte) (retIp : Word) : Ends (SparesRom s) (deliverReal t v retIp) :=
  .checks h (checks_require rfl) <| .checks h (checks_require rfl) <|
  .comes h (pushAll_comes h _) fun _ hu => .ok ((hu.loadWord _ _).loadWord _ _)

theorem gateSameLevel_comes (h : SparesRom s t) (sel : Word) (c : Desc) (off retIp : Word) (err : Option Word) (ext : Bool) :
    Comes s (SparesRom s) (gateSameLevel t sel c off retIp err ext) :=
  .require rfl <| .require rfl <| .bind (pushAll_comes h _) fun _ hu => pushAll_comes (hu.commitCs _ _ _ _) _

theorem innerStack_comes (h : SparesRom s t) (n : BitVec 2) (ext : Bool) :
    Comes s (fun k => SparesRom s k.st) (innerStack t n ext) :=
  have h2 := (h.fetch16 t.tr.base (2 + 4 * n.toNat)).fetch16 _ (4 + 4 * n.toNat)
  .require rfl <| .afterReads h2 <| .require rfl <| .bind (fetchOr_comes h2 _ rfl) fun ⟨_, _⟩ hu => .afterReads hu <|
    .require rfl <| .require rfl <| .require rfl <| .require rfl <| .ok hu

theorem gateInnerLevel_comes (h : SparesRom s t) (sel : Word) (c : Desc) (off retIp : Word) (err : Option Word) (ext : Bool) :
    Comes s (SparesRom s) (gateInnerLevel t sel c off retIp err ext) :=
  .bind (innerStack_comes h _ ext) fun _ hk => .afterReads hk <| .require rfl <| .require rfl <|
    pushAll_comes ((hk.commitSs _ _ _).commitCs _ _ _ _) _

theorem intTrapGate_comes (h : SparesRom s t) (g : Desc) (retIp : Word) (err : Option Word) (ext : Bool) :
    Comes s (SparesRom s) (intTrapGate t g retIp err ext) := by
  refine .require rfl <| .bind (fetchOr_comes h _ rfl) fun ⟨c, u⟩ hu => .afterReads hu <|
    .require rfl <| .require rfl <| .require rfl ?_
  dsimp only
  split
  · exact .bind (gateInnerLevel_comes hu _ _ _ _ _ _) fun _ hv => .ok hv
  · split
    · exact .bind (gateSameLevel_comes hu _ _ _ _ _ _) fun _ hv => .ok hv
    · exact .error (Trap.onMap_of_none rfl)

theorem intTaskTarget_comes (h : SparesRom s t) (sel : Word) (ext : Bool) :
    Comes s (fun p => SparesRom s p.2) (intTaskTarget t sel ext) :=
  .require rfl <| .require rfl <| .bind (fetchOr_comes h _ rfl) fun ⟨_, _⟩ hu => .afterReads hu <|
    .require rfl <| .require rfl <| .ok hu

theorem intTaskGate_spares (h : SparesRom s t) (g : Desc) (retIp : Word) (err : Option Word) (ext : Bool) :
    Ends (SparesRom s) (intTaskGate t g retIp err ext) :=
  .comes h (intTaskTarget_comes h _ ext) fun ⟨_, _⟩ hv =>
  .bind (switchTasks_spares hv _ _ .nest retIp ext) fun _ hu =>
  .checks hu (checks_require rfl) <| .comes hu (pushAll_comes hu _) fun _ hw => checkNewIp_spares hw ext

theorem deliverProtected_spares (h : SparesRom s t) (v : Byte) (retIp : Word) (kind : EventKind) (err : Option Word)
    (ext : Bool) : Ends (SparesRom s) (deliverProtected t v retIp kind err ext) := by
  have hu := h.others
  refine .checks h (checks_require rfl) <| .checks hu (checks_require rfl) <| .checks hu (checks_require rfl) <|
    .checks hu (checks_require rfl) ?_
  split
  · exact intTaskGate_spares hu _ _ _ _
  · exact .comesLast hu (intTrapGate_comes hu _ _ _ _)

theorem attempt_spares (h : SparesRom s t) (v : Byte) (retIp : Word) (kind : EventKind) (code : Word) (ext : Bool) :
    Ends (SparesRom s) (attempt t v retIp kind code ext) := by
  unfold attempt
  split
  · exact deliverProtected_spares h _ _ _ _ _
  · exact deliverReal_spares h _ _

theorem SparesRom.deliverDouble (h : SparesRom s t) (retIp : Word) (ext : Bool) : SparesRom s (deliverDouble t retIp ext) := by
  have ha := attempt_spares h 8 retIp .exception 0 ext
  unfold Machine.deliverDouble
  cases hx : attempt t 8 retIp .exception 0 ext with
  | ok u => exact ha.1 u hx
  | error f => exact ha.2 f hx

theorem SparesRom.deliverFault {f : Failure} (h : SparesRom s f.st) (ext : Bool) : SparesRom s (deliverFault f ext) := by
  have ha := attempt_spares h f.trap.vector f.ip .exception f.trap.code ext
  unfold Machine.deliverFault
  cases hx : attempt f.st f.trap.vector f.ip .exception f.trap.code ext with
  | ok u => exact ha.1 u hx
  | error g =>
    dsimp only
    split
    · exact ha.2 g hx
    · exact (ha.2 g hx).deliverDouble _ _

/-- Taking an interrupt or exception spares ROM, whatever comes of it. -/
theorem SparesRom.deliver (h : SparesRom s t) (v : Byte) (retIp : Word) (kind : EventKind) (code : Word) :
    SparesRom s (deliver t v retIp kind code) := by
  have ha := attempt_spares h.release v retIp kind code (extOf kind v)
  unfold Machine.deliver
  dsimp only
  cases hx : attempt t.release v retIp kind code (extOf kind v) with
  | ok u => exact ha.1 u hx
  | error f =>
    have hf := ha.2 f hx
    dsimp only
    split
    · exact hf
    · split
      · exact SparesRom.deliverDouble (t := f.st.noStep) hf _ _
      · exact SparesRom.deliverFault (f := { f with st := f.st.noStep }) hf _

theorem SparesRom.raiseAt (h : SparesRom s t) {x : Trap} (hx : x.OnMap s) : SparesRom s (raiseAt t x) :=
  SparesRom.deliver (t := (x.over t).noStep) (h.over hx) _ _ _ _

/-! ### Far transfers -/

theorem checks_checkCodeTarget (s : State) (sel : Word) (d : Desc) : Checks (checkCodeTarget s sel d) := by
  refine (checks_require rfl).seq ?_
  split
  · exact (checks_require rfl).seq (checks_require rfl)
  · exact (checks_require rfl).seq ((checks_require rfl).seq (checks_require rfl))

theorem checks_gateAccess (s : State) (sel : Word) (ar : Byte) : Checks (gateAccess s sel ar) :=
  (checks_require rfl).seq (checks_require rfl)

theorem checks_tssTarget (s : State) (sel : Word) (d : Desc) : Checks (tssTarget s sel d) :=
  (checks_require rfl).seq ((checks_require rfl).seq (checks_require rfl))

theorem taskGateTarget_comes (h : SparesRom s t) (sel : Word) (g : Desc) :
    Comes s (fun p => SparesRom s p.2) (taskGateTarget t sel g) :=
  .check (checks_gateAccess _ _ _) <| .require rfl <| .require rfl <| .bind (fetchOr_comes h _ rfl) fun ⟨_, _⟩ hu =>
    .afterReads hu <| .require rfl <| .require rfl <| .ok hu

theorem switchTo_spares (h : SparesRom s t) (sel : Word) (b : Desc) (kind : SwitchKind) :
    Ends (SparesRom s) (switchTo t sel b kind) :=
  .bind (switchTasks_spares h sel b kind t.nextIp false) fun _ hu => checkNewIp_spares hu false

theorem jumpCode_comes (h : SparesRom s t) (sel : Word) (d : Desc) (off : Word) : Comes s (SparesRom s) (jumpCode t sel d off) :=
  .check (checks_checkCodeTarget _ _ _) <| .require rfl <| .ok (h.commitCs _ _ _ _)

theorem jumpGate_comes (h : SparesRom s t) (sel : Word) (g : Desc) : Comes s (SparesRom s) (jumpGate t sel g) :=
  .check (checks_gateAccess _ _ _) <| .require rfl <| .bind (fetchOr_comes h _ rfl) fun ⟨_, _⟩ hu => .afterReads hu <|
    .require rfl <| .require rfl <| .require rfl <| .require rfl <| .require rfl <| .ok (hu.commitCs _ _ _ _)

theorem farJump_spares (h : SparesRom s t) (sel off : Word) : Ends (SparesRom s) (farJump t sel off) := by
  unfold farJump
  split
  · exact .ok h
  · refine .checks h (checks_require rfl) <| .comes h (fetchOr_comes h _ rfl) fun ⟨d, u⟩ hu => ?_
    dsimp only
    split
    · exact .comesLast hu (jumpCode_comes hu _ _ _)
    · split
      · exact .comesLast hu (jumpGate_comes hu _ _)
      · split
        · exact .comes hu (taskGateTarget_comes hu _ _) fun ⟨_, _⟩ hv => switchTo_spares hv _ _ _
        · split
          · exact .checks hu (checks_tssTarget _ _ _) (switchTo_spares hu _ _ _)
          · exact .comesLast hu (.error (Trap.onMap_of_none rfl))

theorem pushReturn_comes (h : SparesRom s t) : Comes s (SparesRom s) (pushReturn t) :=
  .require (stackTrap_bus t) (pushAll_comes h _)

theorem callSame_comes (h : SparesRom s t) (sel : Word) (d : Desc) (off : Word) : Comes s (SparesRom s) (callSame t sel d off) :=
  .require (stackTrap_bus t) <| .require rfl <| .bind (pushReturn_comes h) fun _ hu => .ok (hu.commitCs _ _ _ _)

theorem SparesRom.paramWords (h : SparesRom s t) (k n : Nat) : SparesRom s (paramWords t k n).2 := by
  induction n generalizing t k with
  | zero => exact h
  | succ n ih => exact ih (h.stackGet k) (k + 2)

theorem callGateInner_comes (h : SparesRom s t) (sel : Word) (c : Desc) (off : Word) (wc : Nat) :
    Comes s (SparesRom s) (callGateInner t sel c off wc) :=
  .bind (innerStack_comes h _ false) fun _ hk => .afterReads hk <| .require rfl <| .require rfl <| .require rfl <|
    pushAll_comes (((hk.paramWords 0 wc).commitSs _ _ _).commitCs _ _ _ _) _

theorem callGate_comes (h : SparesRom s t) (sel : Word) (g : Desc) : Comes s (SparesRom s) (callGate t sel g) := by
  refine .check (checks_gateAccess _ _ _) <| .require rfl <| .bind (fetchOr_comes h _ rfl) fun ⟨_, _⟩ hu => .afterReads hu <|
    .require rfl <| .require rfl <| .require rfl ?_
  split
  · exact callGateInner_comes hu _ _ _ _
  · exact callSame_comes hu _ _ _

theorem farCall_spares (h : SparesRom s t) (sel off : Word) : Ends (SparesRom s) (farCall t sel off) := by
  unfold farCall
  split
  · exact .comes h (pushReturn_comes h) fun _ hu => .ok hu
  · refine .checks h (checks_require rfl) <| .comes h (fetchOr_comes h _ rfl) fun ⟨d, u⟩ hu => ?_
    dsimp only
    split
    · exact .comesLast hu (.check (checks_checkCodeTarget _ _ _) (callSame_comes hu _ _ _))
    · split
      · exact .comesLast hu (callGate_comes hu _ _)
      · split
        · exact .comes hu (taskGateTarget_comes hu _ _) fun ⟨_, _⟩ hv => switchTo_spares hv _ _ _
        · split
          · exact .checks hu (checks_tssTarget _ _ _) (switchTo_spares hu _ _ _)
          · exact .comesLast hu (.error (Trap.onMap_of_none rfl))

theorem returnCode_comes (h : SparesRom s t) (sel : Word) : Comes s (fun p => SparesRom s p.2) (returnCode t sel) :=
  .require rfl <| .bind (fetchOr_comes h _ rfl) fun ⟨_, _⟩ hu => .afterReads hu <|
    .require rfl <| .require rfl <| .require rfl <| .require rfl <| .ok hu

theorem returnStack_comes (h : SparesRom s t) (sel : Word) (l : BitVec 2) :
    Comes s (fun p => SparesRom s p.2) (returnStack t sel l) :=
  .require rfl <| .bind (fetchOr_comes h _ rfl) fun ⟨_, _⟩ hu => .afterReads hu <|
    .require rfl <| .require rfl <| .require rfl <| .require rfl <| .ok hu

theorem retSame_comes (h : SparesRom s t) (sel release : Word) : Comes s (SparesRom s) (retSame t sel release) :=
  .bind (returnCode_comes h sel) fun ⟨c, _⟩ hu => .afterReads hu <| .require rfl <| .afterReads (hu.stackGet 0) <|
    .require rfl <| .ok ((hu.stackGet 0).setAccessed c)

theorem retOuter_comes (h : SparesRom s t) (sel release : Word) : Comes s (SparesRom s) (retOuter t sel release) :=
  .require rfl <| .bind (returnCode_comes h sel) fun ⟨_, _⟩ hu =>
    have h2 := (hu.stackGet (4 + release.toNat)).stackGet (6 + release.toNat)
    .afterReads h2 <| .bind (returnStack_comes h2 _ _) fun ⟨_, _⟩ hv => .afterReads (hv.stackGet 0) <| .require rfl <|
      .ok (((((hv.stackGet 0).commitCs _ _ _ _).commitSs _ _ _).nullIfInaccessible _).nullIfInaccessible _)

theorem farReturn_spares (h : SparesRom s t) (release : Word) : Ends (SparesRom s) (farReturn t release) := by
  refine .comesLast h ?_
  split
  · refine .require rfl <| .afterReads (h.stackGet 2) <| .require rfl ?_
    split
    · exact retSame_comes (h.stackGet 2) _ _
    · exact retOuter_comes (h.stackGet 2) _ _
  · exact .require rfl <| .ok ((h.stackGet 0).stackGet 2)

theorem iretTask_spares (h : SparesRom s t) : Ends (SparesRom s) (iretTask t) :=
  have hv := h.fetch16 t.tr.base 0
  .checks h (checks_require rfl) <| .checks hv (checks_require rfl) <| .checks hv (checks_require rfl) <|
  .comes hv (fetchOr_comes hv _ rfl) fun ⟨_, _⟩ hw =>
  .checks hw (checks_require rfl) <| .checks hw (checks_require rfl) <|
  .bind (switchTasks_spares hw _ _ .iret t.nextIp false) fun _ hu => checkNewIp_spares hu false

theorem iretSame_comes (h : SparesRom s t) (sel : Word) : Comes s (SparesRom s) (iretSame t sel) :=
  .require rfl <| .bind (returnCode_comes h sel) fun ⟨c, _⟩ hu =>
    have h2 := (hu.stackGet 0).stackGet 4
    .afterReads h2 <| .require rfl <| .ok (h2.setAccessed c)

theorem iretOuter_comes (h : SparesRom s t) (sel : Word) : Comes s (SparesRom s) (iretOuter t sel) :=
  .require rfl <| .bind (returnCode_comes h sel) fun ⟨c, _⟩ hu =>
    have h2 := (hu.stackGet 6).stackGet 8
    .afterReads h2 <| .bind (returnStack_comes h2 _ _) fun ⟨_, _⟩ hv =>
      have h3 := (hv.stackGet 0).stackGet 4
      .afterReads h3 <| .require rfl <|
        .ok ((((h3.commitCs sel c _ _).setFlags _).commitSs _ _ _).nullIfInaccessible _ |>.nullIfInaccessible _)

theorem iretStack_comes (h : SparesRom s t) : Comes s (SparesRom s) (iretStack t) := by
  refine .require rfl <| .afterReads (h.stackGet 2) <| .require rfl ?_
  split
  · exact iretSame_comes (h.stackGet 2) _
  · exact iretOuter_comes (h.stackGet 2) _

theorem iretReal_comes (h : SparesRom s t) : Comes s (SparesRom s) (iretReal t) :=
  .require rfl <| .ok (((h.stackGet 0).stackGet 2).stackGet 4)

theorem interruptReturn_spares (h : SparesRom s t) : Ends (SparesRom s) (interruptReturn t) := by
  have done : ∀ u, SparesRom s u → Ends (SparesRom s) (.ok { u with nmiMasked := false }) := fun u hu => .ok hu
  unfold interruptReturn
  split
  · exact .comes h (iretReal_comes h) done
  · split
    · exact .bind (iretTask_spares h) done
    · exact .comes h (iretStack_comes h) done

end Sys2Proof.Machine
end

section
/-! PROOF of O57, concluded: every instruction, the boundary and the step spare ROM. -/

namespace Sys2Proof.Machine

variable {s t : State}

/-! ### How an instruction ends -/

/-- Where an instruction or a step goes on, it has spared ROM. -/
def NextSpares (s : State) (o : Host.Outcome State Fault Refusal) : Prop := ∀ t, o = .next t → SparesRom s t

theorem NextSpares.next (h : SparesRom s t) : NextSpares s (.next t) := fun _ e => by cases e; exact h

theorem raiseAt_spares {x : Trap} (hx : x.OnMap s) : NextSpares s (.next (raiseAt s x)) := .next ((SparesRom.refl s).raiseAt hx)

theorem undefinedOpcode_spares (s : State) : NextSpares s (undefinedOpcode s) := raiseAt_spares (Trap.onMap_of_none rfl)

theorem finish_spares {r : Except Trap State} (hr : Comes s (SparesRom s) r) : NextSpares s (finish s r) := by
  cases r with
  | ok u => exact .next (hr.answer u rfl)
  | error x => exact raiseAt_spares (hr.raises x rfl)

theorem runInstr_spares {r : Except Trap State} (hr : Comes s (SparesRom s) r) : NextSpares s (runInstr s r) :=
  finish_spares (.check (checks_lockGuard s) hr)

/-- An instruction that makes no bus cycle and raises nothing. -/
theorem runInstr_ok_spares {u : State} (h : SparesRom s u) : NextSpares s (runInstr s (.ok u)) := runInstr_spares (.ok h)

theorem runJump_spares {r : Except Trap State} (hr : Comes s (SparesRom s) r) : NextSpares s (runJump s r) := by
  have hg : Comes s (SparesRom s) (do lockGuard s; r) := .check (checks_lockGuard s) hr
  unfold runJump
  cases hx : (do lockGuard s; r) with
  | ok u => exact .next (hg.answer u hx)
  | error x => exact raiseAt_spares (hg.raises x hx)

theorem runFar_spares {r : Except Failure State} (hr : Ends (SparesRom s) r) : NextSpares s (runFar s r) := by
  have hg : Ends (SparesRom s) (do failIn s (lockGuard s); r) := .checks (.refl s) (checks_lockGuard s) hr
  unfold runFar
  cases hx : (do failIn s (lockGuard s); r) with
  | ok u => exact .next (hg.1 u hx)
  | error f => exact .next (SparesRom.deliver (t := f.st.noStep) (hg.2 f hx) _ _ _ _)

theorem runProtected_spares {r : Except Trap State} (hr : Comes s (SparesRom s) r) : NextSpares s (runProtected s r) := by
  unfold runProtected
  split
  · exact runInstr_spares hr
  · exact undefinedOpcode_spares s

/-! ### Arithmetic and logic -/

theorem aluRm8_comes (s : State) (op : AluOp) (e : Rm8) (v : Byte) : Comes s (SparesRom s) (aluRm8 op e v s) := by
  refine .bind (loadRm8_comes (.refl s) e _) fun d hd => .ok ?_
  have hc := hd.aluCompute op d.1 v
  split
  · exact hc
  · exact hc.storeRm8 e _

theorem aluRm16_comes (s : State) (op : AluOp) (e : Rm16) (v : Word) : Comes s (SparesRom s) (aluRm16 op e v s) := by
  refine .bind (loadRm16_comes (.refl s) e _) fun d hd => .ok ?_
  have hc := hd.aluCompute op d.1 v
  split
  · exact hc
  · exact hc.storeRm16 e _

theorem aluReg8_comes (s : State) (op : AluOp) (g : Reg8) (e : Rm8) : Comes s (SparesRom s) (aluReg8 op g e s) :=
  .bind (loadRm8_comes (.refl s) e _) fun v hv => .ok (hv.aluCompute op (s.reg8 g) v.1)

theorem aluReg16_comes (s : State) (op : AluOp) (g : Reg16) (e : Rm16) : Comes s (SparesRom s) (aluReg16 op g e s) :=
  .bind (loadRm16_comes (.refl s) e _) fun v hv => .ok (hv.aluCompute op (s.reg16 g) v.1)

theorem unaryRm8_comes (s : State) (op : UnaryOp) (e : Rm8) : Comes s (SparesRom s) (unaryRm8 op e s) :=
  .bind (loadRm8_comes (.refl s) e _) fun _ hd => .ok ((hd.setFlags _).storeRm8 e _)

theorem unaryRm16_comes (s : State) (op : UnaryOp) (e : Rm16) : Comes s (SparesRom s) (unaryRm16 op e s) :=
  .bind (loadRm16_comes (.refl s) e _) fun _ hd => .ok ((hd.setFlags _).storeRm16 e _)

theorem shiftRm8_comes (s : State) (op : ShiftOp) (e : Rm8) (raw : Byte) : Comes s (SparesRom s) (shiftRm8 op e raw s) :=
  .bind (loadRm8_comes (.refl s) e _) fun x hx => .ok ((hx.shiftCompute op x.1 raw).storeRm8 e _)

theorem shiftRm16_comes (s : State) (op : ShiftOp) (e : Rm16) (raw : Byte) : Comes s (SparesRom s) (shiftRm16 op e raw s) :=
  .bind (loadRm16_comes (.refl s) e _) fun x hx => .ok ((hx.shiftCompute op x.1 raw).storeRm16 e _)

theorem testRm8_comes (s : State) (e : Rm8) (v : Byte) : Comes s (SparesRom s) (testRm8 e v s) :=
  .bind (loadRm8_comes (.refl s) e _) fun _ ha => .ok ha

theorem testRm16_comes (s : State) (e : Rm16) (v : Word) : Comes s (SparesRom s) (testRm16 e v s) :=
  .bind (loadRm16_comes (.refl s) e _) fun _ ha => .ok ha

theorem mulRm8_comes (s : State) (e : Rm8) : Comes s (SparesRom s) (mulRm8 e s) :=
  .bind (loadRm8_comes (.refl s) e _) fun _ hv => .ok hv

theorem mulRm16_comes (s : State) (e : Rm16) : Comes s (SparesRom s) (mulRm16 e s) :=
  .bind (loadRm16_comes (.refl s) e _) fun _ hv => .ok hv

theorem imulRm8_comes (s : State) (e : Rm8) : Comes s (SparesRom s) (imulRm8 e s) :=
  .bind (loadRm8_comes (.refl s) e _) fun _ hv => .ok hv

theorem imulRm16_comes (s : State) (e : Rm16) : Comes s (SparesRom s) (imulRm16 e s) :=
  .bind (loadRm16_comes (.refl s) e _) fun _ hv => .ok hv

theorem imulImm_comes (s : State) (r : Reg16) (e : Rm16) (imm : Word) : Comes s (SparesRom s) (imulImm r e imm s) :=
  .bind (loadRm16_comes (.refl s) e _) fun _ hv => .ok hv

/-- A check of a quotient is made after the operand is read. -/
theorem Comes.quotient {c : Bool} {x : Trap} {g : Unit → Except Trap State} (h : SparesRom s t) (hx : x.bus = none)
    (hg : Comes s (SparesRom s) (g ())) : Comes s (SparesRom s) (Machine.afterReads t (Machine.require c x) >>= g) :=
  .bind (P := fun _ => True) (.afterReads h ⟨fun _ _ => trivial, fun y hy => Trap.onMap_of_none (checks_require hx y hy)⟩)
    fun _ _ => hg

theorem divRm8_comes (s : State) (e : Rm8) : Comes s (SparesRom s) (divRm8 e s) :=
  .bind (loadRm8_comes (.refl s) e _) fun _ hv => .quotient hv rfl (.ok hv)

theorem divRm16_comes (s : State) (e : Rm16) : Comes s (SparesRom s) (divRm16 e s) :=
  .bind (loadRm16_comes (.refl s) e _) fun _ hv => .quotient hv rfl (.ok hv)

theorem idivRm8_comes (s : State) (e : Rm8) : Comes s (SparesRom s) (idivRm8 e s) :=
  .bind (loadRm8_comes (.refl s) e _) fun _ hv => .quotient hv rfl (.ok hv)

theorem idivRm16_comes (s : State) (e : Rm16) : Comes s (SparesRom s) (idivRm16 e s) :=
  .bind (loadRm16_comes (.refl s) e _) fun _ hv => .quotient hv rfl (.ok hv)

/-! ### Data transfer -/

theorem movToRm8_comes (s : State) (e : Rm8) (v : Byte) : Comes s (SparesRom s) (movToRm8 e v s) :=
  .check (checks_checkRm8 _ _ _) (.ok ((SparesRom.refl s).storeRm8 e v))

theorem movToRm16_comes (s : State) (e : Rm16) (v : Word) : Comes s (SparesRom s) (movToRm16 e v s) :=
  .check (checks_checkRm16 _ _ _) (.ok ((SparesRom.refl s).storeRm16 e v))

theorem movToReg8_comes (s : State) (r : Reg8) (e : Rm8) : Comes s (SparesRom s) (movToReg8 r e s) :=
  .bind (loadRm8_comes (.refl s) e _) fun _ hv => .ok hv

theorem movToReg16_comes (s : State) (r : Reg16) (e : Rm16) : Comes s (SparesRom s) (movToReg16 r e s) :=
  .bind (loadRm16_comes (.refl s) e _) fun _ hv => .ok hv

theorem movToSeg_comes (s : State) (r : SegReg) (e : Rm16) : Comes s (SparesRom s) (movToSeg r e s) :=
  .bind (loadRm16_comes (.refl s) e _) fun _ hv => .afterReads hv (loadDataSeg_comes hv r _)

theorem movToSs_comes (s : State) (e : Rm16) : Comes s (SparesRom s) (movToSs e s) :=
  .bind (loadRm16_comes (.refl s) e _) fun _ hv => .bind (.afterReads hv (loadSs_comes hv _)) fun _ hu => .ok hu

/-- An operation spares ROM with the bus locked as it does with the bus free: the lock is no part of what is spared. -/
theorem locked_comes {op : State → Except Trap State} (h : ∀ t, SparesRom s t → Comes s (SparesRom s) (op t)) :
    Comes s (SparesRom s) (locked op s) := by
  have ho := h (s.withLock .active) (SparesRom.refl s)
  unfold locked
  cases hx : op (s.withLock .active) with
  | ok u => exact .ok (ho.answer u hx)
  | error x =>
    refine .error fun b hb => ?_
    obtain ⟨c, hc, rfl⟩ := Option.map_eq_some_iff.1 hb
    exact ho.raises x hx c hc

theorem xchgRm8_comes (s : State) (e : Rm8) (r : Reg8) : Comes s (SparesRom s) (xchgRm8 e r s) :=
  locked_comes fun _ ht => .bind (loadRm8_comes ht e _) fun _ hv => .ok (hv.storeRm8 e _)

theorem xchgRm16_comes (s : State) (e : Rm16) (r : Reg16) : Comes s (SparesRom s) (xchgRm16 e r s) :=
  locked_comes fun _ ht => .bind (loadRm16_comes ht e _) fun _ hv => .ok (hv.storeRm16 e _)

theorem popReg_comes (s : State) (r : Reg16) : Comes s (SparesRom s) (popReg r s) :=
  .bind (pop16_comes (.refl s)) fun _ hp => .ok hp

theorem popRm_comes (s : State) (e : Rm16) : Comes s (SparesRom s) (popRm e s) :=
  .require (stackTrap_bus s) <| .check (checks_checkRm16 _ _ _) <|
    .ok (SparesRom.storeRm16 (t := (s.stackGet 0).2.setSp (s.gpr.sp + 2)) ((SparesRom.refl s).stackGet 0) e _)

theorem pushRm_comes (s : State) (e : Rm16) : Comes s (SparesRom s) (pushRm e s) :=
  .check (checks_checkRm16 _ _ _) <| .require (stackTrap_bus s) <| push16_comes ((SparesRom.refl s).getRm16 e) _

theorem popSeg_comes (s : State) (r : SegReg) : Comes s (SparesRom s) (popSeg r s) :=
  .bind (stackTop_comes (.refl s)) fun _ hv => .bind (.afterReads hv (loadDataSeg_comes hv r _)) fun _ hu => .ok hu

theorem popStackSeg_comes (s : State) : Comes s (SparesRom s) (popStackSeg s) :=
  .bind (stackTop_comes (.refl s)) fun _ hv => .bind (.afterReads hv (loadSs_comes hv _)) fun _ hu => .ok hu

theorem pushaAll_comes (s : State) : Comes s (SparesRom s) (pushaAll s) :=
  .require (stackTrap_bus s) <| pushAll_comes (.refl s) _

theorem popaAll_comes (s : State) : Comes s (SparesRom s) (popaAll s) :=
  have h4 := ((((SparesRom.refl s).stackGet 0).stackGet 2).stackGet 4).stackGet 6
  .require (stackTrap_bus s) <| .ok ((((h4.stackGet 8).stackGet 10).stackGet 12).stackGet 14)

theorem popFlags_comes (s : State) : Comes s (SparesRom s) (popFlags s) := .bind (pop16_comes (.refl s)) fun _ hp => .ok hp

theorem xlatByte_comes (s : State) : Comes s (SparesRom s) (xlatByte s) := .bind (segRead8_comes (.refl s) _ _) fun _ hv => .ok hv

theorem loadFarPointer_comes (s : State) (r : Reg16) (m : MemOp) (q : SegReg) : Comes s (SparesRom s) (loadFarPointer r m q s) :=
  .bind (loadPointer_comes (.refl s) m) fun _ hp => .bind (.afterReads hp (loadDataSeg_comes hp q _)) fun _ hu => .ok hu

theorem inByte_comes (s : State) (p : Word) : Comes s (SparesRom s) (inByte p s) :=
  .check (checks_ioplGuard s) (.ok ((SparesRom.refl s).portRead8 p))

theorem inWord_comes (s : State) (p : Word) : Comes s (SparesRom s) (inWord p s) :=
  .check (checks_ioplGuard s) (.ok ((SparesRom.refl s).portRead16 p))

theorem outByte_comes (s : State) (p : Word) : Comes s (SparesRom s) (outByte p s) :=
  .check (checks_ioplGuard s) (.ok ((SparesRom.refl s).portWrite8 p _))

theorem outWord_comes (s : State) (p : Word) : Comes s (SparesRom s) (outWord p s) :=
  .check (checks_ioplGuard s) (.ok ((SparesRom.refl s).portWrite16 p _))

/-! ### Control transfer -/

theorem nearTo_comes (h : SparesRom s t) (target : Word) : Comes s (SparesRom s) (nearTo t target) := .require rfl (.ok h)

theorem jumpIf_spares (s : State) (c : Bool) (disp : Byte) : NextSpares s (jumpIf c disp s) := by
  unfold jumpIf
  split
  · exact runJump_spares (nearTo_comes (.refl s) _)
  · exact runInstr_ok_spares (.refl s)

theorem loopIf_spares (s : State) (c : Bool) (disp : Byte) : NextSpares s (loopIf c disp s) := by
  unfold loopIf
  split
  · exact runJump_spares (.bind (nearTo_comes (.refl s) _) fun _ hu => .ok hu)
  · exact runInstr_ok_spares (.refl s)

theorem nearCall_comes (h : SparesRom s t) (target : Word) : Comes s (SparesRom s) (nearCall t target) :=
  .require (stackTrap_bus t) <| .bind (nearTo_comes h target) fun _ hu => push16_comes hu _

theorem nearCallRm_comes (s : State) (e : Rm16) : Comes s (SparesRom s) (nearCallRm s e) :=
  have hv := (SparesRom.refl s).getRm16 e
  .check (checks_checkRm16 _ _ _) <| .require (stackTrap_bus s) <| .afterReads hv (nearCall_comes hv _)

theorem nearRet_comes (s : State) (release : Word) : Comes s (SparesRom s) (nearRet s release) :=
  .bind (pop16_comes (.refl s)) fun _ hp => .bind (.afterReads hp (nearTo_comes hp _)) fun _ hu => .ok hu

theorem nearJumpRm_comes (s : State) (e : Rm16) :
    Comes s (SparesRom s) (do let t ← loadRm16 s e .read; afterReads t.2 (nearTo t.2 t.1)) :=
  .bind (loadRm16_comes (.refl s) e _) fun _ hv => .afterReads hv (nearTo_comes hv _)

theorem farJumpIndirect_spares (s : State) (m : MemOp) : Ends (SparesRom s) (farJumpIndirect s m) :=
  .comes (.refl s) (loadPointer_comes (.refl s) m) fun _ hp => farJump_spares hp _ _

theorem farCallIndirect_spares (s : State) (m : MemOp) : Ends (SparesRom s) (farCallIndirect s m) :=
  .checks (.refl s) (checks_checkPointer _ _) <| .checks (.refl s) (checks_require (stackTrap_bus s)) <|
    farCall_spares ((SparesRom.refl s).getPointer m) _ _

theorem runInt_spares (s : State) (v : Byte) : NextSpares s (runInt v s) := by
  unfold runInt
  cases hx : lockGuard s with
  | ok _ => exact .next ((SparesRom.refl s).deliver _ _ _ _)
  | error x => exact raiseAt_spares (Trap.onMap_of_none (checks_lockGuard s x hx))

/-! ### Flags and processor control -/

theorem clearIf_comes (s : State) : Comes s (SparesRom s) (clearIf s) := .check (checks_ioplGuard s) (.ok (.refl s))

theorem setIf_comes (s : State) : Comes s (SparesRom s) (setIf s) := .check (checks_ioplGuard s) (.ok (.refl s))

theorem checks_displayFits (s : State) (bp : Word) (n : Nat) : Checks (displayFits s bp n) := by
  induction n generalizing bp with
  | zero => exact .ok
  | succ n ih => exact (checks_segCheck _ _ _ _ _).seq (ih _)

theorem copyDisplay_comes (h : SparesRom s t) (bp : Word) (n : Nat) : Comes s (SparesRom s) (copyDisplay t bp n) := by
  induction n generalizing t bp with
  | zero => exact .ok h
  | succ n ih => exact .bind (segRead16_comes h _ _) fun _ hw => .bind (push16_comes hw _) fun _ hu => ih hu _

theorem pushDisplay_comes (h : SparesRom s t) (bp fp : Word) (n : Nat) : Comes s (SparesRom s) (pushDisplay t bp fp n) := by
  cases n with
  | zero => exact .ok h
  | succ n => exact .bind (copyDisplay_comes h bp n) fun _ hu => push16_comes hu fp

theorem checks_enterRoom (s : State) (size sp : Word) : Checks (enterRoom s size sp) := by
  unfold enterRoom
  split
  · exact checks_require rfl
  · exact .ok

theorem enterFrame_comes (s : State) (size : Word) (level : Byte) : Comes s (SparesRom s) (enterFrame size level s) :=
  .require (stackTrap_bus s) <| .check (checks_displayFits _ _ _) <| .check (checks_enterRoom _ _ _) <|
    .bind (push16_comes (.refl s) _) fun _ ht => .bind (pushDisplay_comes ht _ _ _) fun _ hu => .ok hu

theorem leaveFrame_comes (s : State) : Comes s (SparesRom s) (leaveFrame s) :=
  .require (stackTrap_bus s) (.ok ((SparesRom.refl s).segGet16 _ _))

theorem boundCheck_comes (s : State) (r : Reg16) (m : MemOp) : Comes s (SparesRom s) (boundCheck r m s) :=
  have h2 := ((SparesRom.refl s).segGet16 (s.memSeg m) (s.effOffset m)).segGet16 (s.memSeg m) (s.effOffset m + 2)
  .check (checks_segCheck _ _ _ _ _) <| .quotient h2 rfl (.ok h2)

theorem haltMachine_comes (s : State) : Comes s (SparesRom s) (haltMachine s) := .check (checks_privilegeGuard s) (.ok (.refl s))

theorem afterBusy_spares (s : State) (waits testError : Bool) {r : Except Trap State} (hr : Comes s (SparesRom s) r) :
    NextSpares s (afterBusy s waits testError r) := by
  unfold afterBusy
  split
  · exact .next (.refl s)
  · split
    · exact raiseAt_spares (Trap.onMap_of_none rfl)
    · exact runInstr_spares hr

theorem checks_escCheck (s : State) (op : BitVec 6) (r : SegReg) (off : Word) : Checks (escCheck s op r off) := by
  unfold escCheck
  split
  · split
    · exact .error (segTrap_bus r)
    · split
      · exact .error rfl
      · split
        · exact .error (segTrap_bus r)
        · exact .ok
  · split
    · exact .ok
    · exact .error rfl

theorem escSend_comes (s : State) (op ext : BitVec 3) (e : RM (BitVec 3)) : Comes s (SparesRom s) (escSend op ext e s) := by
  cases e with
  | reg r => exact .ok ((SparesRom.refl s).escape _)
  | mem m => exact .check (checks_escCheck _ _ _ _) (.ok ((SparesRom.refl s).escape _))

theorem execWait_spares (s : State) : NextSpares s (execWait s) := by
  unfold execWait
  split
  · exact raiseAt_spares (Trap.onMap_of_none rfl)
  · exact afterBusy_spares s _ _ (.ok (.refl s))

theorem execEsc_spares (s : State) (op ext : BitVec 3) (e : RM (BitVec 3)) : NextSpares s (execEsc op ext e s) := by
  unfold execEsc
  split
  · exact raiseAt_spares (Trap.onMap_of_none rfl)
  · exact afterBusy_spares s _ _ (escSend_comes s op ext e)

theorem withPrefix_spares (s : State) (p : Prefixes) : NextSpares s (s.withPrefix p) := .next (.refl s)

/-! ### Strings -/

theorem movsOnce_comes (h : SparesRom s t) (w : Elem) : Comes s (SparesRom s) (movsOnce w t) :=
  .check (checks_segCheck _ _ _ _ _) <| .check (checks_segCheck _ _ _ _ _) <| .ok ((h.elemGet w _ _).elemPut w .es t.gpr.di _)

theorem cmpsOnce_comes (h : SparesRom s t) (w : Elem) : Comes s (SparesRom s) (cmpsOnce w t) :=
  .check (checks_segCheck _ _ _ _ _) <| .check (checks_segCheck _ _ _ _ _) <|
    .ok ((h.elemGet w (t.overridden .ds) t.gpr.si).elemGet w .es _)

theorem scasOnce_comes (h : SparesRom s t) (w : Elem) : Comes s (SparesRom s) (scasOnce w t) :=
  .check (checks_segCheck _ _ _ _ _) <| .ok (h.elemGet w .es t.gpr.di)

theorem lodsOnce_comes (h : SparesRom s t) (w : Elem) : Comes s (SparesRom s) (lodsOnce w t) := by
  refine .check (checks_segCheck _ _ _ _ _) <| .ok ?_
  have hv := h.elemGet w (t.overridden .ds) t.gpr.si
  cases w <;> exact hv

theorem stosOnce_comes (h : SparesRom s t) (w : Elem) : Comes s (SparesRom s) (stosOnce w t) :=
  .check (checks_segCheck _ _ _ _ _) <| .ok (h.elemPut w .es t.gpr.di _)

theorem insOnce_comes (h : SparesRom s t) (w : Elem) : Comes s (SparesRom s) (insOnce w t) :=
  .check (checks_ioplGuard t) <| .check (checks_segCheck _ _ _ _ _) <| .ok ((h.elemPortRead w).elemPut w .es t.gpr.di _)

theorem outsOnce_comes (h : SparesRom s t) (w : Elem) : Comes s (SparesRom s) (outsOnce w t) :=
  .check (checks_ioplGuard t) <| .check (checks_segCheck _ _ _ _ _) <| .ok ((h.elemGet w _ _).elemPortWrite w _)

theorem SparesRom.endIteration (h : SparesRom s t) (k : RepKind) (compares locks : Bool) :
    SparesRom s (t.endIteration k compares locks) := by
  unfold State.endIteration
  split
  · exact h
  · cases locks <;> exact h

/-- One iteration, the bus locked or not, then the rest. -/
theorem Comes.iteration {once : State → Except Trap State} (h : ∀ t, SparesRom s t → Comes s (SparesRom s) (once t))
    (locks : Bool) {g : State → Except Trap State} (hg : ∀ u, SparesRom s u → Comes s (SparesRom s) (g u)) :
    Comes s (SparesRom s) (if locks then locked once s >>= g else once s >>= g) := by
  split
  · exact .bind (locked_comes h) hg
  · exact .bind (h s (.refl s)) hg

theorem stringOp_comes {once : State → Except Trap State} (h : ∀ t, SparesRom s t → Comes s (SparesRom s) (once t))
    (compares locks : Bool) : Comes s (SparesRom s) (stringOp compares locks once s) := by
  unfold stringOp
  split
  · exact .iteration h locks fun _ hu => .ok hu
  · split
    · exact .ok (.refl s)
    · exact .iteration h locks fun u hu => .ok (SparesRom.endIteration (t := u.decCx) hu _ _ _)

theorem runString_spares {once : State → Except Trap State} (h : ∀ t, SparesRom s t → Comes s (SparesRom s) (once t))
    (compares lockable : Bool) : NextSpares s (runString compares lockable once s) := by
  have hg : Comes s (SparesRom s) (do lockGuard s; stringOp compares (lockable && s.pfx.lock) once s) :=
    .check (checks_lockGuard s) (stringOp_comes h _ _)
  unfold runString
  cases hx : (do lockGuard s; stringOp compares (lockable && s.pfx.lock) once s) with
  | ok u => exact .next (hg.answer u hx)
  | error x => exact raiseAt_spares (hg.raises x hx)

/-! ### System instructions -/

theorem checks_checkTable (s : State) (m : MemOp) (k : Access) : Checks (checkTable s m k) :=
  (checks_segCheck _ _ _ _ _).seq ((checks_segCheck _ _ _ _ _).seq (checks_segCheck _ _ _ _ _))

theorem storeTable_comes (s : State) (m : MemOp) (r : TableReg) : Comes s (SparesRom s) (storeTable m r s) :=
  .check (checks_checkTable _ _ _) <| .ok ((((SparesRom.refl s).segPut16 _ _ _).segPut16 _ _ _).segPut16 _ _ _)

theorem loadTable_comes (s : State) (m : MemOp) : Comes s (fun p => SparesRom s p.2) (loadTable m s) :=
  .check (checks_checkTable _ _ _) <| .ok ((((SparesRom.refl s).memWord m 0).memWord m 2).memWord m 4)

theorem loadGdtr_comes (s : State) (m : MemOp) : Comes s (SparesRom s) (loadGdtr m s) :=
  .check (checks_privilegeGuard s) <| .bind (loadTable_comes s m) fun _ ht => .ok ht

theorem loadIdtr_comes (s : State) (m : MemOp) : Comes s (SparesRom s) (loadIdtr m s) :=
  .check (checks_privilegeGuard s) <| .bind (loadTable_comes s m) fun _ ht => .ok ht

theorem loadLdtr_comes (s : State) (e : Rm16) : Comes s (SparesRom s) (loadLdtr e s) := by
  refine .check (checks_privilegeGuard s) <| .bind (loadRm16_comes (.refl s) e _) fun v hv => ?_
  dsimp only
  split
  · exact .ok hv
  · exact .afterReads hv <| .require rfl <| .bind (fetchOr_comes hv _ rfl) fun ⟨_, _⟩ hu => .afterReads hu <|
      .require rfl <| .require rfl <| .ok hu

theorem loadTr_comes (s : State) (e : Rm16) : Comes s (SparesRom s) (loadTr e s) :=
  .check (checks_privilegeGuard s) <| .bind (loadRm16_comes (.refl s) e _) fun v hv => .afterReads hv <|
    .require rfl <| .require rfl <| .bind (fetchOr_comes hv _ rfl) fun ⟨_, _⟩ hu => .afterReads hu <|
      .require rfl <| .require rfl <| .ok (hu.setBusy v.1)

theorem finishLmsw_spares {r : Except Trap (Word × State)} (hr : Comes s (fun p => SparesRom s p.2) r) :
    NextSpares s (finishLmsw s r) := by
  cases r with
  | error x => exact raiseAt_spares (hr.raises x rfl)
  | ok v =>
    have hv := hr.answer v rfl
    unfold finishLmsw
    dsimp only
    split
    · split
      · exact fun _ e => nomatch e
      · exact .next hv.release
    · exact .next hv

theorem clearTs_comes (s : State) : Comes s (SparesRom s) (clearTs s) := .check (checks_privilegeGuard s) (.ok (.refl s))

theorem adjustRpl_comes (s : State) (e : Rm16) (r : Reg16) : Comes s (SparesRom s) (adjustRpl e r s) := by
  refine .bind (loadRm16_comes (.refl s) e _) fun d hd => ?_
  split
  · exact .ok (hd.storeRm16 e _)
  · exact .ok hd

theorem look_spares (h : SparesRom s t) {sel : Word} {d : Desc} {u : State} (hl : look t sel = some (d, u)) : SparesRom s u := by
  unfold look State.readTable at hl
  split at hl
  · cases hl
  · obtain ⟨e, -, he⟩ := Option.map_eq_some_iff.1 hl
    cases he
    exact h.others

theorem SparesRom.selectorTest (h : SparesRom s t) (sel : Word) (ok : Desc → Bool) {result : State → Desc → State}
    (hr : ∀ u d, SparesRom s u → SparesRom s (result u d)) : SparesRom s (selectorTest t sel ok result) := by
  unfold Machine.selectorTest
  split
  · exact h
  · next d u hl =>
    have hu := look_spares h hl
    split
    · exact hr _ d (hu.touch d)
    · exact hu

theorem loadAccess_comes (s : State) (r : Reg16) (e : Rm16) : Comes s (SparesRom s) (loadAccess r e s) :=
  .bind (loadRm16_comes (.refl s) e _) fun _ hv => .ok (hv.selectorTest _ _ fun _ _ h => h)

theorem loadLimit_comes (s : State) (r : Reg16) (e : Rm16) : Comes s (SparesRom s) (loadLimit r e s) :=
  .bind (loadRm16_comes (.refl s) e _) fun _ hv => .ok (hv.selectorTest _ _ fun _ _ h => h)

theorem verifyRead_comes (s : State) (e : Rm16) : Comes s (SparesRom s) (verifyRead e s) :=
  .bind (loadRm16_comes (.refl s) e _) fun _ hv => .ok (hv.selectorTest _ _ fun _ _ h => h)

theorem verifyWrite_comes (s : State) (e : Rm16) : Comes s (SparesRom s) (verifyWrite e s) :=
  .bind (loadRm16_comes (.refl s) e _) fun _ hv => .ok (hv.selectorTest _ _ fun _ _ h => h)

theorem lmswOperand_comes (s : State) (e : Rm16) :
    Comes s (fun p => SparesRom s p.2) (do lockGuard s; privilegeGuard s; loadRm16 s e .read) :=
  .check (checks_lockGuard s) <| .check (checks_privilegeGuard s) <| loadRm16_comes (.refl s) e _

/-! ### Every instruction -/

theorem execInto_spares (s : State) : NextSpares s (execInto s) := by
  unfold execInto
  split
  · exact runInt_spares s 4
  · exact runInstr_ok_spares (.refl s)

/-- An instruction that has a memory form only: its register form is an undefined opcode. -/
theorem memoryOnly_spares {R : Type} (f : RM R → Host.Outcome State Fault Refusal) (e : RM R)
    (hr : ∀ r, f (.reg r) = undefinedOpcode s) (hm : ∀ m, NextSpares s (f (.mem m))) : NextSpares s (f e) := by
  cases e with
  | reg r => exact (hr r).symm ▸ undefinedOpcode_spares s
  | mem m => exact hm m

/-- No instruction changes ROM, absent memory or the map: one case for each meaning that instructions share. -/
theorem exec_spares (i : Instr) (s : State) : NextSpares s (exec i s) := by
  cases i with
  | addEbRb | addAlDb | orEbRb | orAlDb | adcEbRb | adcAlDb | sbbEbRb | sbbAlDb | andEbRb | andAlDb | subEbRb | subAlDb
    | xorEbRb | xorAlDb | cmpEbRb | cmpAlDb | addEbDb | orEbDb | adcEbDb | sbbEbDb | andEbDb | subEbDb | xorEbDb | cmpEbDb =>
    exact runInstr_spares (aluRm8_comes s _ _ _)
  | addEwRw | addAxDw | orEwRw | orAxDw | adcEwRw | adcAxDw | sbbEwRw | sbbAxDw | andEwRw | andAxDw | subEwRw | subAxDw
    | xorEwRw | xorAxDw | cmpEwRw | cmpAxDw | addEwDw | orEwDw | adcEwDw | sbbEwDw | andEwDw | subEwDw | xorEwDw | cmpEwDw
    | addEwDb | adcEwDb | sbbEwDb | subEwDb | cmpEwDb => exact runInstr_spares (aluRm16_comes s _ _ _)
  | addRbEb | orRbEb | adcRbEb | sbbRbEb | andRbEb | subRbEb | xorRbEb | cmpRbEb =>
    exact runInstr_spares (aluReg8_comes s _ _ _)
  | addRwEw | orRwEw | adcRwEw | sbbRwEw | andRwEw | subRwEw | xorRwEw | cmpRwEw =>
    exact runInstr_spares (aluReg16_comes s _ _ _)
  | incRw | decRw | notEw | negEw | incEw | decEw => exact runInstr_spares (unaryRm16_comes s _ _)
  | mulEb => exact runInstr_spares (mulRm8_comes s _)
  | mulEw => exact runInstr_spares (mulRm16_comes s _)
  | imulEb => exact runInstr_spares (imulRm8_comes s _)
  | imulEw => exact runInstr_spares (imulRm16_comes s _)
  | divEb => exact runInstr_spares (divRm8_comes s _)
  | divEw => exact runInstr_spares (divRm16_comes s _)
  | idivEb => exact runInstr_spares (idivRm8_comes s _)
  | idivEw => exact runInstr_spares (idivRm16_comes s _)
  | imulRwEwDw | imulRwEwDb => exact runInstr_spares (imulImm_comes s _ _ _)
  | movEbRb | movXbAl | movEbDb => exact runInstr_spares (movToRm8_comes s _ _)
  | movEwRw | movEwEs | movEwCs | movEwSs | movEwDs | movXwAx | movEwDw | smsw =>
    exact runInstr_spares (movToRm16_comes s _ _)
  | movRbEb | movAlXb => exact runInstr_spares (movToReg8_comes s _ _)
  | movRwEw | movAxXw => exact runInstr_spares (movToReg16_comes s _ _)
  | movRbDb | movRwDw | daa | das | aaa | aas | nop | cbw | cwd | sahf | lahf | aam | aad | cmc | clc | stc | cld | std =>
    exact runInstr_ok_spares (.refl s)
  | movEsEw | movDsEw => exact runInstr_spares (movToSeg_comes s _ _)
  | movSsEw => exact runInstr_spares (movToSs_comes s _)
  | xchgEbRb => exact runInstr_spares (xchgRm8_comes s _ _)
  | xchgEwRw | xchgAxRw => exact runInstr_spares (xchgRm16_comes s _ _)
  | pushRw | pushDw | pushDb | pushEs | pushCs | pushSs | pushDs | pushf => exact runInstr_spares (push16_comes (.refl s) _)
  | pushMw => exact runInstr_spares (pushRm_comes s _)
  | popRw => exact runInstr_spares (popReg_comes s _)
  | popMw => exact runInstr_spares (popRm_comes s _)
  | popEs | popDs => exact runInstr_spares (popSeg_comes s _)
  | popSs => exact runInstr_spares (popStackSeg_comes s)
  | pusha => exact runInstr_spares (pushaAll_comes s)
  | popa => exact runInstr_spares (popaAll_comes s)
  | popf => exact runInstr_spares (popFlags_comes s)
  | xlat => exact runInstr_spares (xlatByte_comes s)
  | lea r e => exact memoryOnly_spares (execLea r · s) e (fun _ => rfl) (fun _ => runInstr_ok_spares (.refl s))
  | lds r e => exact memoryOnly_spares (execLds r · s) e (fun _ => rfl) (fun _ => runInstr_spares (loadFarPointer_comes s _ _ _))
  | les r e => exact memoryOnly_spares (execLes r · s) e (fun _ => rfl) (fun _ => runInstr_spares (loadFarPointer_comes s _ _ _))
  | inAlDb | inAlDx => exact runInstr_spares (inByte_comes s _)
  | inAxDb | inAxDx => exact runInstr_spares (inWord_comes s _)
  | outDbAl | outDxAl => exact runInstr_spares (outByte_comes s _)
  | outDbAx | outDxAx => exact runInstr_spares (outWord_comes s _)
  | jmpCw | jmpCb => exact runJump_spares (nearTo_comes (.refl s) _)
  | jmpEw => exact runJump_spares (nearJumpRm_comes s _)
  | jmpCd => exact runFar_spares (farJump_spares (.refl s) _ _)
  | jmpEd e => exact memoryOnly_spares (execJmpEd · s) e (fun _ => rfl) (fun m => runFar_spares (farJumpIndirect_spares s m))
  | callCw => exact runJump_spares (nearCall_comes (.refl s) _)
  | callEw => exact runJump_spares (nearCallRm_comes s _)
  | callCd => exact runFar_spares (farCall_spares (.refl s) _ _)
  | callEd e => exact memoryOnly_spares (execCallEd · s) e (fun _ => rfl) (fun m => runFar_spares (farCallIndirect_spares s m))
  | retDw | ret => exact runJump_spares (nearRet_comes s _)
  | retfDw | retf => exact runFar_spares (farReturn_spares (.refl s) _)
  | jo | jno | jb | jae | je | jne | jbe | ja | js | jns | jp | jnp | jl | jge | jle | jg | jcxz => exact jumpIf_spares s _ _
  | loopne | loope | loop => exact loopIf_spares s _ _
  | intDb | int3 => exact runInt_spares s _
  | into => exact execInto_spares s
  | iret => exact runFar_spares (interruptReturn_spares (.refl s))
  | cli => exact runInstr_spares (clearIf_comes s)
  | sti => exact runInstr_spares (setIf_comes s)
  | enter => exact runInstr_spares (enterFrame_comes s _ _)
  | leave => exact runInstr_spares (leaveFrame_comes s)
  | bound r e => exact memoryOnly_spares (execBound r · s) e (fun _ => rfl) (fun _ => runInstr_spares (boundCheck_comes s _ _))
  | hlt => exact runInstr_spares (haltMachine_comes s)
  | wait => exact execWait_spares s
  | esc => exact execEsc_spares s _ _ _
  | segEs | segCs | segSs | segDs | lock | repne | rep => exact withPrefix_spares s _
  | notEb | negEb | incEb | decEb => exact runInstr_spares (unaryRm8_comes s _ _)
  | testEbRb | testAlDb | testEbDb => exact runInstr_spares (testRm8_comes s _ _)
  | testEwRw | testAxDw | testEwDw => exact runInstr_spares (testRm16_comes s _ _)
  | rolEbDb | rorEbDb | rclEbDb | rcrEbDb | shlEbDb | shrEbDb | sarEbDb | rolEb1 | rorEb1 | rclEb1 | rcrEb1 | shlEb1 | shrEb1
    | sarEb1 | rolEbCl | rorEbCl | rclEbCl | rcrEbCl | shlEbCl | shrEbCl | sarEbCl =>
    exact runInstr_spares (shiftRm8_comes s _ _ _)
  | rolEwDb | rorEwDb | rclEwDb | rcrEwDb | shlEwDb | shrEwDb | sarEwDb | rolEw1 | rorEw1 | rclEw1 | rcrEw1 | shlEw1 | shrEw1
    | sarEw1 | rolEwCl | rorEwCl | rclEwCl | rcrEwCl | shlEwCl | shrEwCl | sarEwCl =>
    exact runInstr_spares (shiftRm16_comes s _ _ _)
  | movsb | movsw => exact runString_spares (fun _ h => movsOnce_comes h _) _ _
  | cmpsb | cmpsw => exact runString_spares (fun _ h => cmpsOnce_comes h _) _ _
  | scasb | scasw => exact runString_spares (fun _ h => scasOnce_comes h _) _ _
  | lodsb | lodsw => exact runString_spares (fun _ h => lodsOnce_comes h _) _ _
  | stosb | stosw => exact runString_spares (fun _ h => stosOnce_comes h _) _ _
  | insb | insw => exact runString_spares (fun _ h => insOnce_comes h _) _ _
  | outsb | outsw => exact runString_spares (fun _ h => outsOnce_comes h _) _ _
  | sgdt e => exact memoryOnly_spares (execSgdt · s) e (fun _ => rfl) (fun _ => runInstr_spares (storeTable_comes s _ _))
  | sidt e => exact memoryOnly_spares (execSidt · s) e (fun _ => rfl) (fun _ => runInstr_spares (storeTable_comes s _ _))
  | lgdt e => exact memoryOnly_spares (execLgdt · s) e (fun _ => rfl) (fun _ => runInstr_spares (loadGdtr_comes s _))
  | lidt e => exact memoryOnly_spares (execLidt · s) e (fun _ => rfl) (fun _ => runInstr_spares (loadIdtr_comes s _))
  | sldt | str => exact runProtected_spares (movToRm16_comes s _ _)
  | lldt => exact runProtected_spares (loadLdtr_comes s _)
  | ltr => exact runProtected_spares (loadTr_comes s _)
  | lmsw => exact finishLmsw_spares (lmswOperand_comes s _)
  | clts => exact runInstr_spares (clearTs_comes s)
  | arpl => exact runProtected_spares (adjustRpl_comes s _ _)
  | lar => exact runProtected_spares (loadAccess_comes s _ _)
  | lsl => exact runProtected_spares (loadLimit_comes s _ _)
  | verr => exact runProtected_spares (verifyRead_comes s _)
  | verw => exact runProtected_spares (verifyWrite_comes s _)
  | undefD4 | undef0F | undef83x1 | undef83x4 | undef83x6 | undef64 | undef65 | undef66 | undef67 | undef82 | undef8Cx4to7
    | undef8Ex1 | undef8Ex4to7 | undef8Fx1 | undef8Fx2 | undef8Fx3 | undef8Fx4 | undef8Fx5 | undef8Fx6 | undef8Fx7 | undefC0x6
    | undefC1x6 | undefC6x1 | undefC6x2 | undefC6x3 | undefC6x4 | undefC6x5 | undefC6x6 | undefC6x7 | undefC7x1 | undefC7x2
    | undefC7x3 | undefC7x4 | undefC7x5 | undefC7x6 | undefC7x7 | undefD0x6 | undefD1x6 | undefD2x6 | undefD3x6 | undefD6
    | undefF1 | undefF6x1 | undefF7x1 | undefFEx2 | undefFEx3 | undefFEx4 | undefFEx5 | undefFEx6 | undefFEx7 | undefFFx7
    | undef0F00x6to7 | undef0F01x5 | undef0F01x7 => exact undefinedOpcode_spares s

/-! ### The boundary and the step -/

theorem SparesRom.trans {u : State} (h : SparesRom s t) (k : SparesRom t u) : SparesRom s u :=
  ⟨k.1.trans h.1, k.2.1.trans h.2.1, fun a ha => (k.2.2 a (by rwa [h.kindAt])).trans (h.2.2 a ha)⟩

theorem SparesRom.beginInstr (h : SparesRom s t) : SparesRom s t.beginInstr := by
  refine ⟨?_, h.2⟩
  unfold State.beginInstr
  dsimp only
  split <;> exact h.1

theorem fetchTrap_bus (s : State) : (fetchTrap s).bus = none := by
  unfold fetchTrap
  split <;> rfl

theorem executeNext_spares (h : SparesRom s t) : NextSpares s (executeNext t) := by
  intro u hu
  unfold executeNext at hu
  split at hu
  · exact SparesRom.trans (t := t.withNext _) h (exec_spares _ _ u hu)
  · cases hu
    exact SparesRom.raiseAt (t := t.withNext _) h (Trap.onMap_of_none (fetchTrap_bus _))

theorem SparesRom.singleStep (h : SparesRom s t) : SparesRom s (singleStep t) := by
  unfold Machine.singleStep
  split
  · exact h.deliver _ _ _ _
  · exact h

theorem SparesRom.takeNmi (h : SparesRom s t) : SparesRom s (takeNmi t) := by
  unfold Machine.takeNmi
  split
  · exact SparesRom.deliver (t := { t with nmiPending := false, nmiMasked := true }) h _ _ _ _
  · exact h

theorem SparesRom.takeInt9 (h : SparesRom s t) : SparesRom s (takeInt9 t) := by
  unfold Machine.takeInt9
  split
  · exact SparesRom.deliver (t := { t with int9Pending := false }) h _ _ _ _
  · exact h

theorem SparesRom.takeIntr (h : SparesRom s t) : SparesRom s (takeIntr t) := by
  unfold Machine.takeIntr
  split
  · exact h
  · split
    · exact SparesRom.deliver (t := { t with pins := { t.pins with intr := none } }) h _ _ _ _
    · exact h

theorem SparesRom.takeExternal (h : SparesRom s t) : SparesRom s (takeExternal t) := h.takeNmi.takeInt9.takeIntr

theorem SparesRom.boundaryEvents (h : SparesRom s t) : SparesRom s (boundaryEvents t) := by
  unfold Machine.boundaryEvents
  split
  · exact h
  · exact h.singleStep.takeExternal

theorem SparesRom.endLock (h : SparesRom s t) : SparesRom s t.endLock := by
  unfold State.endLock
  split
  · exact h
  · exact h.release

theorem SparesRom.flagHazard (h : SparesRom s t) : SparesRom s t.flagHazard := by
  unfold State.flagHazard
  split <;> exact h

theorem SparesRom.endInstr (h : SparesRom s t) (before : Memory) : SparesRom s (endInstr before t) := by
  unfold Machine.endInstr
  split
  · exact (SparesRom.endLock (t := t.noteStores before) h).flagHazard.boundaryEvents
  · exact h

theorem SparesRom.leaveShutdown (h : SparesRom s t) : SparesRom s (leaveShutdown t) := by
  unfold Machine.leaveShutdown
  split
  · have ha := attempt_spares (t := { t with nmiPending := false, nmiMasked := true }) h 2 t.ip .external 0 true
    split
    · next u hx => exact ha.1 u hx
    · next f hx => exact ha.2 f hx
  · exact h

theorem runStep_spares (h : SparesRom s t) : NextSpares s (runStep t) := by
  unfold runStep
  split
  · have hx := executeNext_spares h.beginInstr
    cases he : executeNext t.beginInstr with
    | next u => exact .next ((hx u he).endInstr _)
    | fault f => exact fun _ e => nomatch e
    | refused r => exact fun _ e => nomatch e
  · exact .next h.takeExternal
  · exact .next h.leaveShutdown

theorem SparesRom.endReset (h : SparesRom s t) : SparesRom s t.endReset := h.release

theorem resetStep_spares (h : SparesRom s t) (n : Nat) : NextSpares s (resetStep t n) := by
  cases n with
  | zero => exact .next (SparesRom.endReset (t := t.awaitReset 0) h)
  | succ n =>
    have hx := runStep_spares (t := t.awaitReset (n + 1)) h
    unfold resetStep
    dsimp only
    generalize runStep (t.awaitReset (n + 1)) = o at hx
    cases o with
    | next u => exact .next (hx u rfl).endReset
    | fault f => exact fun _ e => nomatch e
    | refused r => exact fun _ e => nomatch e

theorem SparesRom.accept (h : SparesRom s t) (g : Signals) (rest : List Signals) : SparesRom s (t.accept g rest) := h.hear g.acts

theorem step_spares (s : State) : NextSpares s (step s) := by
  unfold step stepMachine
  split
  · exact runStep_spares (.refl s)
  · next g rest _ =>
    have ha := (SparesRom.refl s).accept g rest
    split
    · exact runStep_spares ha
    · exact resetStep_spares ha _

/-- Settles O57: every step is made of operations that spare ROM. -/
theorem romKept : Obligations.RomKept := step_spares

end Sys2Proof.Machine
end

section
/-! SUPPORT. The model's sums, differences and unary operations, with their flags, are the formulas of 41_arithmetic.md R320 to R329;
and a word is the pair of its bytes. -/

namespace Sys2Proof.Machine

section
variable {n : Nat}

/-! ### Flags of a result -/

theorem parityEven_setWidth (r : BitVec n) :
    parityEven (r.setWidth 8) = decide (((List.range 8).filter fun k => r.getLsbD k).length % 2 = 0) := by
  have h : ∀ b0 b1 b2 b3 b4 b5 b6 b7 : Bool, (!(b0 ^^ b1 ^^ b2 ^^ b3 ^^ b4 ^^ b5 ^^ b6 ^^ b7)) =
      decide ((b0.toNat + b1.toNat + b2.toNat + b3.toNat + b4.toNat + b5.toNat + b6.toNat + b7.toNat) % 2 = 0) := by decide
  have hc : ((List.range 8).filter fun k => r.getLsbD k).length =
      (r.getLsbD 0).toNat + (r.getLsbD 1).toNat + (r.getLsbD 2).toNat + (r.getLsbD 3).toNat + (r.getLsbD 4).toNat +
        (r.getLsbD 5).toNat + (r.getLsbD 6).toNat + (r.getLsbD 7).toNat := by
    rw [← List.countP_eq_length_filter]
    simp only [List.range_succ, List.range_zero, List.nil_append, List.countP_append, List.countP_singleton, Bool.toNat, cond_eq_ite]
  rw [hc, ← h]
  simp [parityEven]

theorem Flags.ofResult_eq_resultFlags (f : Flags) (r : BitVec n) : f.ofResult r = resultFlags f r := by
  have hz : decide (r = 0) = decide (r.toNat = 0) := decide_eq_decide.2 (by simp [BitVec.toNat_eq])
  simp only [Flags.ofResult, resultFlags, parityEven_setWidth, hz, BitVec.msb_eq_decide]

/-! ### Sums and differences -/

theorem add_bit_eq_sum (a b : BitVec n) (c : Bool) : a + b + bit n c = sum a b c := by
  apply BitVec.eq_of_toNat_eq
  simp [sum, bit, BitVec.toNat_add]

theorem sub_bit_eq_difference (a b : BitVec n) (c : Bool) : a - b - bit n c = difference a b c := by
  have h (x : BitVec n) : BitVec.ofInt n (-(x.toNat : Int)) = -x := by rw [BitVec.ofInt_neg, BitVec.ofInt_natCast, BitVec.ofNat_toNat]; simp
  simp only [difference, bit, Int.sub_eq_add_neg, BitVec.ofInt_add, BitVec.sub_eq_add_neg, h, BitVec.ofInt_neg, BitVec.ofInt_natCast]
  simp

theorem add_eq_sum (a b : BitVec n) : a + b = sum a b false := by
  rw [← add_bit_eq_sum]
  simp [bit]

theorem sub_eq_difference (a b : BitVec n) : a - b = difference a b false := by
  rw [← sub_bit_eq_difference]
  simp [bit]

/-- A sum of two numbers below `2 ^ n` and a carry wraps at most once. -/
theorem sum_toNat (a b : BitVec n) (c : Bool) :
    (sum a b c).toNat = a.toNat + b.toNat + c.toNat ∨ (sum a b c).toNat + 2 ^ n = a.toNat + b.toNat + c.toNat := by
  have ha := a.isLt
  have hb := b.isLt
  have hc := c.toNat_le
  simp only [sum, BitVec.toNat_ofNat]
  by_cases h : a.toNat + b.toNat + c.toNat < 2 ^ n
  · exact .inl (Nat.mod_eq_of_lt h)
  · right
    rw [Nat.mod_eq_sub_mod (Nat.le_of_not_lt h), Nat.mod_eq_of_lt (by omega)]
    omega

/-- A difference of two numbers below `2 ^ n` and a borrow wraps at most once. -/
theorem difference_toNat (a b : BitVec n) (c : Bool) :
    (difference a b c).toNat + b.toNat + c.toNat = a.toNat ∨ (difference a b c).toNat + b.toNat + c.toNat = a.toNat + 2 ^ n := by
  have ha := a.isLt
  have hb := b.isLt
  have hc := c.toNat_le
  have hr : ((difference a b c).toNat : Int) = ((a.toNat : Int) - b.toNat - c.toNat) % ((2 ^ n : Nat) : Int) := by
    rw [difference, BitVec.toNat_ofInt, Int.toNat_of_nonneg (Int.emod_nonneg _ (by have := Nat.two_pow_pos n; omega))]
  generalize (difference a b c).toNat = r at hr ⊢
  by_cases h : (a.toNat : Int) - b.toNat - c.toNat < 0
  · right
    rw [← Int.add_emod_right, Int.emod_eq_of_lt (by omega) (by omega)] at hr
    omega
  · left
    rw [Int.emod_eq_of_lt (by omega) (by omega)] at hr
    omega

theorem two_pow_half (hn : 0 < n) : 2 ^ n = 2 * 2 ^ (n - 1) := by
  rw [← Nat.pow_succ', Nat.succ_eq_add_one, Nat.sub_add_cancel hn]

/-- Two operands of one sign with a result of the other: the signed sum does not fit. -/
theorem sum_overflow (hn : 0 < n) (a b : BitVec n) (c : Bool) :
    ((a.msb == b.msb) && ((sum a b c).msb != a.msb)) = outsideSigned n (a.toInt + b.toInt + c.toNat) := by
  have hs := sum_toNat a b c
  have ha := a.isLt
  have hb := b.isLt
  have hr := (sum a b c).isLt
  have hc := c.toNat_le
  simp only [outsideSigned, BitVec.msb_eq_decide, BitVec.toInt_eq_toNat_cond, two_pow_half hn] at *
  rw [Bool.eq_iff_iff]
  simp only [Bool.and_eq_true, beq_iff_eq, bne_iff_ne, ne_eq, decide_eq_decide, Bool.or_eq_true, decide_eq_true_eq]
  push_cast
  have hp : ((2 : Int) ^ (n - 1)) = ((2 ^ (n - 1) : Nat) : Int) := by push_cast; rfl
  rw [hp]
  generalize 2 ^ (n - 1) = p at *
  split <;> split <;> omega

theorem difference_overflow (hn : 0 < n) (a b : BitVec n) (c : Bool) :
    ((a.msb != b.msb) && ((difference a b c).msb != a.msb)) = outsideSigned n (a.toInt - b.toInt - c.toNat) := by
  have hs := difference_toNat a b c
  have ha := a.isLt
  have hb := b.isLt
  have hr := (difference a b c).isLt
  have hc := c.toNat_le
  simp only [outsideSigned, BitVec.msb_eq_decide, BitVec.toInt_eq_toNat_cond, two_pow_half hn] at *
  rw [Bool.eq_iff_iff]
  simp only [Bool.and_eq_true, bne_iff_ne, ne_eq, decide_eq_decide, Bool.or_eq_true, decide_eq_true_eq]
  push_cast
  have hp : ((2 : Int) ^ (n - 1)) = ((2 ^ (n - 1) : Nat) : Int) := by push_cast; rfl
  rw [hp]
  generalize 2 ^ (n - 1) = p at *
  split <;> split <;> omega

theorem Flags.add_eq_sumFlags (hn : 0 < n) (f : Flags) (a b : BitVec n) (c : Bool) : f.add a b c = sumFlags f a b c := by
  simp only [Flags.add, sumFlags, add_bit_eq_sum, Flags.ofResult_eq_resultFlags, sum_overflow hn]

theorem Flags.sub_eq_differenceFlags (hn : 0 < n) (f : Flags) (a b : BitVec n) (c : Bool) :
    f.sub a b c = differenceFlags f a b c := by
  have h1 : decide (a.toNat < b.toNat + c.toNat) = decide ((a.toNat : Int) - b.toNat - c.toNat < 0) :=
    decide_eq_decide.2 (by omega)
  have h2 : decide (a.toNat % 16 < b.toNat % 16 + c.toNat) =
      decide (((a.toNat % 16 : Nat) : Int) - (b.toNat % 16 : Nat) - c.toNat < 0) := decide_eq_decide.2 (by omega)
  simp only [Flags.sub, differenceFlags, sub_bit_eq_difference, Flags.ofResult_eq_resultFlags, difference_overflow hn, h1, h2]

/-! ### The operations -/

/-- The machine's operation for each of the five arithmetic ones. -/
def ArithOp.alu : ArithOp → AluOp
  | .add => .add
  | .adc => .adc
  | .sub => .sub
  | .sbb => .sbb
  | .cmp => .cmp

theorem ArithOp.alu_access (op : ArithOp) : op.alu.access = op.access := by cases op <;> rfl

/-- What an arithmetic operation that writes its destination computes (R322 to R325). -/
theorem aluCompute_arith (hn : 0 < n) {op : ArithOp} (ho : op.access = .write) (s : State) (d v : BitVec n) :
    aluCompute op.alu s d v = (op.result s.flags d v, s.setFlags (op.flagsAfter s.flags d v)) := by
  cases op with
  | add => exact congrArg₂ Prod.mk (add_eq_sum d v) (congrArg s.setFlags (Flags.add_eq_sumFlags hn _ d v _))
  | adc => exact congrArg₂ Prod.mk (add_bit_eq_sum d v _) (congrArg s.setFlags (Flags.add_eq_sumFlags hn _ d v _))
  | sub => exact congrArg₂ Prod.mk (sub_eq_difference d v) (congrArg s.setFlags (Flags.sub_eq_differenceFlags hn _ d v _))
  | sbb => exact congrArg₂ Prod.mk (sub_bit_eq_difference d v _) (congrArg s.setFlags (Flags.sub_eq_differenceFlags hn _ d v _))
  | cmp => exact nomatch ho

/-- What a unary operation computes (R327 to R329; 42_logic_shift.md R384). -/
theorem unaryCompute_eq (hn : 0 < n) (op : UnaryOp) (f : Flags) (d : BitVec n) :
    unaryCompute op f d = (op.result d, op.flagsAfter f d) := by
  cases op with
  | inc => simp only [unaryCompute, UnaryOp.result, UnaryOp.flagsAfter, add_eq_sum, Flags.add_eq_sumFlags hn]
  | dec => simp only [unaryCompute, UnaryOp.result, UnaryOp.flagsAfter, sub_eq_difference, Flags.sub_eq_differenceFlags hn]
  | neg => simp only [unaryCompute, UnaryOp.result, UnaryOp.flagsAfter, sub_eq_difference, Flags.sub_eq_differenceFlags hn]
  | not =>
    refine congrArg (·, f) (BitVec.eq_of_toNat_eq ?_)
    have hd := d.isLt
    simp only [UnaryOp.result, BitVec.toNat_not, BitVec.toNat_ofNat]
    exact (Nat.mod_eq_of_lt (by omega)).symm

end

/-- A word is the pair of its bytes. -/
theorem pair_eq_mkWord (hi lo : Byte) : pair hi.toNat lo.toNat = mkWord lo hi := by
  have hh := hi.isLt
  have hl := lo.isLt
  apply BitVec.eq_of_toNat_eq
  have e : (mkWord lo hi).toNat = 256 * hi.toNat + lo.toNat := by
    show (hi ++ lo : BitVec (8 + 8)).toNat = _
    rw [BitVec.toNat_append, ← Nat.shiftLeft_add_eq_or_of_lt hl, Nat.shiftLeft_eq]
    omega
  rw [e, pair, BitVec.toNat_ofNat]
  omega

end Sys2Proof.Machine
end

section
/-! PROOF of O58: what a load, a store and a read-modify-write do to RAM, ROM, a device and absent memory, with no other agent between
and no RESET; and what other agents do to each. -/

namespace Sys2Proof.Machine

/-! ### One byte, by what answers there -/

/-- A device has answered and been told: its feed is `feed`, and the record of accesses is longer by `evs`. -/
def State.told (s : State) (feed : List Host.Cell) (evs : List BusEvent) : State :=
  { s with bus := { s.bus with feed := feed, log := s.bus.log ++ evs } }

section
variable {s : State} {a b : Nat}

theorem Alone.told (h : Alone s) (feed : List Host.Cell) (evs : List BusEvent) : Alone (s.told feed evs) := h

theorem State.told_told (s : State) (feed rest : List Host.Cell) (evs more : List BusEvent) :
    (s.told feed evs).told rest more = s.told rest (evs ++ more) := by
  simp only [State.told, List.append_assoc]

theorem State.load_device (h : Unreset s) (hk : s.kindAt a = .device) :
    ∃ d feed, DeviceByte s a d feed ∧ s.load a = (d, s.told feed [.read a d]) := by
  have hd := State.load_dataRead h a
  simp only [DataRead, hk] at hd
  obtain ⟨feed, hd, ht⟩ := hd
  exact ⟨_, feed, hd, Prod.ext rfl ht⟩

theorem State.load_absent (h : Unreset s) (hk : s.kindAt a = .absent) :
    ∃ n, (s.load a).2 = { s with bus := { s.bus with floats := n } } := by
  have hd := State.load_dataRead h a
  simpa only [DataRead, hk] using hd

theorem State.store_device (h : Unreset s) (hk : s.kindAt a = .device) (v : Byte) :
    s.store a v = s.told s.bus.feed [.write a v] := by
  unfold State.store
  rw [State.dead_unreset h, hk]
  rfl

theorem State.store_dropped (hk : s.kindAt a = .rom ∨ s.kindAt a = .absent) (v : Byte) : s.store a v = s := by
  unfold State.store
  rcases hk with hk | hk <;> simp only [hk, ite_self]

/-! ### One word -/

theorem State.loadWord_device (h : Alone s) (ha : s.kindAt a = .device) (hb : s.kindAt b = .device) :
    ∃ lo hi feed, DeviceWord s a b lo hi feed ∧ s.loadWord a b = (mkWord lo hi, s.told feed [.read a lo, .read b hi]) := by
  obtain ⟨lo, mid, hlo, e1⟩ := State.load_device h.2 ha
  obtain ⟨hi, feed, hhi, e2⟩ := State.load_device (s := s.told mid [.read a lo]) (h.told _ _).2 hb
  refine ⟨lo, hi, feed, ⟨mid, hlo, hhi⟩, ?_⟩
  rw [State.loadWord_alone h, e1, e2, State.told_told]
  rfl

theorem State.storeWord_device (h : Alone s) (ha : s.kindAt a = .device) (hb : s.kindAt b = .device) (v : Word) :
    s.storeWord a b v = s.told s.bus.feed [.write a (loByte v), .write b (hiByte v)] := by
  rw [State.storeWord_alone h, State.store_device h.2 ha, State.store_device (s := s.told _ _) (h.told _ _).2 hb]
  exact State.told_told s _ _ _ _

theorem State.storeWord_dropped (h : Alone s) (ha : s.kindAt a = .rom ∨ s.kindAt a = .absent)
    (hb : s.kindAt b = .rom ∨ s.kindAt b = .absent) (v : Word) : s.storeWord a b v = s := by
  rw [State.storeWord_alone h, State.store_dropped ha, State.store_dropped hb]

/-! ### Memory operands -/

variable {m : MemOp} {k : Access}

theorem loadRm8_alone (h : Alone s) (hm : Accessible s (s.memSeg m) (s.effOffset m) 1 k) :
    loadRm8 s (.mem m) k = .ok (s.load (s.segAddr (s.memSeg m) (s.effOffset m) 0).toNat) := by
  simp only [loadRm8, checkRm8, segCheck_of_accessible hm, State.getRm8, State.segGet8, State.others_alone h]
  rfl

theorem loadRm16_alone (hm : Accessible s (s.memSeg m) (s.effOffset m) 2 k) :
    loadRm16 s (.mem m) k = .ok (s.loadWord (s.segAddr (s.memSeg m) (s.effOffset m) 0).toNat
      (s.segAddr (s.memSeg m) (s.effOffset m) 1).toNat) := by
  simp only [loadRm16, checkRm16, segCheck_of_accessible hm, State.getRm16, State.segGet16]
  rfl

theorem storeRm8_alone (h : Alone s) (v : Byte) :
    storeRm8 s (.mem m) v = s.store (s.segAddr (s.memSeg m) (s.effOffset m) 0).toNat v := by
  simp only [storeRm8, State.segPut8, State.others_alone h]

theorem memoryOf_eq_some {R : Type} {e : RM R} : memoryOf e = some m ↔ e = .mem m := by
  cases e <;> simp [memoryOf]

/-! ### MOV -/

theorem MoveForm8.exec_load {f : MoveForm8} {r : Reg8} (hf : f.memory = some (m, .read)) (hd : f.dest = .reg r) (s : State) :
    exec f.instr s = runInstr s (movToReg8 r (.mem m) s) := by
  cases f with
  | toReg q e =>
    simp only [MoveForm8.memory, Option.map_eq_some_iff, memoryOf_eq_some, Prod.mk.injEq, and_true, exists_eq_right] at hf
    cases hd
    subst hf
    rfl
  | accLoad off => cases hf; cases hd; rfl
  | _ => simp [MoveForm8.memory] at hf

theorem MoveForm16.exec_load {f : MoveForm16} {r : Reg16} (hf : f.memory = some (m, .read)) (hd : f.dest = .reg r) (s : State) :
    exec f.instr s = runInstr s (movToReg16 r (.mem m) s) := by
  cases f with
  | toReg q e =>
    simp only [MoveForm16.memory, Option.map_eq_some_iff, memoryOf_eq_some, Prod.mk.injEq, and_true, exists_eq_right] at hf
    cases hd
    subst hf
    rfl
  | accLoad off => cases hf; cases hd; rfl
  | _ => simp [MoveForm16.memory] at hf

theorem MoveForm8.exec_store {f : MoveForm8} (hf : f.memory = some (m, .write)) (s : State) :
    exec f.instr s = runInstr s (movToRm8 (.mem m) (f.source s) s) := by
  cases f with
  | toRm e r | rmImm e v =>
    simp only [MoveForm8.memory, Option.map_eq_some_iff, memoryOf_eq_some, Prod.mk.injEq, and_true, exists_eq_right] at hf
    subst hf
    rfl
  | accStore off => cases hf; rfl
  | _ => simp [MoveForm8.memory] at hf

theorem MoveForm16.exec_store {f : MoveForm16} (hf : f.memory = some (m, .write)) (s : State) :
    exec f.instr s = runInstr s (movToRm16 (.mem m) (f.source s) s) := by
  cases f with
  | toRm e r | rmImm e v | msw e =>
    simp only [MoveForm16.memory, Option.map_eq_some_iff, memoryOf_eq_some, Prod.mk.injEq, and_true, exists_eq_right] at hf
    subst hf
    rfl
  | seg e r =>
    simp only [MoveForm16.memory, Option.map_eq_some_iff, memoryOf_eq_some, Prod.mk.injEq, and_true, exists_eq_right] at hf
    subst hf
    cases r <;> rfl
  | accStore off => cases hf; rfl
  | _ => simp [MoveForm16.memory] at hf

theorem exec_load8 {f : MoveForm8} {r : Reg8} (hl : LockAllowed s) (ha : Alone s) (hf : f.memory = some (m, .read))
    (hd : f.dest = .reg r) (hm : Accessible s (s.memSeg m) (s.effOffset m) 1 .read)
    (e : a = (s.segAddr (s.memSeg m) (s.effOffset m) 0).toNat) :
    exec f.instr s = .next ((s.load a).2.setReg8 r (s.load a).1).retire := by
  rw [MoveForm8.exec_load hf hd, e]
  exact runInstr_of_ok hl (by rw [movToReg8, loadRm8_alone ha hm]; rfl)

theorem exec_load16 {f : MoveForm16} {r : Reg16} (hl : LockAllowed s) (hf : f.memory = some (m, .read))
    (hd : f.dest = .reg r) (hm : Accessible s (s.memSeg m) (s.effOffset m) 2 .read)
    (e : a = (s.segAddr (s.memSeg m) (s.effOffset m) 0).toNat) (e' : b = (s.segAddr (s.memSeg m) (s.effOffset m) 1).toNat) :
    exec f.instr s = .next ((s.loadWord a b).2.setReg16 r (s.loadWord a b).1).retire := by
  rw [MoveForm16.exec_load hf hd, e, e']
  exact runInstr_of_ok hl (by rw [movToReg16, loadRm16_alone hm]; rfl)

theorem exec_store8 {f : MoveForm8} (hl : LockAllowed s) (ha : Alone s) (hf : f.memory = some (m, .write))
    (hm : Accessible s (s.memSeg m) (s.effOffset m) 1 .write) (e : a = (s.segAddr (s.memSeg m) (s.effOffset m) 0).toNat) :
    exec f.instr s = .next (s.store a (f.source s)).retire := by
  rw [MoveForm8.exec_store hf, e]
  exact runInstr_of_ok hl (by rw [movToRm8, checkRm8, segCheck_of_accessible hm, storeRm8_alone ha]; rfl)

theorem exec_store16 {f : MoveForm16} (hl : LockAllowed s) (hf : f.memory = some (m, .write))
    (hm : Accessible s (s.memSeg m) (s.effOffset m) 2 .write) (e : a = (s.segAddr (s.memSeg m) (s.effOffset m) 0).toNat)
    (e' : b = (s.segAddr (s.memSeg m) (s.effOffset m) 1).toNat) :
    exec f.instr s = .next (s.storeWord a b (f.source s)).retire := by
  rw [MoveForm16.exec_store hf, e, e']
  exact runInstr_of_ok hl (by rw [movToRm16, checkRm16, segCheck_of_accessible hm]; rfl)

/-! ### Read-modify-write -/

/-- `i` reads the byte operand `m`, checked for write, and writes back what `result` and `flags` say of it. -/
def Modifies8 (i : Instr) (m : MemOp) (s : State) (result : Byte → Byte) (flags : Byte → Flags) : Prop :=
  ∀ d u, loadRm8 s (.mem m) .write = .ok (d, u) → u.flags = s.flags →
    exec i s = runInstr s (.ok (storeRm8 (u.setFlags (flags d)) (.mem m) (result d)))

/-- `i` reads the word operand `m`, checked for write, and writes back what `result` and `flags` say of it. -/
def Modifies16 (i : Instr) (m : MemOp) (s : State) (result : Word → Word) (flags : Word → Flags) : Prop :=
  ∀ d u, loadRm16 s (.mem m) .write = .ok (d, u) → u.flags = s.flags →
    exec i s = runInstr s (.ok (storeRm16 (u.setFlags (flags d)) (.mem m) (result d)))

theorem UnaryOp.modifies8 (op : UnaryOp) (m : MemOp) (s : State) :
    Modifies8 (op.instr8 (.mem m)) m s op.result (op.flagsAfter s.flags) := by
  intro d u hd _
  have he : exec (op.instr8 (.mem m)) s = runInstr s (unaryRm8 op (.mem m) s) := by cases op <;> rfl
  rw [he, unaryRm8, hd]
  simp only [bind, Except.bind, unaryCompute_eq (show 0 < 8 by omega)]

theorem UnaryOp.modifies16 (op : UnaryOp) (m : MemOp) (s : State) :
    Modifies16 (UnaryForm16.rm op (.mem m)).instr m s op.result (op.flagsAfter s.flags) := by
  intro d u hd _
  have he : exec (UnaryForm16.rm op (.mem m)).instr s = runInstr s (unaryRm16 op (.mem m) s) := by cases op <;> rfl
  rw [he, unaryRm16, hd]
  simp only [bind, Except.bind, unaryCompute_eq (show 0 < 16 by omega)]

/-- An arithmetic instruction with a memory operand it writes. -/
theorem ArithOp.exec_modify8 {op : ArithOp} {f : Form8} (hf : f.memory op.access = some (m, .write)) (s : State) :
    op.access = .write ∧ exec (op.instr8 f) s = runInstr s (aluRm8 op.alu (.mem m) (f.source s) s) := by
  cases f with
  | toRm e r | imm e v =>
    simp only [Form8.memory, Option.map_eq_some_iff, memoryOf_eq_some, Prod.mk.injEq] at hf
    obtain ⟨_, rfl, rfl, hw⟩ := hf
    exact ⟨hw, by cases op <;> rfl⟩
  | toReg r e => simp [Form8.memory] at hf
  | acc v => exact nomatch hf

theorem ArithOp.exec_modify16 {op : ArithOp} {f : ArithForm16} (hf : f.memory op.access = some (m, .write)) (s : State) :
    op.access = .write ∧ exec (op.instr16 f) s = runInstr s (aluRm16 op.alu (.mem m) (f.source s) s) := by
  rcases f with f | ⟨e, v⟩
  · cases f with
    | toRm e r | imm e v =>
      simp only [ArithForm16.memory, Form16.memory, Option.map_eq_some_iff, memoryOf_eq_some, Prod.mk.injEq] at hf
      obtain ⟨_, rfl, rfl, hw⟩ := hf
      exact ⟨hw, by cases op <;> rfl⟩
    | toReg r e => simp [ArithForm16.memory, Form16.memory] at hf
    | acc v => exact nomatch hf
  · simp only [ArithForm16.memory, Option.map_eq_some_iff, memoryOf_eq_some, Prod.mk.injEq] at hf
    obtain ⟨_, rfl, rfl, hw⟩ := hf
    exact ⟨hw, by cases op <;> rfl⟩

theorem ArithOp.alu_ne_cmp {op : ArithOp} (h : op.access = .write) : op.alu ≠ .cmp := by
  cases op with
  | cmp => exact nomatch h
  | _ => simp [ArithOp.alu]

theorem ArithOp.modifies8 {op : ArithOp} {f : Form8} (hf : f.memory op.access = some (m, .write)) {result : Byte → Byte}
    {flags : Byte → Flags}
    (hr : ∀ d, result d = op.result s.flags d (f.source s) ∧ flags d = op.flagsAfter s.flags d (f.source s)) :
    Modifies8 (op.instr8 f) m s result flags := by
  intro d u hd hu
  obtain ⟨hw, he⟩ := ArithOp.exec_modify8 hf s
  rw [he, aluRm8, ArithOp.alu_access, hw, hd, (hr d).1, (hr d).2]
  simp only [bind, Except.bind, aluCompute_arith (show 0 < 8 by omega) hw, if_neg (ArithOp.alu_ne_cmp hw), hu]

theorem ArithOp.modifies16 {op : ArithOp} {f : ArithForm16} (hf : f.memory op.access = some (m, .write)) {result : Word → Word}
    {flags : Word → Flags}
    (hr : ∀ d, result d = op.result s.flags d (f.source s) ∧ flags d = op.flagsAfter s.flags d (f.source s)) :
    Modifies16 (op.instr16 f) m s result flags := by
  intro d u hd hu
  obtain ⟨hw, he⟩ := ArithOp.exec_modify16 hf s
  rw [he, aluRm16, ArithOp.alu_access, hw, hd, (hr d).1, (hr d).2]
  simp only [bind, Except.bind, aluCompute_arith (show 0 < 16 by omega) hw, if_neg (ArithOp.alu_ne_cmp hw), hu]

/-- A read-modify-write of a byte of a device: one read and one write. -/
theorem Modifies8.device {i : Instr} {result : Byte → Byte} {flags : Byte → Flags} (hi : Modifies8 i m s result flags)
    (hl : LockAllowed s) (ha : Alone s) (hm : Accessible s (s.memSeg m) (s.effOffset m) 1 .write)
    (e : a = (s.segAddr (s.memSeg m) (s.effOffset m) 0).toNat) (hk : s.kindAt a = .device) :
    ∃ d feed, DeviceByte s a d feed ∧
      exec i s = .next (past { s.told feed [.read a d, .write a (result d)] with flags := flags d }) := by
  obtain ⟨d, feed, hd, hu⟩ := State.load_device ha.2 hk
  let t : State := { s.told feed [.read a d] with flags := flags d }
  have ht : storeRm8 t (.mem m) (result d) = { s.told feed [.read a d, .write a (result d)] with flags := flags d } := by
    rw [storeRm8_alone (s := t) ha]
    show t.store (s.segAddr (s.memSeg m) (s.effOffset m) 0).toNat (result d) = _
    rw [← e, State.store_device (s := t) ha.2 hk]
    exact State.told_told { s with flags := flags d } _ _ _ _
  refine ⟨d, feed, hd, ?_⟩
  rw [hi d (s.told feed [.read a d]) (by rw [loadRm8_alone ha hm, ← e, hu]) rfl]
  exact (runInstr_of_ok hl rfl).trans (congrArg (fun x : State => (.next (past x) : Host.Outcome State Fault Refusal)) ht)

/-- A read-modify-write of a word of a device: each byte read once, then each byte written once. -/
theorem Modifies16.device {i : Instr} {result : Word → Word} {flags : Word → Flags} (hmod : Modifies16 i m s result flags)
    (hl : LockAllowed s) (ha : Alone s) (hm : Accessible s (s.memSeg m) (s.effOffset m) 2 .write)
    (e : a = (s.segAddr (s.memSeg m) (s.effOffset m) 0).toNat) (e' : b = (s.segAddr (s.memSeg m) (s.effOffset m) 1).toNat)
    (hk : s.kindAt a = .device) (hk' : s.kindAt b = .device) :
    ∃ lo hi feed, DeviceWord s a b lo hi feed ∧
      exec i s = .next (past { s.told feed [.read a lo, .read b hi, .write a (loByte (result (mkWord lo hi))),
        .write b (hiByte (result (mkWord lo hi)))] with flags := flags (mkWord lo hi) }) := by
  obtain ⟨lo, hi, feed, hd, hu⟩ := State.loadWord_device ha hk hk'
  let d := mkWord lo hi
  let t : State := { s.told feed [.read a lo, .read b hi] with flags := flags d }
  have ht : storeRm16 t (.mem m) (result d) = { s.told feed [.read a lo, .read b hi, .write a (loByte (result d)),
      .write b (hiByte (result d))] with flags := flags d } := by
    show t.storeWord (s.segAddr (s.memSeg m) (s.effOffset m) 0).toNat (s.segAddr (s.memSeg m) (s.effOffset m) 1).toNat
      (result d) = _
    rw [← e, ← e', State.storeWord_device (s := t) ha hk hk']
    exact State.told_told { s with flags := flags d } _ _ _ _
  refine ⟨lo, hi, feed, hd, ?_⟩
  rw [hmod d (s.told feed [.read a lo, .read b hi]) (by rw [loadRm16_alone hm, ← e, ← e', hu]) rfl]
  exact (runInstr_of_ok hl rfl).trans (congrArg (fun x : State => (.next (past x) : Host.Outcome State Fault Refusal)) ht)

end

/-! ### Other agents -/

theorem State.accept_one {s : State} (h : s.bus.lock = .free) {g : Signals} {x : BusAct} (hg : g.acts = [x]) (rest : List Signals) :
    (s.accept g rest).mem = (s.act x).mem ∧ (s.accept g rest).bus = (s.act x).bus ∧
      (s.accept g rest).escLog = (s.act x).escLog := by
  have e : s.hear g.acts = s.act x := by
    unfold State.hear
    rw [if_pos h, hg]
    rfl
  unfold State.accept
  rw [e]
  exact ⟨rfl, rfl, rfl⟩

theorem State.placed_memSameBut (s : State) (a : Nat) (v : Byte) : MemSameBut s (s.placed a v) [a] := by
  intro k hk
  have hne : k ≠ a := fun e => hk (List.mem_singleton.2 e)
  unfold State.placed
  split
  iterate 2 exact Memory.read_write_other _ v hne
  all_goals rfl

theorem State.placed_read {s : State} {a : Nat} (hw : s.mem.wf = true) (hk : s.kindAt a = .ram ∨ s.kindAt a = .device) (v : Byte) :
    (s.placed a v).mem.read a = v := by
  unfold State.placed
  rcases hk with hk | hk <;> rw [hk] <;> exact Memory.read_write_same hw a v

theorem State.placed_dropped {s : State} {a : Nat} (hk : s.kindAt a = .rom ∨ s.kindAt a = .absent) (v : Byte) :
    s.placed a v = s := by
  unfold State.placed
  rcases hk with hk | hk <;> rw [hk]

theorem physAdd_one_ne (a : Addr) : physAdd a 1 ≠ physAdd a 0 := by
  have h : (a + BitVec.ofNat 24 1 : BitVec 24) ≠ a + BitVec.ofNat 24 0 := by bv_omega
  exact fun e => h (BitVec.eq_of_toNat_eq e)

theorem State.peek16_ram {s : State} {a : Addr} (h0 : s.kindAt (physAdd a 0) = .ram) (h1 : s.kindAt (physAdd a 1) = .ram) :
    s.peek16 a 0 = mkWord (s.mem.read (physAdd a 0)) (s.mem.read (physAdd a 1)) :=
  congrArg₂ mkWord (State.look_memory (.inl h0)) (State.look_memory (.inl h1))

/-- A transfer to memory of the processor extension, where both bytes are RAM. -/
theorem State.act_npxWrite_ram {s : State} {a : Addr} (hu : Unreset s) (h0 : s.kindAt (physAdd a 0) = .ram)
    (h1 : s.kindAt (physAdd a 1) = .ram) (v : Word) : s.act (.npxWrite a v) =
      { s with mem := (s.mem.write (physAdd a 0) (loByte v)).write (physAdd a 1) (hiByte v) } := by
  have hd := State.dead_unreset hu
  show (s.store (physAdd a 0) (loByte v)).store (physAdd a 1) (hiByte v) = _
  rw [State.store_ram hd h0]
  exact State.store_ram (s := { s with mem := s.mem.write (physAdd a 0) (loByte v) }) hd h1 _

/-- A transfer from memory of the processor extension, where both bytes are RAM. -/
theorem State.act_npxRead_ram {s : State} {a : Addr} (h0 : s.kindAt (physAdd a 0) = .ram) (h1 : s.kindAt (physAdd a 1) = .ram) :
    s.act (.npxRead a) = { s with escLog := s.escLog ++ [.operand a (s.peek16 a 0)] } := by
  rw [State.peek16_ram h0 h1]
  simp only [State.act, State.load_memory (.inl h0), State.load_memory (.inl h1)]

/-! ### The statement's parts -/

theorem moveForm8_load_kinds (f : MoveForm8) (m : MemOp) (r : Reg8) (s : State) (a : Nat) (hl : LockAllowed s) (ha : Alone s)
    (hf : f.memory = some (m, .read)) (hd : f.dest = .reg r) (hm : Accessible s (s.memSeg m) (s.effOffset m) 1 .read)
    (e : a = (s.segAddr (s.memSeg m) (s.effOffset m) 0).toNat) :
    (s.kindAt a = .device → ∃ (t : State) (b : Byte) (feed : List Host.Cell), exec f.instr s = .next t ∧ DeviceByte s a b feed ∧
      t = past ((s.told feed [.read a b]).setReg8 r b)) ∧
    (s.kindAt a = .absent → ∃ t b, exec f.instr s = .next t ∧
      t = past ({ s with bus := { s.bus with floats := t.bus.floats } }.setReg8 r b)) := by
  have he := exec_load8 hl ha hf hd hm e
  constructor
  · intro hk
    obtain ⟨b, feed, hb, hu⟩ := State.load_device ha.2 hk
    rw [hu] at he
    exact ⟨_, b, feed, he, hb, rfl⟩
  · intro hk
    obtain ⟨n, hu⟩ := State.load_absent ha.2 hk
    rw [hu] at he
    exact ⟨_, (s.load a).1, he, rfl⟩

theorem moveForm16_load_device (f : MoveForm16) (m : MemOp) (r : Reg16) (s : State) (a b : Nat) (hl : LockAllowed s) (ha : Alone s)
    (hf : f.memory = some (m, .read)) (hd : f.dest = .reg r) (hm : Accessible s (s.memSeg m) (s.effOffset m) 2 .read)
    (e : a = (s.segAddr (s.memSeg m) (s.effOffset m) 0).toNat) (e' : b = (s.segAddr (s.memSeg m) (s.effOffset m) 1).toNat)
    (hk : s.kindAt a = .device) (hk' : s.kindAt b = .device) :
    ∃ (t : State) (lo hi : Byte) (feed : List Host.Cell), exec f.instr s = .next t ∧ DeviceWord s a b lo hi feed ∧
      t = past ((s.told feed [.read a lo, .read b hi]).setReg16 r (pair hi.toNat lo.toNat)) := by
  have he := exec_load16 hl hf hd hm e e'
  obtain ⟨lo, hi, feed, hb, hu⟩ := State.loadWord_device ha hk hk'
  rw [hu, ← pair_eq_mkWord] at he
  exact ⟨_, lo, hi, feed, he, hb, rfl⟩

/-- A byte of memory that another agent changes. -/
theorem accept_place (s : State) (g : Signals) (rest : List Signals) (a : Nat) (v : Byte) (hg : g.acts = [.place a v])
    (hl : s.bus.lock = .free) (ha : a < 2 ^ 24) (hw : s.mem.wf = true) :
    MemSameBut s (s.accept g rest) [a] ∧
    ((s.kindAt a = .ram ∨ s.kindAt a = .device) → (s.accept g rest).mem.read a = v) ∧
    ((s.kindAt a = .rom ∨ s.kindAt a = .absent) → MemSame s (s.accept g rest)) := by
  have hm : (s.accept g rest).mem = (s.placed a v).mem := by
    rw [(State.accept_one hl hg rest).1, State.act, Nat.mod_eq_of_lt ha]
  unfold MemSameBut MemSame
  rw [hm]
  exact ⟨State.placed_memSameBut s a v, fun hk => State.placed_read hw hk v, fun hk k => by rw [State.placed_dropped hk]⟩

/-- A word of RAM that the processor extension's transfer writes. -/
theorem accept_npxWrite {s : State} {g : Signals} {a : Addr} {v : Word} (rest : List Signals) (hg : g.acts = [.npxWrite a v])
    (hl : s.bus.lock = .free) (hu : Unreset s) (hw : s.mem.wf = true) (h0 : s.kindAt (physAdd a 0) = .ram)
    (h1 : s.kindAt (physAdd a 1) = .ram) :
    (s.accept g rest).peek16 a 0 = v ∧ MemSameBut s (s.accept g rest) [physAdd a 0, physAdd a 1] := by
  obtain ⟨hm, hb, -⟩ := State.accept_one hl hg rest
  rw [State.act_npxWrite_ram hu h0 h1] at hm hb
  have hk (k : Nat) : (s.accept g rest).kindAt k = s.kindAt k := by rw [State.kindAt, hb]; rfl
  constructor
  · have hw' := Memory.wf_write hw (physAdd_lt a 0) (loByte v)
    rw [State.peek16_ram ((hk _).trans h0) ((hk _).trans h1), hm, Memory.read_write_same hw',
      Memory.read_write_other _ _ (physAdd_one_ne a).symm, Memory.read_write_same hw, mkWord_lo_hi]
  · intro k hn
    obtain ⟨n0, n1⟩ : k ≠ physAdd a 0 ∧ k ≠ physAdd a 1 := by simpa using hn
    rw [hm, Memory.read_write_other _ _ n1, Memory.read_write_other _ _ n0]

/-- A word of RAM that the processor extension's transfer reads. -/
theorem accept_npxRead {s : State} {g : Signals} {a : Addr} (rest : List Signals) (hg : g.acts = [.npxRead a])
    (hl : s.bus.lock = .free) (h0 : s.kindAt (physAdd a 0) = .ram) (h1 : s.kindAt (physAdd a 1) = .ram) :
    MemSame s (s.accept g rest) ∧ (s.accept g rest).escLog = s.escLog ++ [.operand a (s.peek16 a 0)] := by
  obtain ⟨hm, -, he⟩ := State.accept_one hl hg rest
  rw [State.act_npxRead_ram h0 h1] at hm he
  exact ⟨fun k => congrArg (Memory.read · k) hm, he⟩

/-- Settles O58: each instruction is its load, its store or both (`exec_load8` to `Modifies16.device`), and each of those is what the kind
of memory makes it. -/
theorem memoryKinds : Obligations.MemoryKinds := by
  unfold Obligations.MemoryKinds
  refine ⟨moveForm8_load_kinds, moveForm16_load_device, ?store8, ?store16, ?modify8, ?modify16, accept_place, ?npx⟩
  case store8 =>
    intro f m s a hl ha hf hm e
    rw [exec_store8 hl ha hf hm e]
    refine ⟨fun hk => ?_, fun hk => ?_⟩
    · rw [State.store_dropped hk]
      rfl
    · rw [State.store_device ha.2 hk]
      rfl
  case store16 =>
    intro f m s a b hl ha hf hm e e'
    rw [exec_store16 hl hf hm e e']
    refine ⟨fun hk hk' => ?_, fun hk hk' => ?_⟩
    · rw [State.storeWord_dropped ha hk hk']
      rfl
    · rw [State.storeWord_device ha hk hk']
      rfl
  case modify8 =>
    intro i m s a result flags hl ha hm e hk hi
    have hmod : Modifies8 i m s result flags := by
      obtain ⟨op, rfl, rfl, rfl⟩ | ⟨op, f, rfl, hf, hr⟩ := hi
      · exact op.modifies8 m s
      · exact ArithOp.modifies8 hf hr
    obtain ⟨d, feed, hd, he⟩ := hmod.device hl ha hm e hk
    exact ⟨_, d, feed, he, hd, rfl⟩
  case modify16 =>
    intro i m s a b result flags hl ha hm e e' hk hk' hi
    have hmod : Modifies16 i m s result flags := by
      obtain ⟨op, rfl, rfl, rfl⟩ | ⟨op, f, rfl, hf, hr⟩ := hi
      · exact op.modifies16 m s
      · exact ArithOp.modifies16 hf hr
    obtain ⟨lo, hi, feed, hd, he⟩ := hmod.device hl ha hm e e' hk hk'
    exact ⟨_, lo, hi, feed, _, he, hd, (pair_eq_mkWord hi lo).symm, rfl⟩
  case npx =>
    intro s g rest a v hl hu hw h0 h1
    exact ⟨fun hg => accept_npxWrite rest hg hl hu hw h0 h1, fun hg => accept_npxRead rest hg hl h0 h1⟩

end Sys2Proof.Machine
end

section
/-! PROOF of O1 and O2: what RESET sets, and that the invariant holds there. -/

namespace Sys2Proof.Machine

/-- RESET leaves the three data segment registers alike (R71). -/
theorem reset_seg_of_ne_cs {r : SegReg} (h : r ≠ .cs) : State.reset.seg r = SegCache.atReset := by
  cases r with
  | cs => exact absurd rfl h
  | es | ss | ds => rfl

/-- RESET marks every segment register valid. -/
theorem reset_seg_valid (r : SegReg) : (State.reset.seg r).ar ≠ 0 := by cases r <;> decide

/-- Every segment register at RESET is a Real Address Mode segment: CS by its reset-time base (70_reset_and_hazards.md R740), the others
as a load of selector 0 leaves them. -/
theorem reset_realSegment (r : SegReg) : RealSegment State.reset r := by
  cases r with
  | cs => exact ⟨rfl, rfl, .inr ⟨rfl, rfl⟩⟩
  | es | ss | ds => exact ⟨rfl, rfl, .inl rfl⟩

/-- Settles O1: the segment registers by `reset_seg_valid` and `reset_seg_of_ne_cs`, the rest by evaluating `State.reset`. -/
theorem resetValues : Obligations.ResetValues := by
  unfold Obligations.ResetValues
  refine ⟨by decide, by decide, rfl, rfl, rfl, rfl, reset_seg_valid, fun r hr => ?_, rfl, rfl, rfl, rfl, rfl, rfl, rfl, rfl, by decide⟩
  rw [reset_seg_of_ne_cs hr]
  exact ⟨rfl, rfl, rfl⟩

/-- Settles O2. -/
theorem resetInv : Obligations.ResetInv where
  memory := reset_memory_wf
  realFlags _ := ⟨rfl, rfl⟩
  realSegments _ := reset_realSegment
  prefixes := Nat.zero_le _
  noPrefix _ := rfl
  hazard h := absurd rfl h
  unreset := rfl

end Sys2Proof.Machine
end

section
/-! PROOF of O4: a step runs the instruction that stands at CS:IP, and a boundary with no event leaves the state as it was. -/

namespace Sys2Proof.Machine

section
variable {s : State}

/-! ### The latches at the start of an instruction leave what is fetched as it was -/

@[simp] theorem State.beginInstr_kindAt (s : State) (a : Nat) : s.beginInstr.kindAt a = s.kindAt a := by
  unfold State.kindAt State.beginInstr
  dsimp only
  split <;> rfl

@[simp] theorem State.beginInstr_look (s : State) (a : Nat) : s.beginInstr.look a = s.look a := by
  have hf : s.beginInstr.bus.floats = s.bus.floats := by
    unfold State.beginInstr
    dsimp only
    split <;> rfl
  unfold State.look
  rw [State.beginInstr_kindAt, hf]
  rfl

@[simp] theorem State.beginInstr_segAddr (s : State) (r : SegReg) (off : Word) (k : Nat) :
    s.beginInstr.segAddr r off k = s.segAddr r off k := by
  cases r <;> rfl

@[simp] theorem State.beginInstr_segByte (s : State) (r : SegReg) (off : Word) (k : Nat) :
    s.beginInstr.segByte r off k = s.segByte r off k := by
  simp only [State.segByte, State.beginInstr_segAddr, State.beginInstr_look]

@[simp] theorem fetchOk_beginInstr (s : State) (off : Nat) : fetchOk s.beginInstr off = fetchOk s off := rfl

@[simp] theorem fetchBytes_beginInstr (s : State) (off n : Nat) : fetchBytes s.beginInstr off n = fetchBytes s off n := by
  induction n generalizing off with
  | zero => rfl
  | succ n ih => simp only [fetchBytes, fetchOk_beginInstr, State.beginInstr_segByte, ih]

@[simp] theorem State.beginInstr_fetched (s : State) : s.beginInstr.fetched = s.fetched := fetchBytes_beginInstr s _ _

/-! ### The step of the running machine -/

theorem executeNext_of_decode {i : Instr} {rest : List Byte} (hd : decode s.fetched = .ok (i, rest)) :
    executeNext s = exec i (s.withNext (s.fetched.length - rest.length)) := by
  simp only [executeNext, hd]

theorem runStep_of_decode {i : Instr} {rest : List Byte} (hr : s.run = .running) (hd : decode s.fetched = .ok (i, rest)) :
    runStep s = atBoundary s.mem (exec i (s.beginInstr.withNext (s.fetched.length - rest.length))) := by
  have he := executeNext_of_decode (s := s.beginInstr) (by rwa [State.beginInstr_fetched])
  rw [State.beginInstr_fetched] at he
  simp only [runStep, hr, he]

theorem step_of_no_input (hi : s.inputs = []) : step s = runStep s := by simp only [step, stepMachine, hi]

theorem step_of_input {g : Signals} {gs : List Signals} (hi : s.inputs = g :: gs) (hg : g.reset = none) :
    step s = runStep (s.accept g gs) := by
  simp only [step, stepMachine, hi, hg]

/-- Taking in an input leaves the run state as it was. -/
theorem State.accept_run (s : State) (g : Signals) (gs : List Signals) : (s.accept g gs).run = s.run := (s.hear_onBus g.acts).run

/-! ### A boundary with no event -/

theorem singleStep_of_not_latched (h : s.tfAtStart = false) : singleStep s = s := by simp [singleStep, h]

theorem takeNmi_of_none (h : s.nmiPending = false) : takeNmi s = s := by simp [takeNmi, h]

theorem takeInt9_of_none (h : s.int9Pending = false) : takeInt9 s = s := by simp [takeInt9, h]

theorem takeIntr_of_none (h : s.pins.intr = none) : takeIntr s = s := by simp only [takeIntr, h]

theorem takeExternal_of_none (hn : s.nmiPending = false) (h9 : s.int9Pending = false) (hi : s.pins.intr = none) :
    takeExternal s = s := by
  rw [takeExternal, takeNmi_of_none hn, takeInt9_of_none h9, takeIntr_of_none hi]

theorem boundaryEvents_of_none (ht : s.tfAtStart = false) (hn : s.nmiPending = false) (h9 : s.int9Pending = false)
    (hi : s.pins.intr = none) : boundaryEvents s = s := by
  rw [boundaryEvents, singleStep_of_not_latched ht, takeExternal_of_none hn h9 hi, ite_self]

/-- A bus lock that is not of this instruction alone stays as it is: there is none, or it is kept for the next iteration. -/
theorem State.endLock_of_not_active (h : s.bus.lock ≠ .active) : s.endLock = s := by
  cases hl : s.bus.lock with
  | free => simp [State.endLock, State.release, hl]
  | active => exact absurd hl h
  | kept => simp [State.endLock, hl]

theorem State.flagHazard_of_clear (h : s.lmsw = .clear) : s.flagHazard = s := if_neg (by simp [h])

theorem endInstr_of_no_boundary (before : Memory) (h : s.pfx.count ≠ 0) : endInstr before s = s := if_neg h

theorem endInstr_of_boundary (before : Memory) (h : s.pfx.count = 0) :
    endInstr before s = { boundaryEvents (s.noteStores before).endLock.flagHazard with stiShadow := false } := if_pos h

theorem endInstr_of_no_event (before : Memory) (hp : s.pfx.count = 0) (ht : s.tfAtStart = false) (hn : s.nmiPending = false)
    (h9 : s.int9Pending = false) (hi : s.pins.intr = none) (hm : s.lmsw = .clear) (hl : s.bus.lock ≠ .active) :
    endInstr before s = { s.noteStores before with stiShadow := false } := by
  have he : boundaryEvents (s.noteStores before).endLock.flagHazard = s.noteStores before := by
    rw [State.endLock_of_not_active (s := s.noteStores before) hl, State.flagHazard_of_clear (s := s.noteStores before) hm]
    exact boundaryEvents_of_none ht hn h9 hi
  rw [endInstr_of_boundary before hp, he]

end

/-- Settles O4: `step` is `runStep` of the state that has taken in its input, and `runStep` fetches, decodes and executes. -/
theorem stepRunsDecoded : Obligations.StepRunsDecoded := by
  unfold Obligations.StepRunsDecoded
  refine ⟨?noInput, ?input, ?boundary⟩
  case noInput =>
    intro s i rest _ hr hi hd
    rw [step_of_no_input hi, runStep_of_decode hr hd]
  case input =>
    rintro s _ g gs i rest _ hr hi hg rfl hd
    rw [step_of_input hi hg, runStep_of_decode ((s.accept_run g gs).trans hr) hd]
  case boundary =>
    exact fun before s t => ⟨rfl, endInstr_of_no_boundary before, fun hp _ _ ht hn h9 hi hm hl =>
      endInstr_of_no_event before hp ht hn h9 hi hm hl⟩

end Sys2Proof.Machine
end

section
/-! PROOF of O60: when the flags of the LMSW and prefetch hazards are set (70_reset_and_hazards.md R750, R753). -/

namespace Sys2Proof.Machine

/-! ### The bytes an instruction has changed -/

/-- An address that is not listed reads as unlisted. -/
theorem Memory.read_of_not_listed {m : Memory} {a : Nat} (h : a ∉ m.map Prod.fst) : m.read a = unlistedByte := by
  induction m with
  | nil => rfl
  | cons c m ih =>
    rw [List.map_cons, List.mem_cons, not_or] at h
    obtain ⟨hc, hm⟩ := h
    rw [Memory.read, if_neg (Ne.symm hc), ih hm]

/-- The addresses looked at are those listed before or after, which is enough: all others read as unlisted in both memories. -/
theorem mem_changedBytes (old new : Memory) (a : Nat) : a ∈ changedBytes old new ↔ old.read a ≠ new.read a := by
  simp only [changedBytes, List.mem_filter, List.map_append, List.mem_append, decide_eq_true_eq, and_iff_right_iff_imp]
  intro hne
  by_contra hl
  rw [not_or] at hl
  obtain ⟨ho, hn⟩ := hl
  exact hne ((Memory.read_of_not_listed ho).trans (Memory.read_of_not_listed hn).symm)

theorem State.mem_storedSince_noteStores (before : Memory) (s : State) (a : Nat) :
    a ∈ (s.noteStores before).storedSince ↔ s.queueFlushed = false ∧ (a ∈ s.storedSince ∨ before.read a ≠ s.mem.read a) := by
  cases hq : s.queueFlushed with
  | true => simp [State.noteStores, hq]
  | false => simp [State.noteStores, hq, mem_changedBytes]

/-! ### Bytes run after a store to them -/

theorem staleBytes_iff (s : State) (off n : Nat) :
    staleBytes s off n = true ↔ ∃ k, k < n ∧ (s.segAddr .cs (BitVec.ofNat 16 (off + k))).toNat ∈ s.storedSince := by
  induction n generalizing off with
  | zero => simp [staleBytes]
  | succ n ih =>
    simp only [staleBytes, Bool.or_eq_true, decide_eq_true_eq, ih, Nat.exists_lt_succ_left, Nat.add_zero, Nat.add_right_comm off 1,
      Nat.add_assoc]

theorem State.withNext_hazardStaleCode_iff (s : State) (len : Nat) :
    (s.withNext len).hazardStaleCode = true ↔ s.hazardStaleCode = true ∨
      ∃ k, k < len ∧ (s.segAddr .cs (BitVec.ofNat 16 (s.fetchOffset + k))).toNat ∈ s.storedSince := by
  simp only [State.withNext, Bool.or_eq_true, staleBytes_iff]

/-! ### The jump that an LMSW awaits -/

/-- A delivery sets the flag of R750 where an LMSW still awaited its jump, and never otherwise. -/
@[simp] theorem deliver_hazardLmswNoJmp (s : State) (v : Byte) (ip : Word) (kind : EventKind) (code : Word) :
    (deliver s v ip kind code).hazardLmswNoJmp = (s.hazardLmswNoJmp || decide (s.lmsw ≠ .clear)) := by
  obtain ⟨b, u, ⟨hf, -⟩, ht⟩ := deliver_settled s v ip kind code
  have hm : u.lmsw = s.lmsw := (congrArg State.lmsw hf :)
  have hh : u.hazardLmswNoJmp = s.hazardLmswNoJmp := (congrArg State.hazardLmswNoJmp hf :)
  rw [← hm, ← hh]
  obtain ht | ht := ht <;> exact congrArg State.hazardLmswNoJmp ht

/-- No LMSW awaits its jump, and the flag of R750 reads `b`. -/
def NoJumpAwaited (b : Bool) (s : State) : Prop := s.lmsw = .clear ∧ s.hazardLmswNoJmp = b

section
variable {b : Bool} {s : State}

theorem NoJumpAwaited.deliver (h : NoJumpAwaited b s) (v : Byte) (ip : Word) (kind : EventKind) (code : Word) :
    NoJumpAwaited b (deliver s v ip kind code) := by
  obtain ⟨hm, hh⟩ := h
  exact ⟨deliver_lmsw s v ip kind code, by simp [hm, hh]⟩

theorem NoJumpAwaited.singleStep (h : NoJumpAwaited b s) : NoJumpAwaited b (singleStep s) := by
  unfold Machine.singleStep
  split
  · exact h.deliver _ _ _ _
  · exact h

theorem NoJumpAwaited.takeNmi (h : NoJumpAwaited b s) : NoJumpAwaited b (takeNmi s) := by
  unfold Machine.takeNmi
  split
  · exact NoJumpAwaited.deliver (s := { s with nmiPending := false, nmiMasked := true }) h _ _ _ _
  · exact h

theorem NoJumpAwaited.takeInt9 (h : NoJumpAwaited b s) : NoJumpAwaited b (takeInt9 s) := by
  unfold Machine.takeInt9
  split
  · exact NoJumpAwaited.deliver (s := { s with int9Pending := false }) h _ _ _ _
  · exact h

theorem NoJumpAwaited.takeIntr (h : NoJumpAwaited b s) : NoJumpAwaited b (takeIntr s) := by
  unfold Machine.takeIntr
  split
  · exact h
  · split
    · exact NoJumpAwaited.deliver (s := { s with pins := { s.pins with intr := none } }) h _ _ _ _
    · exact h

theorem NoJumpAwaited.boundaryEvents (h : NoJumpAwaited b s) : NoJumpAwaited b (boundaryEvents s) := by
  unfold Machine.boundaryEvents
  split
  · exact h
  · exact h.singleStep.takeNmi.takeInt9.takeIntr

theorem State.endLock_onBus (s : State) : OnBus s s.endLock := by
  unfold State.endLock
  split
  · exact .refl s
  · exact s.release_onBus

/-- At a boundary, what becomes of the flag is decided before the events: by what `flagHazard` finds. -/
theorem endInstr_noJumpAwaited (before : Memory) (hp : s.pfx.count = 0)
    (h : NoJumpAwaited b (s.noteStores before).endLock.flagHazard) : NoJumpAwaited b (endInstr before s) := by
  rw [endInstr_of_boundary before hp]
  exact h.boundaryEvents

/-- An instruction that ends with the jump still awaited has missed it. -/
theorem endInstr_of_armed (before : Memory) (hp : s.pfx.count = 0) (hm : s.lmsw = .armed) : NoJumpAwaited true (endInstr before s) := by
  have hu : (s.noteStores before).endLock.lmsw = .armed := (State.endLock_onBus _).lmsw.trans hm
  refine endInstr_noJumpAwaited before hp ?_
  rw [State.flagHazard, if_pos hu]
  exact ⟨rfl, by simp [State.missJump, hu]⟩

/-- An instruction that ends with no jump awaited leaves the flag as it was. -/
theorem endInstr_of_clear (before : Memory) (hp : s.pfx.count = 0) (hm : s.lmsw = .clear) :
    NoJumpAwaited s.hazardLmswNoJmp (endInstr before s) := by
  have hb := (s.noteStores before).endLock_onBus
  have hu : (s.noteStores before).endLock.lmsw = .clear := hb.lmsw.trans hm
  refine endInstr_noJumpAwaited before hp ?_
  rw [State.flagHazard_of_clear hu]
  exact ⟨hu, hb.hazardLmswNoJmp⟩

end

/-- Settles O60. -/
theorem hazards : Obligations.Hazards := by
  unfold Obligations.Hazards
  refine ⟨fun s hm => if_pos hm, fun before s hp => ⟨fun hm => ?_, fun hm => (endInstr_of_clear before hp hm).2⟩,
    State.withNext_hazardStaleCode_iff, State.mem_storedSince_noteStores⟩
  obtain ⟨hc, hh⟩ := endInstr_of_armed before hp hm
  exact ⟨hh, hc⟩

end Sys2Proof.Machine
end

section
/-! PROOF of O3: every step keeps the invariant.  `Core` (Laws/Invariant.lean) is what concerns memory, mode and segments; what the
invariant says of prefixes is `PrefixBound`.  One lemma per operation of the model says that what it answers has Core.  Here: bus cycles,
ports, operands and segment loads. -/

namespace Sys2Proof.Machine

/-! ### What a computation answers -/

/-- What a computation answers, if it does, has the property `P`. -/
def Yields {ε α : Type} (P : α → Prop) (r : Except ε α) : Prop := ∀ a, r = .ok a → P a

section
variable {ε α β : Type} {P : α → Prop} {R : β → Prop}

theorem Yields.ok {a : α} (h : P a) : Yields P (.ok a : Except ε α) := fun _ e => by cases e; exact h

theorem Yields.error (x : ε) : Yields P (.error x) := fun _ e => nomatch e

theorem Yields.bind {r : Except ε α} {g : α → Except ε β} (h : Yields P r) (hg : ∀ a, P a → Yields R (g a)) :
    Yields R (r >>= g) := by
  cases r with
  | error x => exact .error x
  | ok a => exact hg a (h a rfl)

/-- A check, then the rest. -/
theorem Yields.check {r : Except ε Unit} {g : Unit → Except ε β} (hg : Yields R (g ())) : Yields R (r >>= g) :=
  .bind (P := fun _ => True) (fun _ _ => trivial) fun _ _ => hg

theorem Yields.afterReads {s : State} {r : Except Trap α} (h : Yields P r) : Yields P (afterReads s r) :=
  fun a e => h a ((afterReads_ok_iff s r a).1 e)

/-- A descriptor read, then the rest: what other agents do first is all that happens. -/
theorem Yields.fetchOr {s : State} {sel : Word} {t : Trap} {g : Desc × State → Except Trap β}
    (hg : ∀ d, Yields R (g (d, s.others))) : Yields R (fetchOr s sel t >>= g) := by
  refine .bind (P := fun p => p.2 = s.others) (fun p e => fetchOr_state e) fun ⟨d, u⟩ hu => ?_
  cases hu
  exact hg d

end

variable {Q : Prop} {s : State}

/-! ### Bus cycles and ports -/

theorem Core.cycle (h : Core Q s) : Core Q s.cycle := h.onBus s.cycle_onBus (State.cycle_wf h.1) (·.cycle)

/-- A RESET comes now: only where one may fall into the step. -/
theorem Core.resetNow (h : Core Q s) (hq : ¬ Q) : Core Q s.resetNow := by
  have e := s.resetNow_onBus
  unfold OnBus at e
  refine ⟨State.resetNow_wf h.1, ?_, ?_, fun q => absurd q hq⟩
  · rw [e]; exact h.2.1
  · rw [e]; exact h.2.2.1

theorem Core.portByte (h : Core Q s) (p : Word) : Core Q (s.portByte p).2 := by
  unfold State.portByte
  repeat' split
  all_goals exact h

theorem Core.record (h : Core Q s) (e : PortEvent) : Core Q (s.record e) := by
  unfold State.record
  split <;> exact h

theorem Core.portGap (h : Core Q s) (p : Word) (e : PortEvent) : Core Q (s.portGap p e) := by
  have hc := (h.record e).cycle
  unfold State.portGap
  split
  · dsimp only
    split <;> exact hc
  · exact h

theorem Core.portRead8 (h : Core Q s) (p : Word) : Core Q (s.portRead8 p).2 := (h.cycle.portByte p).record _

theorem Core.portRead16 (h : Core Q s) (p : Word) : Core Q (s.portRead16 p).2 :=
  (((h.cycle.portByte p).portGap p _).portByte _).record _

theorem Core.portWrite8 (h : Core Q s) (p : Word) (v : Byte) : Core Q (s.portWrite8 p v) := h.cycle.record _

theorem Core.portWrite16 (h : Core Q s) (p : Word) (v : Word) : Core Q (s.portWrite16 p v) := (h.cycle.portGap p _).record _

theorem Core.escape (h : Core Q s) (ev : EscEvent) : Core Q (s.escape ev) := by
  unfold State.escape
  split <;> exact h.cycle

/-! ### Operands -/

theorem Core.setGpr (h : Core Q s) (g : Gpr) : Core Q { s with gpr := g } := h

/-- Reads alone have led from `s` to `t`: Core; FLAGS and MSW as they were. -/
def ReadFrom (Q : Prop) (s t : State) : Prop := Core Q t ∧ t.flags = s.flags ∧ t.msw = s.msw

theorem Core.readFrom (h : Core Q s) : ReadFrom Q s s := ⟨h, rfl, rfl⟩

section
variable {t : State}

theorem ReadFrom.segGet8 (h : ReadFrom Q s t) (r : SegReg) (off : Word) : ReadFrom Q s (t.segGet8 r off).2 :=
  ⟨h.1.segGet8 r off 0, (State.segGet8_flags t r off 0).trans h.2.1, (State.segGet8_msw t r off 0).trans h.2.2⟩

theorem ReadFrom.segGet16 (h : ReadFrom Q s t) (r : SegReg) (off : Word) : ReadFrom Q s (t.segGet16 r off).2 :=
  ⟨h.1.segGet16 r off, (State.segGet16_flags t r off).trans h.2.1, (State.segGet16_msw t r off).trans h.2.2⟩

theorem ReadFrom.getRm8 (h : ReadFrom Q s t) (e : Rm8) : ReadFrom Q s (t.getRm8 e).2 := by
  cases e with
  | reg r => exact h
  | mem m => exact h.segGet8 _ _

theorem ReadFrom.getRm16 (h : ReadFrom Q s t) (e : Rm16) : ReadFrom Q s (t.getRm16 e).2 := by
  cases e with
  | reg r => exact h
  | mem m => exact h.segGet16 _ _

theorem ReadFrom.elemGet (h : ReadFrom Q s t) (w : Elem) (r : SegReg) (off : Word) : ReadFrom Q s (w.get t r off).2 := by
  cases w with
  | byte => exact h.segGet8 _ _
  | word => exact h.segGet16 _ _

/-- FLAGS written after reads, IOPL and NT as they were before them. -/
theorem ReadFrom.setFlags (h : ReadFrom Q s t) {f : Flags} (h1 : f.iopl = s.flags.iopl) (h2 : f.nt = s.flags.nt) :
    Core Q (t.setFlags f) :=
  h.1.setFlags (h1.trans (congrArg Flags.iopl h.2.1).symm) (h2.trans (congrArg Flags.nt h.2.1).symm)

end

theorem loadRm8_yields (h : Core Q s) (e : Rm8) (k : Access) : Yields (fun p => ReadFrom Q s p.2) (loadRm8 s e k) :=
  .check (.ok (h.readFrom.getRm8 e))

theorem loadRm16_yields (h : Core Q s) (e : Rm16) (k : Access) : Yields (fun p => ReadFrom Q s p.2) (loadRm16 s e k) :=
  .check (.ok (h.readFrom.getRm16 e))

theorem segRead8_yields (h : Core Q s) (r : SegReg) (off : Word) : Yields (fun p => Core Q p.2) (segRead8 s r off) :=
  .check (.ok (h.segGet8 r off 0))

theorem segRead16_yields (h : Core Q s) (r : SegReg) (off : Word) : Yields (fun p => Core Q p.2) (segRead16 s r off) :=
  .check (.ok (h.segGet16 r off))

theorem Core.memWord (h : Core Q s) (m : MemOp) (k : Word) : Core Q (s.memWord m k).2 := h.segGet16 _ _

theorem Core.getPointer (h : Core Q s) (m : MemOp) : Core Q (s.getPointer m).st := (h.memWord m 0).memWord m 2

theorem loadPointer_yields (h : Core Q s) (m : MemOp) : Yields (fun p => Core Q p.st) (loadPointer s m) :=
  .check (.ok (h.getPointer m))

theorem Core.elemPut (h : Core Q s) (w : Elem) (r : SegReg) (off v : Word) : Core Q (w.put s r off v) := by
  cases w with
  | byte => exact h.segPut8 _ _ _ _
  | word => exact h.segPut16 _ _ _

theorem Core.elemPortRead (h : Core Q s) (w : Elem) : Core Q (w.portRead s).2 := by
  cases w with
  | byte => exact h.portRead8 _
  | word => exact h.portRead16 _

theorem Core.elemPortWrite (h : Core Q s) (w : Elem) (v : Word) : Core Q (w.portWrite s v) := by
  cases w with
  | byte => exact h.portWrite8 _ _
  | word => exact h.portWrite16 _ _

/-! ### The stack -/

theorem push16_yields (h : Core Q s) (v : Word) : Yields (Core Q) (push16 s v) := fun _ e => h.push16 e

theorem pushAll_yields (h : Core Q s) (ws : List Word) : Yields (Core Q) (pushAll s ws) := fun _ e => h.pushAll e

theorem stackTop_yields (h : Core Q s) : Yields (fun p => ReadFrom Q s p.2) (stackTop s) := .check (.ok (h.readFrom.segGet16 .ss _))

theorem pop16_yields (h : Core Q s) : Yields (fun p => ReadFrom Q s p.2) (pop16 s) :=
  .bind (stackTop_yields h) fun _ hp => .ok hp

/-! ### Segment loads -/

/-- In Protected Mode a segment register may hold anything. -/
theorem Core.setSeg (h : Core Q s) (hp : s.msw.pe = true) (r : SegReg) (c : SegCache) : Core Q (s.setSeg r c) :=
  .of_protected (State.setSeg_wf h.1 r c) (State.setSeg_pe hp r c) (by cases r <;> exact h.2.2.2)

theorem loadDataSeg_yields (h : Core Q s) (r : SegReg) (sel : Word) : Yields (Core Q) (loadDataSeg s r sel) := by
  cases hp : s.msw.pe with
  | false =>
    rw [loadDataSeg_real hp]
    exact .ok (h.setSeg_real r sel)
  | true =>
    have hu : ∀ d, (s.others.setAccessed d).msw.pe = true := fun d => by simpa using hp
    unfold loadDataSeg
    rw [if_neg (by simp [hp])]
    split
    · exact .ok (h.setSeg hp r _)
    · exact .fetchOr fun d => .afterReads <| .check <| .check <| .check <| .ok ((h.others.setAccessed d).setSeg (hu d) r _)

theorem loadSs_yields (h : Core Q s) (sel : Word) : Yields (Core Q) (loadSs s sel) := by
  cases hp : s.msw.pe with
  | false =>
    rw [loadSs_real hp]
    exact .ok (h.setSeg_real .ss sel)
  | true =>
    have hu : ∀ d, (s.others.setAccessed d).msw.pe = true := fun d => by simpa using hp
    unfold loadSs
    rw [if_neg (by simp [hp])]
    exact .check <| .fetchOr fun d => .afterReads <| .check <| .check <| .check <| .check <|
      .ok ((h.others.setAccessed d).setSeg (hu d) .ss _)

end Sys2Proof.Machine
end

section
/-! PROOF of O3, continued: every instruction keeps Core, and ends with no prefix in force unless it is a prefix byte. -/

namespace Sys2Proof.Machine

variable {Q : Prop} {s : State}

/-! ### How an instruction ends -/

theorem Core.deliver (h : Core Q s) (v : Byte) (ip : Word) (kind : EventKind) (code : Word) : Core Q (deliver s v ip kind code) :=
  (deliver_delivered h v ip kind code).facts.1

/-- Where an instruction goes on Core is kept, and no prefix is in force but those of an instruction still being read. -/
def NextCore (Q : Prop) (s : State) (o : Host.Outcome State Fault Refusal) : Prop :=
  ∀ t, o = .next t → Core Q t ∧ (t.pfx = {} ∨ t.pfx.count = s.pfx.count + 1 ∧ t.run = s.run)

/-- An instruction that has ended. -/
theorem NextCore.ended {t : State} (h : Core Q t) (hp : t.pfx = {}) : NextCore Q s (.next t) := fun _ e => by
  cases e
  exact ⟨h, .inl hp⟩

theorem raise_nextCore {f : Failure} (h : Core Q f.st) : NextCore Q s (.next (raise f)) :=
  .ended (Core.deliver (s := f.st.noStep) h _ _ _ _) (deliver_pfx _ _ _ _ _)

theorem raiseAt_nextCore (h : Core Q s) (x : Trap) : NextCore Q s (.next (raiseAt s x)) := raise_nextCore (h.over x)

theorem undefinedOpcode_nextCore (h : Core Q s) : NextCore Q s (undefinedOpcode s) := raiseAt_nextCore h _

theorem runInstr_nextCore (h : Core Q s) {r : Except Trap State} (hr : Yields (Core Q) r) : NextCore Q s (runInstr s r) := by
  rcases runInstr_cases s r with ⟨t, ht, e⟩ | ⟨x, e⟩ <;> rw [e]
  · exact .ended (hr t ht) rfl
  · exact raiseAt_nextCore h x

/-- An instruction that makes no bus cycle and raises nothing. -/
theorem runInstr_ok_nextCore (h : Core Q s) {t : State} (ht : Core Q t) : NextCore Q s (runInstr s (.ok t)) :=
  runInstr_nextCore h (.ok ht)

theorem runJump_nextCore (h : Core Q s) {r : Except Trap State} (hr : Yields (Core Q) r) : NextCore Q s (runJump s r) := by
  have hg : Yields (Core Q) (do lockGuard s; r) := .check hr
  unfold runJump
  cases hx : (do lockGuard s; r) with
  | ok t => exact .ended (hg t hx).retireNear rfl
  | error x => exact raiseAt_nextCore h x

theorem runFar_nextCore (h : Core Q s) {r : Except Failure State} (hr : Ends (Core Q) r) : NextCore Q s (runFar s r) := by
  have hg : Ends (Core Q) (do failIn s (lockGuard s); r) := .check h.over fun _ _ => hr
  unfold runFar
  cases hx : (do failIn s (lockGuard s); r) with
  | ok t => exact .ended (hg.1 t hx) rfl
  | error f => exact raise_nextCore (hg.2 f hx)

theorem runProtected_nextCore (h : Core Q s) {r : Except Trap State} (hr : Yields (Core Q) r) : NextCore Q s (runProtected s r) := by
  unfold runProtected
  split
  · exact runInstr_nextCore h hr
  · exact undefinedOpcode_nextCore h

/-! ### Arithmetic and logic: FLAGS change, IOPL and NT do not -/

theorem Core.aluCompute (h : Core Q s) {n : Nat} (op : AluOp) (d v : BitVec n) : Core Q (aluCompute op s d v).2 := by
  cases op <;> exact h.setFlags rfl rfl

theorem Core.shiftCompute (h : Core Q s) {n : Nat} (op : ShiftOp) (x : BitVec n) (raw : Byte) :
    Core Q (shiftCompute op s x raw).2 := by
  unfold Machine.shiftCompute
  dsimp only
  split
  · exact h
  · cases op.rotates <;> exact h.setFlags rfl rfl

theorem Core.mulFlags (h : Core Q s) (big : Bool) : Core Q (mulFlags s big) := h.setFlags rfl rfl

theorem Core.divFlags (h : Core Q s) : Core Q (divFlags s) := h.setFlags rfl rfl

theorem Core.decimalAdjust (h : Core Q s) (b : Bool) : Core Q (decimalAdjust s b) := h.setFlags rfl rfl

theorem Core.asciiAdjust (h : Core Q s) (b : Bool) : Core Q (asciiAdjust s b) := h.setFlags rfl rfl

theorem Core.asciiScale (h : Core Q s) (al ah : Byte) : Core Q (asciiScale s al ah) := h.setFlags rfl rfl

theorem Core.setZf (h : Core Q s) (b : Bool) : Core Q (s.setZf b) := h.setFlags rfl rfl

theorem unaryCompute_system {n : Nat} (op : UnaryOp) (f : Flags) (d : BitVec n) :
    (unaryCompute op f d).2.iopl = f.iopl ∧ (unaryCompute op f d).2.nt = f.nt := by
  cases op <;> exact ⟨rfl, rfl⟩

theorem aluRm8_yields (h : Core Q s) (op : AluOp) (e : Rm8) (v : Byte) : Yields (Core Q) (aluRm8 op e v s) := by
  refine .bind (loadRm8_yields h e _) fun d hd => .ok ?_
  have hc := hd.1.aluCompute op d.1 v
  split
  · exact hc
  · exact hc.storeRm8 e _

theorem aluRm16_yields (h : Core Q s) (op : AluOp) (e : Rm16) (v : Word) : Yields (Core Q) (aluRm16 op e v s) := by
  refine .bind (loadRm16_yields h e _) fun d hd => .ok ?_
  have hc := hd.1.aluCompute op d.1 v
  split
  · exact hc
  · exact hc.storeRm16 e _

theorem aluReg8_yields (h : Core Q s) (op : AluOp) (g : Reg8) (e : Rm8) : Yields (Core Q) (aluReg8 op g e s) :=
  .bind (loadRm8_yields h e _) fun v hv => .ok (hv.1.aluCompute op (s.reg8 g) v.1)

theorem aluReg16_yields (h : Core Q s) (op : AluOp) (g : Reg16) (e : Rm16) : Yields (Core Q) (aluReg16 op g e s) :=
  .bind (loadRm16_yields h e _) fun v hv => .ok (hv.1.aluCompute op (s.reg16 g) v.1)

theorem unaryRm8_yields (h : Core Q s) (op : UnaryOp) (e : Rm8) : Yields (Core Q) (unaryRm8 op e s) :=
  .bind (loadRm8_yields h e _) fun d hd =>
    have hf := unaryCompute_system op s.flags d.1
    .ok ((hd.setFlags hf.1 hf.2).storeRm8 e _)

theorem unaryRm16_yields (h : Core Q s) (op : UnaryOp) (e : Rm16) : Yields (Core Q) (unaryRm16 op e s) :=
  .bind (loadRm16_yields h e _) fun d hd =>
    have hf := unaryCompute_system op s.flags d.1
    .ok ((hd.setFlags hf.1 hf.2).storeRm16 e _)

theorem shiftRm8_yields (h : Core Q s) (op : ShiftOp) (e : Rm8) (raw : Byte) : Yields (Core Q) (shiftRm8 op e raw s) :=
  .bind (loadRm8_yields h e _) fun x hx => .ok ((hx.1.shiftCompute op x.1 raw).storeRm8 e _)

theorem shiftRm16_yields (h : Core Q s) (op : ShiftOp) (e : Rm16) (raw : Byte) : Yields (Core Q) (shiftRm16 op e raw s) :=
  .bind (loadRm16_yields h e _) fun x hx => .ok ((hx.1.shiftCompute op x.1 raw).storeRm16 e _)

theorem testRm8_yields (h : Core Q s) (e : Rm8) (v : Byte) : Yields (Core Q) (testRm8 e v s) :=
  .bind (loadRm8_yields h e _) fun _ hd => .ok (hd.1.setFlags rfl rfl)

theorem testRm16_yields (h : Core Q s) (e : Rm16) (v : Word) : Yields (Core Q) (testRm16 e v s) :=
  .bind (loadRm16_yields h e _) fun _ hd => .ok (hd.1.setFlags rfl rfl)

theorem mulRm8_yields (h : Core Q s) (e : Rm8) : Yields (Core Q) (mulRm8 e s) :=
  .bind (loadRm8_yields h e _) fun _ hv => .ok (hv.1.mulFlags _)

theorem mulRm16_yields (h : Core Q s) (e : Rm16) : Yields (Core Q) (mulRm16 e s) :=
  .bind (loadRm16_yields h e _) fun _ hv => .ok (hv.1.mulFlags _)

theorem imulRm8_yields (h : Core Q s) (e : Rm8) : Yields (Core Q) (imulRm8 e s) :=
  .bind (loadRm8_yields h e _) fun _ hv => .ok (hv.1.mulFlags _)

theorem imulRm16_yields (h : Core Q s) (e : Rm16) : Yields (Core Q) (imulRm16 e s) :=
  .bind (loadRm16_yields h e _) fun _ hv => .ok (hv.1.mulFlags _)

theorem imulImm_yields (h : Core Q s) (r : Reg16) (e : Rm16) (imm : Word) : Yields (Core Q) (imulImm r e imm s) :=
  .bind (loadRm16_yields h e _) fun _ hv => .ok (hv.1.mulFlags _)

theorem divRm8_yields (h : Core Q s) (e : Rm8) : Yields (Core Q) (divRm8 e s) :=
  .bind (loadRm8_yields h e _) fun _ hv => .check (.ok hv.1.divFlags)

theorem divRm16_yields (h : Core Q s) (e : Rm16) : Yields (Core Q) (divRm16 e s) :=
  .bind (loadRm16_yields h e _) fun _ hv => .check (.ok hv.1.divFlags)

theorem idivRm8_yields (h : Core Q s) (e : Rm8) : Yields (Core Q) (idivRm8 e s) :=
  .bind (loadRm8_yields h e _) fun _ hv => .check (.ok hv.1.divFlags)

theorem idivRm16_yields (h : Core Q s) (e : Rm16) : Yields (Core Q) (idivRm16 e s) :=
  .bind (loadRm16_yields h e _) fun _ hv => .check (.ok hv.1.divFlags)

/-! ### Data transfer -/

theorem movToRm8_yields (h : Core Q s) (e : Rm8) (v : Byte) : Yields (Core Q) (movToRm8 e v s) := .check (.ok (h.storeRm8 e v))

theorem movToRm16_yields (h : Core Q s) (e : Rm16) (v : Word) : Yields (Core Q) (movToRm16 e v s) := .check (.ok (h.storeRm16 e v))

theorem movToReg8_yields (h : Core Q s) (r : Reg8) (e : Rm8) : Yields (Core Q) (movToReg8 r e s) :=
  .bind (loadRm8_yields h e _) fun _ hv => .ok hv.1

theorem movToReg16_yields (h : Core Q s) (r : Reg16) (e : Rm16) : Yields (Core Q) (movToReg16 r e s) :=
  .bind (loadRm16_yields h e _) fun _ hv => .ok hv.1

theorem movToSeg_yields (h : Core Q s) (r : SegReg) (e : Rm16) : Yields (Core Q) (movToSeg r e s) :=
  .bind (loadRm16_yields h e _) fun _ hv => .afterReads (loadDataSeg_yields hv.1 r _)

theorem movToSs_yields (h : Core Q s) (e : Rm16) : Yields (Core Q) (movToSs e s) :=
  .bind (loadRm16_yields h e _) fun _ hv => .bind (.afterReads (loadSs_yields hv.1 _)) fun _ hu => .ok hu

/-- An operation keeps Core with the bus locked as it does with the bus free: Core does not look at the lock. -/
theorem locked_yields {op : State → Except Trap State} (h : Core Q s) (ho : ∀ t, Core Q t → Yields (Core Q) (op t)) :
    Yields (Core Q) (locked op s) := by
  have hl := ho (s.withLock .active) (h.withLock _)
  unfold locked
  cases hx : op (s.withLock .active) with
  | ok u => exact .ok ((hl u hx).withLock _)
  | error x => exact .error _

theorem xchgRm8_yields (h : Core Q s) (e : Rm8) (r : Reg8) : Yields (Core Q) (xchgRm8 e r s) :=
  locked_yields h fun _ ht => .bind (loadRm8_yields ht e _) fun _ hv => .ok (Core.setReg8 (hv.1.storeRm8 e _) r _)

theorem xchgRm16_yields (h : Core Q s) (e : Rm16) (r : Reg16) : Yields (Core Q) (xchgRm16 e r s) :=
  locked_yields h fun _ ht => .bind (loadRm16_yields ht e _) fun _ hv => .ok (Core.setReg16 (hv.1.storeRm16 e _) r _)

theorem popReg_yields (h : Core Q s) (r : Reg16) : Yields (Core Q) (popReg r s) := .bind (pop16_yields h) fun _ hp => .ok hp.1

theorem popRm_yields (h : Core Q s) (e : Rm16) : Yields (Core Q) (popRm e s) :=
  .check <| .check <| .ok (((h.stackGet 0).setSp _).storeRm16 e _)

theorem pushRm_yields (h : Core Q s) (e : Rm16) : Yields (Core Q) (pushRm e s) :=
  .check <| .check <| push16_yields (h.readFrom.getRm16 e).1 _

theorem popSeg_yields (h : Core Q s) (r : SegReg) : Yields (Core Q) (popSeg r s) :=
  .bind (stackTop_yields h) fun _ hv => .bind (.afterReads (loadDataSeg_yields hv.1 r _)) fun _ hu => .ok hu

theorem popStackSeg_yields (h : Core Q s) : Yields (Core Q) (popStackSeg s) :=
  .bind (stackTop_yields h) fun _ hv => .bind (.afterReads (loadSs_yields hv.1 _)) fun _ hu => .ok hu

theorem pushaAll_yields (h : Core Q s) : Yields (Core Q) (pushaAll s) := .check (pushAll_yields h _)

theorem popaAll_yields (h : Core Q s) : Yields (Core Q) (popaAll s) :=
  have h4 := (((h.stackGet 0).stackGet 2).stackGet 4).stackGet 6
  .check <| .ok (((((h4.stackGet 8).stackGet 10).stackGet 12).stackGet 14).setGpr _)

/-- POPF: in Real Address Mode IOPL and NT stay (R46, R47); in Protected Mode nothing is asked of them. -/
theorem popFlags_yields (h : Core Q s) : Yields (Core Q) (popFlags s) := by
  refine .bind (pop16_yields h) fun p hp => .ok ?_
  split
  · next hpe => exact .of_protected hp.1.1 ((congrArg Msw.pe hp.2.2).trans hpe) hp.1.2.2.2
  · exact hp.setFlags rfl rfl

theorem xlatByte_yields (h : Core Q s) : Yields (Core Q) (xlatByte s) := .bind (segRead8_yields h _ _) fun _ hv => .ok hv

theorem loadFarPointer_yields (h : Core Q s) (r : Reg16) (m : MemOp) (q : SegReg) : Yields (Core Q) (loadFarPointer r m q s) :=
  .bind (loadPointer_yields h m) fun _ hp => .bind (.afterReads (loadDataSeg_yields hp q _)) fun _ hu => .ok hu

theorem inByte_yields (h : Core Q s) (p : Word) : Yields (Core Q) (inByte p s) := .check (.ok (h.portRead8 p))

theorem inWord_yields (h : Core Q s) (p : Word) : Yields (Core Q) (inWord p s) := .check (.ok (h.portRead16 p))

theorem outByte_yields (h : Core Q s) (p : Word) : Yields (Core Q) (outByte p s) := .check (.ok (h.portWrite8 p _))

theorem outWord_yields (h : Core Q s) (p : Word) : Yields (Core Q) (outWord p s) := .check (.ok (h.portWrite16 p _))

/-! ### Control transfer -/

theorem nearTo_yields (h : Core Q s) (target : Word) : Yields (Core Q) (nearTo s target) := .check (.ok h)

theorem jumpIf_nextCore (h : Core Q s) (c : Bool) (disp : Byte) : NextCore Q s (jumpIf c disp s) := by
  unfold jumpIf
  split
  · exact runJump_nextCore h (nearTo_yields h _)
  · exact runInstr_ok_nextCore h h

theorem loopIf_nextCore (h : Core Q s) (c : Bool) (disp : Byte) : NextCore Q s (loopIf c disp s) := by
  unfold loopIf
  split
  · exact runJump_nextCore h (.bind (nearTo_yields h _) fun _ hu => .ok hu)
  · exact runInstr_ok_nextCore h h

theorem nearCall_yields (h : Core Q s) (target : Word) : Yields (Core Q) (nearCall s target) :=
  .check <| .bind (nearTo_yields h target) fun _ hu => push16_yields hu _

theorem nearCallRm_yields (h : Core Q s) (e : Rm16) : Yields (Core Q) (nearCallRm s e) :=
  .check <| .check <| .afterReads (nearCall_yields (h.readFrom.getRm16 e).1 _)

theorem nearRet_yields (h : Core Q s) (release : Word) : Yields (Core Q) (nearRet s release) :=
  .bind (pop16_yields h) fun _ hp => .bind (.afterReads (nearTo_yields hp.1 _)) fun _ hu => .ok hu

theorem nearJumpRm_yields (h : Core Q s) (e : Rm16) :
    Yields (Core Q) (do let t ← loadRm16 s e .read; afterReads t.2 (nearTo t.2 t.1)) :=
  .bind (loadRm16_yields h e _) fun _ hv => .afterReads (nearTo_yields hv.1 _)

/-- What a transfer keeps includes Core. -/
theorem Ends.core {t : State} {r : Except Failure State} (h : Ends (Kept Q t) r) : Ends (Core Q) r :=
  ⟨fun u e => (h.1 u e).2.1, fun f e => (h.2 f e).2.1⟩

/-- Reads that have led to a state with Core, then a transfer. -/
theorem Ends.reads {α : Type} {P : α → Prop} {x : Except Trap α} {g : α → Except Failure State} (h : Core Q s) (hx : Yields P x)
    (hg : ∀ a, P a → Ends (Core Q) (g a)) : Ends (Core Q) (Machine.failIn s x >>= g) := .check h.over fun a e => hg a (hx a e)

theorem farJumpIndirect_core (h : Core Q s) (m : MemOp) : Ends (Core Q) (farJumpIndirect s m) :=
  .reads h (loadPointer_yields h m) fun _ hp => (farJump_kept hp _ _).core

theorem farCallIndirect_core (h : Core Q s) (m : MemOp) : Ends (Core Q) (farCallIndirect s m) :=
  .check h.over fun _ _ => .check h.over fun _ _ => (farCall_kept (h.getPointer m) _ _).core

theorem interruptReturn_core (h : Core Q s) : Ends (Core Q) (interruptReturn s) := by
  obtain ⟨hk, hf⟩ := interruptReturn_kept h
  refine ⟨fun t e => ?_, fun f e => (hf f e).2.1⟩
  obtain ⟨u, hu, rfl⟩ := hk t e
  exact hu.2.1

theorem runInt_nextCore (h : Core Q s) (v : Byte) : NextCore Q s (runInt v s) := by
  unfold runInt
  split
  · exact .ended (h.deliver _ _ _ _) (deliver_pfx _ _ _ _ _)
  · exact raiseAt_nextCore h _

theorem execInto_nextCore (h : Core Q s) : NextCore Q s (execInto s) := by
  unfold execInto
  split
  · exact runInt_nextCore h 4
  · exact runInstr_ok_nextCore h h

/-! ### Flags and processor control -/

theorem clearIf_yields (h : Core Q s) : Yields (Core Q) (clearIf s) := .check (.ok (h.setFlags rfl rfl))

theorem setIf_yields (h : Core Q s) : Yields (Core Q) (setIf s) :=
  .check (.ok (Core.setFlags (f := s.flags.withIf true) h rfl rfl))

theorem copyDisplay_yields (h : Core Q s) (bp : Word) (n : Nat) : Yields (Core Q) (copyDisplay s bp n) := by
  induction n generalizing s bp with
  | zero => exact .ok h
  | succ n ih => exact .bind (segRead16_yields h _ _) fun _ hw => .bind (push16_yields hw _) fun _ hu => ih hu _

theorem pushDisplay_yields (h : Core Q s) (bp fp : Word) (n : Nat) : Yields (Core Q) (pushDisplay s bp fp n) := by
  cases n with
  | zero => exact .ok h
  | succ n => exact .bind (copyDisplay_yields h bp n) fun _ hu => push16_yields hu fp

theorem enterFrame_yields (h : Core Q s) (size : Word) (level : Byte) : Yields (Core Q) (enterFrame size level s) :=
  .check <| .check <| .check <| .bind (push16_yields h _) fun _ ht => .bind (pushDisplay_yields ht _ _ _) fun _ hu => .ok hu

theorem leaveFrame_yields (h : Core Q s) : Yields (Core Q) (leaveFrame s) := .check (.ok (h.segGet16 .ss s.gpr.bp))

theorem boundCheck_yields (h : Core Q s) (r : Reg16) (m : MemOp) : Yields (Core Q) (boundCheck r m s) :=
  .check <| .check <| .ok ((h.segGet16 (s.memSeg m) (s.effOffset m)).segGet16 (s.memSeg m) (s.effOffset m + 2))

theorem haltMachine_yields (h : Core Q s) : Yields (Core Q) (haltMachine s) := .check (.ok h)

theorem afterBusy_nextCore (h : Core Q s) (waits testError : Bool) {r : Except Trap State} (hr : Yields (Core Q) r) :
    NextCore Q s (afterBusy s waits testError r) := by
  unfold afterBusy
  split
  · exact .ended h rfl
  · split
    · exact raiseAt_nextCore h _
    · exact runInstr_nextCore h hr

theorem escSend_yields (h : Core Q s) (op ext : BitVec 3) (e : RM (BitVec 3)) : Yields (Core Q) (escSend op ext e s) := by
  cases e with
  | reg r => exact .ok (h.escape _)
  | mem m => exact .check (.ok (h.escape _))

theorem execWait_nextCore (h : Core Q s) : NextCore Q s (execWait s) := by
  unfold execWait
  split
  · exact raiseAt_nextCore h _
  · exact afterBusy_nextCore h _ _ (.ok h)

theorem execEsc_nextCore (h : Core Q s) (op ext : BitVec 3) (e : RM (BitVec 3)) : NextCore Q s (execEsc op ext e s) := by
  unfold execEsc
  split
  · exact raiseAt_nextCore h _
  · exact afterBusy_nextCore h _ _ (escSend_yields h op ext e)

theorem withPrefix_nextCore (h : Core Q s) (p : Prefixes) : NextCore Q s (s.withPrefix p) := fun _ e => by
  cases e
  exact ⟨h, .inr ⟨rfl, rfl⟩⟩

/-! ### Strings -/

theorem movsOnce_yields (h : Core Q s) (w : Elem) : Yields (Core Q) (movsOnce w s) :=
  .check <| .check <| .ok ((h.readFrom.elemGet w _ _).1.elemPut w .es s.gpr.di _)

theorem Elem.compare_system (w : Elem) (f : Flags) (a b : Word) : (w.compare f a b).iopl = f.iopl ∧ (w.compare f a b).nt = f.nt := by
  cases w <;> exact ⟨rfl, rfl⟩

theorem cmpsOnce_yields (h : Core Q s) (w : Elem) : Yields (Core Q) (cmpsOnce w s) :=
  have hf := w.compare_system s.flags (srcGet w s).1 (dstGet w (srcGet w s).2).1
  .check <| .check <| .ok
    (((h.readFrom.elemGet w (s.overridden .ds) s.gpr.si).elemGet w .es (srcGet w s).2.gpr.di).setFlags hf.1 hf.2)

theorem scasOnce_yields (h : Core Q s) (w : Elem) : Yields (Core Q) (scasOnce w s) :=
  have hf := w.compare_system s.flags (w.acc s) (dstGet w s).1
  .check <| .ok ((h.readFrom.elemGet w .es s.gpr.di).setFlags hf.1 hf.2)

theorem lodsOnce_yields (h : Core Q s) (w : Elem) : Yields (Core Q) (lodsOnce w s) := by
  refine .check <| .ok ?_
  have hv := (h.readFrom.elemGet w (s.overridden .ds) s.gpr.si).1
  cases w <;> exact hv

theorem stosOnce_yields (h : Core Q s) (w : Elem) : Yields (Core Q) (stosOnce w s) := .check <| .ok (h.elemPut w .es s.gpr.di _)

theorem insOnce_yields (h : Core Q s) (w : Elem) : Yields (Core Q) (insOnce w s) :=
  .check <| .check <| .ok ((h.elemPortRead w).elemPut w .es s.gpr.di _)

theorem outsOnce_yields (h : Core Q s) (w : Elem) : Yields (Core Q) (outsOnce w s) :=
  .check <| .check <| .ok ((h.readFrom.elemGet w _ _).1.elemPortWrite w _)

/-- The end of an iteration leaves no prefix: IP is at the next instruction or at the first prefix byte again. -/
theorem Core.endIteration (h : Core Q s) (k : RepKind) (compares locks : Bool) :
    Core Q (s.endIteration k compares locks) ∧ (s.endIteration k compares locks).pfx = {} := by
  unfold State.endIteration
  split
  · exact ⟨h, rfl⟩
  · cases locks <;> exact ⟨h, rfl⟩

/-- One iteration, the bus locked or not, then the rest. -/
theorem Yields.iteration {once : State → Except Trap State} {P : State → Prop} (h : Core Q s)
    (ho : ∀ t, Core Q t → Yields (Core Q) (once t)) (locks : Bool) {g : State → Except Trap State}
    (hg : ∀ u, Core Q u → Yields P (g u)) : Yields P (if locks then locked once s >>= g else once s >>= g) := by
  split
  · exact .bind (locked_yields h ho) hg
  · exact .bind (ho s h) hg

theorem stringOp_yields (h : Core Q s) {once : State → Except Trap State} (ho : ∀ t, Core Q t → Yields (Core Q) (once t))
    (compares locks : Bool) : Yields (fun t => Core Q t ∧ t.pfx = {}) (stringOp compares locks once s) := by
  unfold stringOp
  split
  · exact .iteration h ho locks fun _ hu => .ok ⟨hu, rfl⟩
  · split
    · exact .ok ⟨h, rfl⟩
    · exact .iteration h ho locks fun u hu => .ok (Core.endIteration (s := u.decCx) hu _ _ _)

theorem runString_nextCore (h : Core Q s) {once : State → Except Trap State} (ho : ∀ t, Core Q t → Yields (Core Q) (once t))
    (compares lockable : Bool) : NextCore Q s (runString compares lockable once s) := by
  have hg : Yields (fun t => Core Q t ∧ t.pfx = {}) (do lockGuard s; stringOp compares (lockable && s.pfx.lock) once s) :=
    .check (stringOp_yields h ho _ _)
  unfold runString
  cases hx : (do lockGuard s; stringOp compares (lockable && s.pfx.lock) once s) with
  | ok u => exact .ended (hg u hx).1 (hg u hx).2
  | error x => exact raiseAt_nextCore h x

/-! ### System instructions -/

theorem storeTable_yields (h : Core Q s) (m : MemOp) (r : TableReg) : Yields (Core Q) (storeTable m r s) :=
  .check <| .ok (((h.segPut16 _ _ _).segPut16 _ _ _).segPut16 _ _ _)

theorem loadTable_yields (h : Core Q s) (m : MemOp) : Yields (fun p => Core Q p.2) (loadTable m s) :=
  .check <| .ok (((h.memWord m 0).memWord m 2).memWord m 4)

theorem loadGdtr_yields (h : Core Q s) (m : MemOp) : Yields (Core Q) (loadGdtr m s) :=
  .check <| .bind (loadTable_yields h m) fun _ ht => .ok ht

theorem loadIdtr_yields (h : Core Q s) (m : MemOp) : Yields (Core Q) (loadIdtr m s) :=
  .check <| .bind (loadTable_yields h m) fun _ ht => .ok ht

theorem loadLdtr_yields (h : Core Q s) (e : Rm16) : Yields (Core Q) (loadLdtr e s) := by
  refine .check <| .bind (loadRm16_yields h e _) fun v hv => ?_
  dsimp only
  split
  · exact .ok hv.1
  · exact .afterReads <| .check <| .fetchOr fun _ => .afterReads <| .check <| .check <| .ok hv.1.others

theorem loadTr_yields (h : Core Q s) (e : Rm16) : Yields (Core Q) (loadTr e s) :=
  .check <| .bind (loadRm16_yields h e _) fun v hv => .afterReads <| .check <| .check <| .fetchOr fun _ => .afterReads <|
    .check <| .check <| .ok (hv.1.others.poke8 (v.2.others.gdtEntry v.1) 5 _)

/-- PE is set, and never cleared: where it is clear afterwards nothing of Core has changed. -/
theorem Core.loadMsw (h : Core Q s) (v : Word) : Core Q (s.loadMsw v) := by
  refine ⟨h.1, fun hp => h.2.1 (Bool.or_eq_false_iff.1 hp).1, fun hl => ?_, h.2.2.2⟩
  have hl' : (if !s.msw.pe && v.getLsbD 0 then .justSet else s.lmsw) ≠ LmswStage.clear := hl
  show (s.msw.pe || v.getLsbD 0) = true
  split at hl'
  · next hs => rw [(Bool.and_eq_true_iff.1 hs).2, Bool.or_true]
  · rw [h.2.2.1 hl', Bool.true_or]

theorem finishLmsw_nextCore (h : Core Q s) {r : Except Trap (Word × State)} (hr : Yields (fun p => Core Q p.2) r) :
    NextCore Q s (finishLmsw s r) := by
  cases r with
  | error x => exact raiseAt_nextCore h x
  | ok v =>
    have hv := hr v rfl
    unfold finishLmsw
    dsimp only
    split
    · split
      · exact fun _ e => nomatch e
      · next hq => exact .ended (hv.resetNow fun q => hq (h.2.2.2 q)) rfl
    · exact .ended (hv.loadMsw v.1) rfl

theorem lmswOperand_yields (h : Core Q s) (e : Rm16) :
    Yields (fun p => Core Q p.2) (do lockGuard s; privilegeGuard s; loadRm16 s e .read) :=
  .check <| .check fun p hp => (loadRm16_yields h e _ p hp).1

theorem clearTs_yields (h : Core Q s) : Yields (Core Q) (clearTs s) := .check (.ok h)

theorem adjustRpl_yields (h : Core Q s) (e : Rm16) (r : Reg16) : Yields (Core Q) (adjustRpl e r s) := by
  refine .bind (loadRm16_yields h e _) fun d hd => ?_
  split
  · exact .ok (Core.setZf (hd.1.storeRm16 e _) _)
  · exact .ok (hd.1.setZf _)

theorem Core.touch (h : Core Q s) (d : Desc) : Core Q (s.touch d) := by
  unfold State.touch
  split
  · exact h.setAccessed d
  · exact h

/-- A descriptor looked at: what other agents do first is all that happens. -/
theorem look_state {sel : Word} {d : Desc} {u : State} (h : look s sel = some (d, u)) : u = s.others := by
  unfold look State.readTable at h
  split at h
  · cases h
  · obtain ⟨e, -, he⟩ := Option.map_eq_some_iff.1 h
    cases he
    rfl

theorem Core.selectorTest (h : Core Q s) (sel : Word) (ok : Desc → Bool) {result : State → Desc → State}
    (hr : ∀ u d, Core Q u → Core Q (result u d)) : Core Q (selectorTest s sel ok result) := by
  unfold Machine.selectorTest
  split
  · exact h.setZf _
  · next d u hl =>
    cases look_state hl
    split
    · exact (hr _ d (h.others.touch d)).setZf _
    · exact h.others.setZf _

theorem loadAccess_yields (h : Core Q s) (r : Reg16) (e : Rm16) : Yields (Core Q) (loadAccess r e s) :=
  .bind (loadRm16_yields h e _) fun _ hv => .ok (hv.1.selectorTest _ _ fun _ _ hu => hu)

theorem loadLimit_yields (h : Core Q s) (r : Reg16) (e : Rm16) : Yields (Core Q) (loadLimit r e s) :=
  .bind (loadRm16_yields h e _) fun _ hv => .ok (hv.1.selectorTest _ _ fun _ _ hu => hu)

theorem verifyRead_yields (h : Core Q s) (e : Rm16) : Yields (Core Q) (verifyRead e s) :=
  .bind (loadRm16_yields h e _) fun _ hv => .ok (hv.1.selectorTest _ _ fun _ _ hu => hu)

theorem verifyWrite_yields (h : Core Q s) (e : Rm16) : Yields (Core Q) (verifyWrite e s) :=
  .bind (loadRm16_yields h e _) fun _ hv => .ok (hv.1.selectorTest _ _ fun _ _ hu => hu)

/-! ### Every instruction -/

/-- An instruction that has a memory form only: its register form is an undefined opcode. -/
theorem memoryOnly_nextCore (h : Core Q s) {R : Type} (f : RM R → Host.Outcome State Fault Refusal) (e : RM R)
    (hr : ∀ r, f (.reg r) = undefinedOpcode s) (hm : ∀ m, NextCore Q s (f (.mem m))) : NextCore Q s (f e) := by
  cases e with
  | reg r => exact (hr r).symm ▸ undefinedOpcode_nextCore h
  | mem m => exact hm m

/-- Every instruction keeps Core: one case for each meaning that instructions share. -/
theorem exec_nextCore (i : Instr) (h : Core Q s) : NextCore Q s (exec i s) := by
  cases i with
  | addEbRb | addAlDb | orEbRb | orAlDb | adcEbRb | adcAlDb | sbbEbRb | sbbAlDb | andEbRb | andAlDb | subEbRb | subAlDb
    | xorEbRb | xorAlDb | cmpEbRb | cmpAlDb | addEbDb | orEbDb | adcEbDb | sbbEbDb | andEbDb | subEbDb | xorEbDb | cmpEbDb =>
    exact runInstr_nextCore h (aluRm8_yields h _ _ _)
  | addEwRw | addAxDw | orEwRw | orAxDw | adcEwRw | adcAxDw | sbbEwRw | sbbAxDw | andEwRw | andAxDw | subEwRw | subAxDw
    | xorEwRw | xorAxDw | cmpEwRw | cmpAxDw | addEwDw | orEwDw | adcEwDw | sbbEwDw | andEwDw | subEwDw | xorEwDw | cmpEwDw
    | addEwDb | adcEwDb | sbbEwDb | subEwDb | cmpEwDb => exact runInstr_nextCore h (aluRm16_yields h _ _ _)
  | addRbEb | orRbEb | adcRbEb | sbbRbEb | andRbEb | subRbEb | xorRbEb | cmpRbEb =>
    exact runInstr_nextCore h (aluReg8_yields h _ _ _)
  | addRwEw | orRwEw | adcRwEw | sbbRwEw | andRwEw | subRwEw | xorRwEw | cmpRwEw =>
    exact runInstr_nextCore h (aluReg16_yields h _ _ _)
  | incRw | decRw | notEw | negEw | incEw | decEw => exact runInstr_nextCore h (unaryRm16_yields h _ _)
  | mulEb => exact runInstr_nextCore h (mulRm8_yields h _)
  | mulEw => exact runInstr_nextCore h (mulRm16_yields h _)
  | imulEb => exact runInstr_nextCore h (imulRm8_yields h _)
  | imulEw => exact runInstr_nextCore h (imulRm16_yields h _)
  | divEb => exact runInstr_nextCore h (divRm8_yields h _)
  | divEw => exact runInstr_nextCore h (divRm16_yields h _)
  | idivEb => exact runInstr_nextCore h (idivRm8_yields h _)
  | idivEw => exact runInstr_nextCore h (idivRm16_yields h _)
  | imulRwEwDw | imulRwEwDb => exact runInstr_nextCore h (imulImm_yields h _ _ _)
  | movEbRb | movXbAl | movEbDb => exact runInstr_nextCore h (movToRm8_yields h _ _)
  | movEwRw | movEwEs | movEwCs | movEwSs | movEwDs | movXwAx | movEwDw | smsw =>
    exact runInstr_nextCore h (movToRm16_yields h _ _)
  | movRbEb | movAlXb => exact runInstr_nextCore h (movToReg8_yields h _ _)
  | movRwEw | movAxXw => exact runInstr_nextCore h (movToReg16_yields h _ _)
  | movRbDb | movRwDw | nop | cbw | cwd | lahf => exact runInstr_ok_nextCore h h
  | daa | das => exact runInstr_ok_nextCore h (h.decimalAdjust _)
  | aaa | aas => exact runInstr_ok_nextCore h (h.asciiAdjust _)
  | aam | aad => exact runInstr_ok_nextCore h (h.asciiScale _ _)
  | sahf | cmc | clc | stc | cld | std => exact runInstr_ok_nextCore h (h.setFlags rfl rfl)
  | movEsEw | movDsEw => exact runInstr_nextCore h (movToSeg_yields h _ _)
  | movSsEw => exact runInstr_nextCore h (movToSs_yields h _)
  | xchgEbRb => exact runInstr_nextCore h (xchgRm8_yields h _ _)
  | xchgEwRw | xchgAxRw => exact runInstr_nextCore h (xchgRm16_yields h _ _)
  | pushRw | pushDw | pushDb | pushEs | pushCs | pushSs | pushDs | pushf => exact runInstr_nextCore h (push16_yields h _)
  | pushMw => exact runInstr_nextCore h (pushRm_yields h _)
  | popRw => exact runInstr_nextCore h (popReg_yields h _)
  | popMw => exact runInstr_nextCore h (popRm_yields h _)
  | popEs | popDs => exact runInstr_nextCore h (popSeg_yields h _)
  | popSs => exact runInstr_nextCore h (popStackSeg_yields h)
  | pusha => exact runInstr_nextCore h (pushaAll_yields h)
  | popa => exact runInstr_nextCore h (popaAll_yields h)
  | popf => exact runInstr_nextCore h (popFlags_yields h)
  | xlat => exact runInstr_nextCore h (xlatByte_yields h)
  | lea r e => exact memoryOnly_nextCore h (execLea r · s) e (fun _ => rfl) (fun _ => runInstr_ok_nextCore h h)
  | lds r e => exact memoryOnly_nextCore h (execLds r · s) e (fun _ => rfl) (fun _ => runInstr_nextCore h (loadFarPointer_yields h _ _ _))
  | les r e => exact memoryOnly_nextCore h (execLes r · s) e (fun _ => rfl) (fun _ => runInstr_nextCore h (loadFarPointer_yields h _ _ _))
  | inAlDb | inAlDx => exact runInstr_nextCore h (inByte_yields h _)
  | inAxDb | inAxDx => exact runInstr_nextCore h (inWord_yields h _)
  | outDbAl | outDxAl => exact runInstr_nextCore h (outByte_yields h _)
  | outDbAx | outDxAx => exact runInstr_nextCore h (outWord_yields h _)
  | jmpCw | jmpCb => exact runJump_nextCore h (nearTo_yields h _)
  | jmpEw => exact runJump_nextCore h (nearJumpRm_yields h _)
  | jmpCd => exact runFar_nextCore h (farJump_kept h _ _).core
  | jmpEd e => exact memoryOnly_nextCore h (execJmpEd · s) e (fun _ => rfl) (fun m => runFar_nextCore h (farJumpIndirect_core h m))
  | callCw => exact runJump_nextCore h (nearCall_yields h _)
  | callEw => exact runJump_nextCore h (nearCallRm_yields h _)
  | callCd => exact runFar_nextCore h (farCall_kept h _ _).core
  | callEd e => exact memoryOnly_nextCore h (execCallEd · s) e (fun _ => rfl) (fun m => runFar_nextCore h (farCallIndirect_core h m))
  | retDw | ret => exact runJump_nextCore h (nearRet_yields h _)
  | retfDw | retf => exact runFar_nextCore h (farReturn_kept h _).core
  | jo | jno | jb | jae | je | jne | jbe | ja | js | jns | jp | jnp | jl | jge | jle | jg | jcxz => exact jumpIf_nextCore h _ _
  | loopne | loope | loop => exact loopIf_nextCore h _ _
  | intDb | int3 => exact runInt_nextCore h _
  | into => exact execInto_nextCore h
  | iret => exact runFar_nextCore h (interruptReturn_core h)
  | cli => exact runInstr_nextCore h (clearIf_yields h)
  | sti => exact runInstr_nextCore h (setIf_yields h)
  | enter => exact runInstr_nextCore h (enterFrame_yields h _ _)
  | leave => exact runInstr_nextCore h (leaveFrame_yields h)
  | bound r e => exact memoryOnly_nextCore h (execBound r · s) e (fun _ => rfl) (fun _ => runInstr_nextCore h (boundCheck_yields h _ _))
  | hlt => exact runInstr_nextCore h (haltMachine_yields h)
  | wait => exact execWait_nextCore h
  | esc => exact execEsc_nextCore h _ _ _
  | segEs | segCs | segSs | segDs | lock | repne | rep => exact withPrefix_nextCore h _
  | notEb | negEb | incEb | decEb => exact runInstr_nextCore h (unaryRm8_yields h _ _)
  | testEbRb | testAlDb | testEbDb => exact runInstr_nextCore h (testRm8_yields h _ _)
  | testEwRw | testAxDw | testEwDw => exact runInstr_nextCore h (testRm16_yields h _ _)
  | rolEbDb | rorEbDb | rclEbDb | rcrEbDb | shlEbDb | shrEbDb | sarEbDb | rolEb1 | rorEb1 | rclEb1 | rcrEb1 | shlEb1 | shrEb1
    | sarEb1 | rolEbCl | rorEbCl | rclEbCl | rcrEbCl | shlEbCl | shrEbCl | sarEbCl =>
    exact runInstr_nextCore h (shiftRm8_yields h _ _ _)
  | rolEwDb | rorEwDb | rclEwDb | rcrEwDb | shlEwDb | shrEwDb | sarEwDb | rolEw1 | rorEw1 | rclEw1 | rcrEw1 | shlEw1 | shrEw1
    | sarEw1 | rolEwCl | rorEwCl | rclEwCl | rcrEwCl | shlEwCl | shrEwCl | sarEwCl =>
    exact runInstr_nextCore h (shiftRm16_yields h _ _ _)
  | movsb | movsw => exact runString_nextCore h (fun _ ht => movsOnce_yields ht _) _ _
  | cmpsb | cmpsw => exact runString_nextCore h (fun _ ht => cmpsOnce_yields ht _) _ _
  | scasb | scasw => exact runString_nextCore h (fun _ ht => scasOnce_yields ht _) _ _
  | lodsb | lodsw => exact runString_nextCore h (fun _ ht => lodsOnce_yields ht _) _ _
  | stosb | stosw => exact runString_nextCore h (fun _ ht => stosOnce_yields ht _) _ _
  | insb | insw => exact runString_nextCore h (fun _ ht => insOnce_yields ht _) _ _
  | outsb | outsw => exact runString_nextCore h (fun _ ht => outsOnce_yields ht _) _ _
  | sgdt e => exact memoryOnly_nextCore h (execSgdt · s) e (fun _ => rfl) (fun _ => runInstr_nextCore h (storeTable_yields h _ _))
  | sidt e => exact memoryOnly_nextCore h (execSidt · s) e (fun _ => rfl) (fun _ => runInstr_nextCore h (storeTable_yields h _ _))
  | lgdt e => exact memoryOnly_nextCore h (execLgdt · s) e (fun _ => rfl) (fun _ => runInstr_nextCore h (loadGdtr_yields h _))
  | lidt e => exact memoryOnly_nextCore h (execLidt · s) e (fun _ => rfl) (fun _ => runInstr_nextCore h (loadIdtr_yields h _))
  | sldt | str => exact runProtected_nextCore h (movToRm16_yields h _ _)
  | lldt => exact runProtected_nextCore h (loadLdtr_yields h _)
  | ltr => exact runProtected_nextCore h (loadTr_yields h _)
  | lmsw => exact finishLmsw_nextCore h (lmswOperand_yields h _)
  | clts => exact runInstr_nextCore h (clearTs_yields h)
  | arpl => exact runProtected_nextCore h (adjustRpl_yields h _ _)
  | lar => exact runProtected_nextCore h (loadAccess_yields h _ _)
  | lsl => exact runProtected_nextCore h (loadLimit_yields h _ _)
  | verr => exact runProtected_nextCore h (verifyRead_yields h _)
  | verw => exact runProtected_nextCore h (verifyWrite_yields h _)
  | undefD4 | undef0F | undef83x1 | undef83x4 | undef83x6 | undef64 | undef65 | undef66 | undef67 | undef82 | undef8Cx4to7
    | undef8Ex1 | undef8Ex4to7 | undef8Fx1 | undef8Fx2 | undef8Fx3 | undef8Fx4 | undef8Fx5 | undef8Fx6 | undef8Fx7 | undefC0x6
    | undefC1x6 | undefC6x1 | undefC6x2 | undefC6x3 | undefC6x4 | undefC6x5 | undefC6x6 | undefC6x7 | undefC7x1 | undefC7x2
    | undefC7x3 | undefC7x4 | undefC7x5 | undefC7x6 | undefC7x7 | undefD0x6 | undefD1x6 | undefD2x6 | undefD3x6 | undefD6
    | undefF1 | undefF6x1 | undefF7x1 | undefFEx2 | undefFEx3 | undefFEx4 | undefFEx5 | undefFEx6 | undefFEx7 | undefFFx7
    | undef0F00x6to7 | undef0F01x5 | undef0F01x7 => exact undefinedOpcode_nextCore h

end Sys2Proof.Machine
end

section
/-! PROOF of O3, concluded: the boundary and the step keep the invariant. -/

namespace Sys2Proof.Machine

variable {Q : Prop} {s : State}

/-! ### The invariant as Core and what it says of prefixes -/

/-- At most ten bytes of one instruction have been read, and prefixes are in force only while one is being read. -/
def PrefixBound (s : State) : Prop := s.pfx.count ≤ 10 ∧ (s.pfx.count = 0 ∨ s.run ≠ .running → s.pfx = {})

/-- What a step keeps, whether a RESET may fall into it (`Q` false) or not. -/
def Sound (Q : Prop) (s : State) : Prop := Core Q s ∧ PrefixBound s

/-- Between instructions. -/
def Idle (Q : Prop) (s : State) : Prop := Core Q s ∧ s.pfx = {}

theorem Invariant.sound (h : Invariant s) : Sound True s := ⟨h.core, h.prefixes, h.noPrefix⟩

theorem Sound.invariant (h : Sound True s) : Invariant s where
  memory := h.1.1
  realFlags hp := ⟨(h.1.2.1 hp).1, (h.1.2.1 hp).2.1⟩
  realSegments hp := h.1.realSegments hp
  prefixes := h.2.1
  noPrefix := h.2.2
  hazard := h.1.2.2.1
  unreset := h.1.2.2.2 trivial

theorem Idle.sound (h : Idle Q s) : Sound Q s := ⟨h.1, by rw [h.2]; exact Nat.zero_le _, fun _ => h.2⟩

/-- Before the boundary of a step that has ended its instruction no prefix is in force. -/
theorem Sound.idle (h : Sound Q s) (hp : s.pfx.count = 0 ∨ s.run ≠ .running) : Idle Q s := ⟨h.1, h.2.2 hp⟩

/-! ### The instruction -/

theorem Core.beginInstr (h : Core Q s) : Core Q s.beginInstr := by
  refine ⟨h.1, h.2.1, fun hl => h.2.2.1 fun hc => hl ?_, fun q => ?_⟩
  · simp [State.beginInstr, hc]
  · have hu := h.2.2.2 q
    unfold Unreset State.beginInstr
    dsimp only
    split <;> exact hu

/-- An instruction that has been decoded stands within ten bytes, its prefixes included. -/
theorem count_lt_of_decode {i : Instr} {rest : List Byte} (hd : decode s.fetched = .ok (i, rest)) : s.pfx.count < 10 := by
  by_contra hc
  have hn : min 6 (10 - s.pfx.count) = 0 := by omega
  rw [State.fetched, hn] at hd
  exact nomatch hd

theorem executeNext_sound (h : Core Q s) (hr : s.run = .running) {t : State} (e : executeNext s = .next t) : Sound Q t := by
  unfold executeNext at e
  split at e
  · next i rest hd =>
    obtain ⟨hc, hp | ⟨hp, hrun⟩⟩ := exec_nextCore (s := s.withNext _) i h t e
    · exact Idle.sound ⟨hc, hp⟩
    · have hlt := count_lt_of_decode hd
      have hp' : t.pfx.count = s.pfx.count + 1 := hp
      refine ⟨hc, by omega, ?_⟩
      rintro (h0 | hn)
      · omega
      · exact absurd (hrun.trans hr) hn
  · obtain ⟨hc, hp⟩ := raiseAt_nextCore (s := s.withNext _) h _ t e
    refine Idle.sound ⟨hc, ?_⟩
    cases e
    exact deliver_pfx _ _ _ _ _

/-! ### The boundary -/

theorem Idle.deliver (h : Core Q s) (v : Byte) (ip : Word) (kind : EventKind) (code : Word) : Idle Q (deliver s v ip kind code) :=
  ⟨h.deliver v ip kind code, deliver_pfx _ _ _ _ _⟩

theorem Idle.singleStep (h : Idle Q s) : Idle Q (singleStep s) := by
  unfold Machine.singleStep
  split
  · exact .deliver h.1 _ _ _ _
  · exact h

theorem Idle.takeNmi (h : Idle Q s) : Idle Q (takeNmi s) := by
  unfold Machine.takeNmi
  split
  · exact .deliver (s := { s with nmiPending := false, nmiMasked := true }) h.1 _ _ _ _
  · exact h

theorem Idle.takeInt9 (h : Idle Q s) : Idle Q (takeInt9 s) := by
  unfold Machine.takeInt9
  split
  · exact .deliver (s := { s with int9Pending := false }) h.1 _ _ _ _
  · exact h

theorem Idle.takeIntr (h : Idle Q s) : Idle Q (takeIntr s) := by
  unfold Machine.takeIntr
  split
  · exact h
  · split
    · exact .deliver (s := { s with pins := { s.pins with intr := none } }) h.1 _ _ _ _
    · exact h

theorem Idle.takeExternal (h : Idle Q s) : Idle Q (takeExternal s) := h.takeNmi.takeInt9.takeIntr

theorem Idle.boundaryEvents (h : Idle Q s) : Idle Q (boundaryEvents s) := by
  unfold Machine.boundaryEvents
  split
  · exact h
  · exact h.singleStep.takeExternal

theorem Idle.endLock (h : Idle Q s) : Idle Q s.endLock := by
  unfold State.endLock
  split
  · exact h
  · exact ⟨h.1.release, s.release_onBus.pfx.trans h.2⟩

theorem Core.missJump (h : Core Q s) : Core Q s.missJump := ⟨h.1, h.2.1, fun hl => absurd rfl hl, h.2.2.2⟩

theorem Idle.flagHazard (h : Idle Q s) : Idle Q s.flagHazard := by
  unfold State.flagHazard
  split
  · exact ⟨h.1.missJump, h.2⟩
  · exact h

theorem Sound.endInstr (h : Sound Q s) (before : Memory) : Sound Q (endInstr before s) := by
  unfold Machine.endInstr
  split
  · next hp =>
    have hi : Idle Q (s.noteStores before) := h.idle (.inl hp)
    exact (show Idle Q { Machine.boundaryEvents (s.noteStores before).endLock.flagHazard with stiShadow := false } from
      hi.endLock.flagHazard.boundaryEvents).sound
  · exact h

/-! ### The step -/

theorem Idle.leaveShutdown (h : Idle Q s) : Idle Q (leaveShutdown s) := by
  unfold Machine.leaveShutdown
  split
  · have ha := attempt_kept (s := { s with nmiPending := false, nmiMasked := true }) h.1 2 s.ip .external 0 true
    split
    · next t hx => exact ⟨Core.missJump (s := t) (ha.1 t hx).2.1, rfl⟩
    · next f hx => exact ⟨Core.missJump (s := f.st) (ha.2 f hx).2.1, rfl⟩
  · exact h

theorem runStep_sound (h : Sound Q s) {t : State} (e : runStep s = .next t) : Sound Q t := by
  unfold runStep at e
  split at e
  · next hr =>
    cases hx : executeNext s.beginInstr with
    | next u =>
      rw [hx] at e
      cases e
      exact (executeNext_sound h.1.beginInstr hr hx).endInstr _
    | fault f => rw [hx] at e; exact nomatch e
    | refused f => rw [hx] at e; exact nomatch e
  · next hr =>
    cases e
    exact (h.idle (.inr (by simp [hr]))).takeExternal.sound
  · next hr =>
    cases e
    exact (h.idle (.inr (by simp [hr]))).leaveShutdown.sound

theorem PrefixBound.onBus {t : State} (h : PrefixBound s) (e : OnBus s t) : PrefixBound t := by
  unfold PrefixBound
  rw [e.pfx, e.run]
  exact h

theorem Sound.accept (h : Sound Q s) (g : Signals) (rest : List Signals) : Sound Q (s.accept g rest) :=
  ⟨h.1.hear g.acts, PrefixBound.onBus (t := s.hear g.acts) h.2 (s.hear_onBus g.acts)⟩

/-- A RESET leaves registers in which the invariant holds, over whatever canonical memory stands. -/
theorem invariant_endReset (h : s.mem.wf = true) : Invariant s.endReset where
  memory := State.release_wf h
  realFlags _ := ⟨rfl, rfl⟩
  realSegments _ r := by
    cases r with
    | cs => exact ⟨rfl, rfl, .inr ⟨rfl, rfl⟩⟩
    | es => exact ⟨rfl, rfl, .inl rfl⟩
    | ss => exact ⟨rfl, rfl, .inl rfl⟩
    | ds => exact ⟨rfl, rfl, .inl rfl⟩
  prefixes := Nat.zero_le _
  noPrefix _ := rfl
  hazard hl := absurd rfl hl
  unreset := rfl

/-- A RESET falls into the step: until it comes nothing is asked of what is to come. -/
theorem Sound.awaitReset (h : Sound Q s) (n : Nat) : Sound False (s.awaitReset n) := ⟨⟨h.1.1, h.1.2.1, h.1.2.2.1, False.elim⟩, h.2⟩

theorem resetStep_invariant (h : Sound Q s) (n : Nat) {t : State} (e : resetStep s n = .next t) : Invariant t := by
  cases n with
  | zero => cases e; exact invariant_endReset h.1.1
  | succ n =>
    have hs : ∀ u, runStep (s.awaitReset (n + 1)) = .next u → Sound False u := fun u => runStep_sound (h.awaitReset (n + 1))
    unfold resetStep at e
    dsimp only at e
    generalize runStep (s.awaitReset (n + 1)) = o at hs e
    cases o with
    | next u => cases e; exact invariant_endReset (hs u rfl).1.1
    | fault f => exact nomatch e
    | refused r => exact nomatch e

/-- Settles O3: the inputs, the instruction or the RESET, and the boundary each keep what the invariant says. -/
theorem stepKeepsInv : Obligations.StepKeepsInv := by
  intro s t h e
  unfold step stepMachine at e
  split at e
  · exact (runStep_sound h.sound e).invariant
  · next g rest _ =>
    have ha := h.sound.accept g rest
    split at e
    · exact (runStep_sound ha e).invariant
    · exact resetStep_invariant ha _ e

end Sys2Proof.Machine
end

section
/-! PROOF of O13: a memory operand that fails its checks traps before anything is changed.  Every instruction begins with the checks of
its operand (after those of its privilege, and of the stack for POP), so the exception of the check is the instruction's own.  Before all
of them comes the check of a LOCK prefix. -/

namespace Sys2Proof.Machine

section
variable {s : State} {m : MemOp} {k : Access} {α β : Type} {x : Trap}

/-! ### Checks that fail -/

theorem bind_error {ε : Type} {e : ε} {r : Except ε α} (h : r = .error e) (g : α → Except ε β) : (r >>= g) = .error e := by
  rw [h]
  rfl

/-- A reference that fails its checks takes the exception R110 to R115 and R118 give it. -/
theorem segCheck_of_not_accessible {r : SegReg} {off : Word} {n : Nat} (h : ¬ Accessible s r off n k) :
    segCheck s r off n k = .error (refTrap s r k) := by
  have seg : ∀ hp : s.msw.pe = true, ((s.seg r).ar = 0 ∨ accessAllowed (s.seg r).ar k = true) → segTrap r = refTrap s r k := by
    intro hp ht
    unfold refTrap
    cases r with
    | ss => exact (if_pos ⟨hp, rfl, ht⟩).symm
    | es | cs | ds => exact (if_neg (by simp)).symm
  have gp : ¬ (s.msw.pe = true ∧ r = .ss ∧ ((s.seg r).ar = 0 ∨ accessAllowed (s.seg r).ar k = true)) →
      trapGp0 = refTrap s r k := fun hn => (if_neg hn).symm
  unfold segCheck
  split
  · next hp =>
    split
    · next h0 => exact congrArg _ (seg hp (.inl h0))
    · next h0 =>
      split
      · next ht =>
        have ht' : accessAllowed (s.seg r).ar k ≠ true := by simpa using ht
        exact congrArg _ (gp fun e => e.2.2.elim h0 ht')
      · next ht =>
        have ht' : accessAllowed (s.seg r).ar k = true := by simpa using ht
        split
        · exact congrArg _ (seg hp (.inr ht'))
        · next hw => exact absurd (show Accessible s r off n k by unfold Accessible; rw [if_pos hp]; exact ⟨h0, ht', by simpa using hw⟩) h
  · next hp =>
    split
    · next hw => exact absurd (show Accessible s r off n k by unfold Accessible; rw [if_neg hp]; exact hw) h
    · exact congrArg _ (gp fun e => hp e.1)

theorem refTrap_bus (s : State) (r : SegReg) (k : Access) : (refTrap s r k).bus = none := by
  unfold refTrap
  split <;> rfl

/-- The two words of a pointer: the exception is the same whichever of them fails. -/
theorem checkPointer_of_not_open (h : ¬ PointerOpen s m) : checkPointer s m = .error (refTrap s (s.memSeg m) .read) := by
  have e : s.effOffset m + 0 = s.effOffset m := BitVec.add_zero _
  unfold checkPointer checkMemWord
  rw [e]
  by_cases h0 : Accessible s (s.memSeg m) (s.effOffset m) 2 .read
  · rw [segCheck_of_accessible h0]
    exact segCheck_of_not_accessible fun h2 => h ⟨h0, h2⟩
  · exact bind_error (segCheck_of_not_accessible h0) _

/-- The three words of a table register: the exception is the same whichever of them fails. -/
theorem checkTable_of_not_open (h : ¬ (Accessible s (s.memSeg m) (s.effOffset m) 2 k ∧
    Accessible s (s.memSeg m) (s.effOffset m + 2) 2 k ∧ Accessible s (s.memSeg m) (s.effOffset m + 4) 2 k)) :
    checkTable s m k = .error (refTrap s (s.memSeg m) k) := by
  have e : s.effOffset m + 0 = s.effOffset m := BitVec.add_zero _
  unfold checkTable checkMemWord
  rw [e]
  by_cases h0 : Accessible s (s.memSeg m) (s.effOffset m) 2 k
  · rw [segCheck_of_accessible h0]
    by_cases h2 : Accessible s (s.memSeg m) (s.effOffset m + 2) 2 k
    · rw [segCheck_of_accessible h2]
      exact segCheck_of_not_accessible fun h4 => h ⟨h0, h2, h4⟩
    · exact bind_error (segCheck_of_not_accessible h2) _
  · exact bind_error (segCheck_of_not_accessible h0) _

theorem loadRm8_of_not_accessible (h : ¬ Accessible s (s.memSeg m) (s.effOffset m) 1 k) :
    loadRm8 s (.mem m) k = .error (refTrap s (s.memSeg m) k) := bind_error (segCheck_of_not_accessible h) _

theorem loadRm16_of_not_accessible (h : ¬ Accessible s (s.memSeg m) (s.effOffset m) 2 k) :
    loadRm16 s (.mem m) k = .error (refTrap s (s.memSeg m) k) := bind_error (segCheck_of_not_accessible h) _

/-! ### Instructions whose first act fails -/

theorem runInstr_fault (hl : LockAllowed s) {r : Except Trap α} (h : r = .error x) (g : α → Except Trap State) :
    runInstr s (r >>= g) = .next (raiseAt s x) := runInstr_of_error hl (bind_error h g)

theorem runJump_fault (hl : LockAllowed s) {r : Except Trap α} (h : r = .error x) (g : α → Except Trap State) :
    runJump s (r >>= g) = .next (raiseAt s x) := runJump_of_error hl (bind_error h g)

theorem runFar_fault (hl : LockAllowed s) {r : Except Trap α} (h : r = .error x) (g : α → Except Failure State) :
    runFar s (failIn s r >>= g) = .next (raiseAt s x) := by
  rw [h]
  simp only [runFar, lockGuard_of_allowed hl]
  rfl

/-- A privileged instruction at CPL 0. -/
theorem runInstr_privileged_fault (hl : LockAllowed s) (hp : Privileged s) {r : Except Trap α} (h : r = .error x)
    (g : α → Except Trap State) : runInstr s (do privilegeGuard s; let a ← r; g a) = .next (raiseAt s x) :=
  runInstr_of_error hl (by rw [privilegeGuard_of_privileged hp]; exact bind_error h g)

theorem runProtected_of_pe (hp : s.msw.pe = true) (r : Except Trap State) : runProtected s r = runInstr s r := if_pos hp

/-- An exception that carries no bus is not changed by the lock of the operation that raises it. -/
theorem locked_of_error {op : State → Except Trap State} (h : op (s.withLock .active) = .error x) (hx : x.bus = none) :
    locked op s = .error x := by
  simp only [locked, h]
  rw [hx, Option.map_none, ← hx]

/-! ### What instruction a form is -/

/-- The machine's meaning of a two-operand operation on bytes. -/
def aluForm8 (op : AluOp) (s : State) : Form8 → Host.Outcome State Fault Refusal
  | .toRm e r => aluEbRb op e r s
  | .toReg r e => aluRbEb op r e s
  | .acc v => aluAlDb op v s
  | .imm e v => aluEbDb op e v s

/-- The machine's meaning of a two-operand operation on words. -/
def aluForm16 (op : AluOp) (s : State) : ArithForm16 → Host.Outcome State Fault Refusal
  | .plain (.toRm e r) => aluEwRw op e r s
  | .plain (.toReg r e) => aluRwEw op r e s
  | .plain (.acc v) => aluAxDw op v s
  | .plain (.imm e v) => aluEwDw op e v s
  | .sext e v => aluEwDb op e v s

theorem ArithOp.exec_instr8 (op : ArithOp) (f : Form8) (s : State) : exec (op.instr8 f) s = aluForm8 op.alu s f := by
  cases f <;> cases op <;> rfl

theorem ArithOp.exec_instr16 (op : ArithOp) (f : ArithForm16) (s : State) : exec (op.instr16 f) s = aluForm16 op.alu s f := by
  rcases f with f | ⟨e, v⟩
  · cases f <;> cases op <;> rfl
  · cases op <;> rfl

/-- The machine's operation for each of the three logical ones. -/
def LogicOp.alu : LogicOp → AluOp
  | .and => .and
  | .or => .or
  | .xor => .xor

theorem LogicOp.alu_access (op : LogicOp) : op.alu.access = .write := by cases op <;> rfl

theorem LogicOp.exec_instr8 (op : LogicOp) (f : Form8) (s : State) : exec (op.instr8 f) s = aluForm8 op.alu s f := by
  cases f <;> cases op <;> rfl

theorem LogicOp.exec_instr16 (op : LogicOp) (f : Form16) (s : State) : exec (op.instr16 f) s = aluForm16 op.alu s (.plain f) := by
  cases f <;> cases op <;> rfl

theorem aluForm8_fault {op : AluOp} {f : Form8} (hl : LockAllowed s) (hf : f.memory op.access = some (m, k))
    (ha : ¬ Accessible s (s.memSeg m) (s.effOffset m) 1 k) : aluForm8 op s f = .next (raiseAt s (refTrap s (s.memSeg m) k)) := by
  cases f with
  | toRm e r | imm e v | toReg r e =>
    simp only [Form8.memory, Option.map_eq_some_iff, memoryOf_eq_some, Prod.mk.injEq] at hf
    obtain ⟨_, rfl, rfl, rfl⟩ := hf
    exact runInstr_fault hl (loadRm8_of_not_accessible ha) _
  | acc v => exact nomatch hf

theorem aluForm16_fault {op : AluOp} {f : ArithForm16} (hl : LockAllowed s) (hf : f.memory op.access = some (m, k))
    (ha : ¬ Accessible s (s.memSeg m) (s.effOffset m) 2 k) : aluForm16 op s f = .next (raiseAt s (refTrap s (s.memSeg m) k)) := by
  rcases f with (⟨e, r⟩ | ⟨r, e⟩ | v | ⟨e, v⟩) | ⟨e, v⟩
  case plain.acc => exact nomatch hf
  all_goals
    simp only [ArithForm16.memory, Form16.memory, Option.map_eq_some_iff, memoryOf_eq_some, Prod.mk.injEq] at hf
    obtain ⟨_, rfl, rfl, rfl⟩ := hf
    exact runInstr_fault hl (loadRm16_of_not_accessible ha) _

theorem ShiftOp.exec_instr8 (op : ShiftOp) (f : CountForm) (e : Rm8) (s : State) :
    exec (op.instr8 e f) s = runInstr s (shiftRm8 op e (f.raw s) s) := by
  cases f <;> cases op <;> rfl

theorem ShiftOp.exec_instr16 (op : ShiftOp) (f : CountForm) (e : Rm16) (s : State) :
    exec (op.instr16 e f) s = runInstr s (shiftRm16 op e (f.raw s) s) := by
  cases f <;> cases op <;> rfl

theorem UnaryOp.exec_instr8 (op : UnaryOp) (e : Rm8) (s : State) : exec (op.instr8 e) s = runInstr s (unaryRm8 op e s) := by
  cases op <;> rfl

theorem UnaryForm16.exec_instr (f : UnaryForm16) (s : State) : exec f.instr s = runInstr s (unaryRm16 f.op f.dest s) := by
  cases f with
  | rm op e => cases op <;> rfl
  | incRw r | decRw r => rfl

theorem TestForm8.exec_instr (f : TestForm8) (s : State) : exec f.instr s = runInstr s (testRm8 f.dest (f.source s) s) := by
  cases f <;> rfl

theorem TestForm16.exec_instr (f : TestForm16) (s : State) : exec f.instr s = runInstr s (testRm16 f.dest (f.source s) s) := by
  cases f <;> rfl

/-! ### The forms of the statement -/

theorem TestForm8.fault {f : TestForm8} (hl : LockAllowed s) (hd : f.dest = .mem m)
    (ha : ¬ Accessible s (s.memSeg m) (s.effOffset m) 1 .read) :
    exec f.instr s = .next (raiseAt s (refTrap s (s.memSeg m) .read)) := by
  rw [f.exec_instr, hd]
  exact runInstr_fault hl (loadRm8_of_not_accessible ha) _

theorem TestForm16.fault {f : TestForm16} (hl : LockAllowed s) (hd : f.dest = .mem m)
    (ha : ¬ Accessible s (s.memSeg m) (s.effOffset m) 2 .read) :
    exec f.instr s = .next (raiseAt s (refTrap s (s.memSeg m) .read)) := by
  rw [f.exec_instr, hd]
  exact runInstr_fault hl (loadRm16_of_not_accessible ha) _

theorem MoveForm8.fault {f : MoveForm8} (hl : LockAllowed s) (hf : f.memory = some (m, k))
    (ha : ¬ Accessible s (s.memSeg m) (s.effOffset m) 1 k) : exec f.instr s = .next (raiseAt s (refTrap s (s.memSeg m) k)) := by
  cases k with
  | read =>
    obtain ⟨r, hr⟩ : ∃ r, f.dest = .reg r := by
      cases f with
      | toReg r e => exact ⟨r, rfl⟩
      | accLoad off => exact ⟨.al, rfl⟩
      | _ => simp [MoveForm8.memory] at hf
    rw [MoveForm8.exec_load hf hr]
    exact runInstr_fault hl (loadRm8_of_not_accessible ha) _
  | write =>
    rw [MoveForm8.exec_store hf]
    exact runInstr_fault hl (segCheck_of_not_accessible ha) _

theorem MoveForm16.fault {f : MoveForm16} (hl : LockAllowed s) (hf : f.memory = some (m, k))
    (ha : ¬ Accessible s (s.memSeg m) (s.effOffset m) 2 k) : exec f.instr s = .next (raiseAt s (refTrap s (s.memSeg m) k)) := by
  cases k with
  | read =>
    obtain ⟨r, hr⟩ : ∃ r, f.dest = .reg r := by
      cases f with
      | toReg r e => exact ⟨r, rfl⟩
      | accLoad off => exact ⟨.ax, rfl⟩
      | _ => simp [MoveForm16.memory] at hf
    rw [MoveForm16.exec_load hf hr]
    exact runInstr_fault hl (loadRm16_of_not_accessible ha) _
  | write =>
    rw [MoveForm16.exec_store hf]
    exact runInstr_fault hl (segCheck_of_not_accessible ha) _

theorem ReadForm16.fault {f : ReadForm16} (hl : LockAllowed s) (hf : f.Allowed s)
    (ha : ¬ Accessible s (s.memSeg m) (s.effOffset m) 2 .read) :
    exec (f.instr (.mem m)) s = .next (raiseAt s (refTrap s (s.memSeg m) .read)) := by
  have hr := loadRm16_of_not_accessible ha
  cases f with
  | mul | imul | imulDw | imulDb | div | idiv | movDs | movEs | movSs => exact runInstr_fault hl hr _
  | push => exact runInstr_fault hl (segCheck_of_not_accessible ha) _
  | jmp => exact runJump_fault hl hr _
  | call => exact runJump_fault hl (segCheck_of_not_accessible ha) _
  | lldt | ltr => exact (runProtected_of_pe hf.1 _).trans (runInstr_privileged_fault hl hf.2 hr _)
  | lar | lsl | verr | verw => exact (runProtected_of_pe hf _).trans (runInstr_fault hl hr _)
  | lmsw =>
    have e : (do lockGuard s; privilegeGuard s; loadRm16 s (.mem m) .read) = .error (refTrap s (s.memSeg m) .read) := by
      rw [lockGuard_of_allowed hl, privilegeGuard_of_privileged hf]
      exact hr
    show finishLmsw s (do lockGuard s; privilegeGuard s; loadRm16 s (.mem m) .read) = _
    rw [e]
    rfl

theorem xchg8_fault (r : Reg8) (hl : LockAllowed s) (ha : ¬ Accessible s (s.memSeg m) (s.effOffset m) 1 .write) :
    exec (.xchgEbRb (.mem m) r) s = .next (raiseAt s (refTrap s (s.memSeg m) .write)) :=
  runInstr_of_error hl (locked_of_error (bind_error (loadRm8_of_not_accessible (s := s.withLock .active) ha) _) (refTrap_bus _ _ _))

theorem xchg16_fault (r : Reg16) (hl : LockAllowed s) (ha : ¬ Accessible s (s.memSeg m) (s.effOffset m) 2 .write) :
    exec (.xchgEwRw (.mem m) r) s = .next (raiseAt s (refTrap s (s.memSeg m) .write)) :=
  runInstr_of_error hl (locked_of_error (bind_error (loadRm16_of_not_accessible (s := s.withLock .active) ha) _) (refTrap_bus _ _ _))

/-- POP to memory comes to its operand once the stack word has passed its check. -/
theorem popMw_fault (hl : LockAllowed s) (hw : WordsAbove s 1) (ha : ¬ Accessible s (s.memSeg m) (s.effOffset m) 2 .write) :
    exec (.popMw (.mem m)) s = .next (raiseAt s (refTrap s (s.memSeg m) .write)) := by
  have hs : stackFits s s.gpr.sp .read = true := by
    have h0 := hw 0 Nat.one_pos
    rw [show s.gpr.sp + BitVec.ofNat 16 (2 * 0) = s.gpr.sp from BitVec.add_zero _] at h0
    exact (stackFits_iff _ _ _).2 h0
  refine runInstr_of_error hl ?_
  rw [popRm, hs]
  exact bind_error (segCheck_of_not_accessible ha) _

theorem PointerForm.fault {f : PointerForm} (hl : LockAllowed s) (ha : ¬ PointerOpen s m) :
    exec (f.instr m) s = .next (raiseAt s (refTrap s (s.memSeg m) .read)) := by
  have hc := checkPointer_of_not_open ha
  have hp : loadPointer s m = .error (refTrap s (s.memSeg m) .read) := bind_error hc _
  cases f with
  | lds r | les r => exact runInstr_fault hl hp _
  | jmp => exact runFar_fault hl hp _
  | call => exact runFar_fault hl hc _

/-- XLAT's offset: BX plus AL, modulo 2^16 (R279). -/
theorem xlat_offset (s : State) : s.gpr.bx + zext16 (s.reg8 .al) = BitVec.ofNat 16 (s.gpr.bx.toNat + s.gpr.ax.toNat % 256) := by
  apply BitVec.eq_of_toNat_eq
  have h : (zext16 (s.reg8 .al)).toNat = s.gpr.ax.toNat % 256 := by
    simp [zext16, loByte, State.reg8, reg8High, reg8Whole, State.reg16, Gpr.get]
    omega
  rw [BitVec.toNat_add, h, BitVec.toNat_ofNat]

theorem xlat_fault (hl : LockAllowed s)
    (ha : ¬ Accessible s (sourceSeg s) (BitVec.ofNat 16 (s.gpr.bx.toNat + s.gpr.ax.toNat % 256)) 1 .read) :
    exec .xlat s = .next (raiseAt s (refTrap s (sourceSeg s) .read)) := by
  rw [← xlat_offset] at ha
  exact runInstr_fault hl (bind_error (segCheck_of_not_accessible ha) _) _

/-! ### A LOCK prefix that IOPL forbids -/

theorem lockGuard_of_not_allowed (h : ¬ LockAllowed s) : lockGuard s = .error trapGp0 := by
  rw [← lockGuard_iff] at h
  unfold lockGuard require at *
  split
  · next hc => exact absurd (if_pos hc) h
  · rfl

theorem runInstr_denied (h : ¬ LockAllowed s) (r : Except Trap State) : runInstr s r = .next (raiseAt s trapGp0) := by
  unfold runInstr
  rw [lockGuard_of_not_allowed h]
  rfl

theorem runJump_denied (h : ¬ LockAllowed s) (r : Except Trap State) : runJump s r = .next (raiseAt s trapGp0) := by
  unfold runJump
  rw [lockGuard_of_not_allowed h]
  rfl

theorem runFar_denied (h : ¬ LockAllowed s) (r : Except Failure State) : runFar s r = .next (raiseAt s trapGp0) := by
  unfold runFar
  rw [lockGuard_of_not_allowed h]
  rfl

/-- Only in Protected Mode is a LOCK prefix forbidden. -/
theorem runProtected_denied (h : ¬ LockAllowed s) (r : Except Trap State) : runProtected s r = .next (raiseAt s trapGp0) := by
  have hp : s.msw.pe = true := by
    by_contra hp
    exact h fun _ e => absurd e hp
  rw [runProtected_of_pe hp]
  exact runInstr_denied h r

theorem runString_denied (h : ¬ LockAllowed s) (compares lockable : Bool) (once : State → Except Trap State) :
    runString compares lockable once s = .next (raiseAt s trapGp0) := by
  unfold runString
  rw [lockGuard_of_not_allowed h]
  rfl

theorem jumpIf_denied (h : ¬ LockAllowed s) (c : Bool) (disp : Byte) : jumpIf c disp s = .next (raiseAt s trapGp0) := by
  unfold jumpIf
  split
  · exact runJump_denied h _
  · exact runInstr_denied h _

theorem loopIf_denied (h : ¬ LockAllowed s) (c : Bool) (disp : Byte) : loopIf c disp s = .next (raiseAt s trapGp0) := by
  unfold loopIf
  split
  · exact runJump_denied h _
  · exact runInstr_denied h _

theorem runInt_denied (h : ¬ LockAllowed s) (v : Byte) : runInt v s = .next (raiseAt s trapGp0) := by
  unfold runInt
  rw [lockGuard_of_not_allowed h]

theorem execInto_denied (h : ¬ LockAllowed s) : execInto s = .next (raiseAt s trapGp0) := by
  unfold execInto
  split
  · exact runInt_denied h 4
  · exact runInstr_denied h _

theorem execLmsw_denied (h : ¬ LockAllowed s) (e : Rm16) : execLmsw e s = .next (raiseAt s trapGp0) := by
  unfold execLmsw
  rw [lockGuard_of_not_allowed h]
  rfl

/-- WAIT and ESC come to the check once BUSY and ERROR are out of the way. -/
theorem afterBusy_denied (h : ¬ LockAllowed s) {waits testError : Bool} (hb : s.pins.busy = true → waits = false)
    (he : s.pins.error = true → testError = false) (r : Except Trap State) :
    afterBusy s waits testError r = .next (raiseAt s trapGp0) := by
  unfold afterBusy
  rw [if_neg, if_neg]
  · exact runInstr_denied h r
  · intro e
    obtain ⟨h1, h2⟩ := Bool.and_eq_true_iff.1 e
    rw [he h1] at h2
    exact nomatch h2
  · intro e
    obtain ⟨h1, h2⟩ := Bool.and_eq_true_iff.1 e
    rw [hb h1] at h2
    exact nomatch h2

theorem execWait_denied (h : ¬ LockAllowed s) (hc : LockChecked s .wait) : execWait s = .next (raiseAt s trapGp0) := by
  obtain ⟨hn, hb, he⟩ := hc.2.2.1 rfl
  unfold execWait
  rw [if_neg]
  · refine afterBusy_denied h (fun e => absurd e (by simp [hb])) (fun e => ?_) _
    rcases he with he | he
    · simp [he]
    · simp [he] at e
  · rcases hn with hn | hn <;> simp [hn]

theorem execEsc_denied (h : ¬ LockAllowed s) {op ext : BitVec 3} {e : RM (BitVec 3)} (hc : LockChecked s (.esc op ext e)) :
    execEsc op ext e s = .next (raiseAt s trapGp0) := by
  obtain ⟨hem, hts, hb, he⟩ := hc.2.2.2 op ext e rfl
  unfold execEsc
  rw [if_neg (by simp [hem, hts])]
  exact afterBusy_denied h (fun k => by rw [hb k]; rfl) (fun k => by rw [he k]; rfl) _

/-- An instruction whose operand is memory: its register form is an undefined opcode. -/
theorem memoryOnly_denied {R : Type} {i : RM R → Instr} (e : RM R) (hr : ∀ r, undefinedForms (i (.reg r)) = true)
    (hc : LockChecked s (i e)) (hm : ∀ m, exec (i (.mem m)) s = .next (raiseAt s trapGp0)) :
    exec (i e) s = .next (raiseAt s trapGp0) := by
  cases e with
  | reg r => exact absurd (hc.1.symm.trans (hr r)) Bool.false_ne_true
  | mem m => exact hm m

/-- Every instruction that comes to the check of its LOCK prefix makes it before all else: one case for each way to end an
instruction. -/
theorem exec_denied (i : Instr) (h : ¬ LockAllowed s) (hc : LockChecked s i) : exec i s = .next (raiseAt s trapGp0) := by
  cases i with
  | undefD4 | undef0F | undef83x1 | undef83x4 | undef83x6 | undef64 | undef65 | undef66 | undef67 | undef82 | undef8Cx4to7
    | undef8Ex1 | undef8Ex4to7 | undef8Fx1 | undef8Fx2 | undef8Fx3 | undef8Fx4 | undef8Fx5 | undef8Fx6 | undef8Fx7 | undefC0x6
    | undefC1x6 | undefC6x1 | undefC6x2 | undefC6x3 | undefC6x4 | undefC6x5 | undefC6x6 | undefC6x7 | undefC7x1 | undefC7x2
    | undefC7x3 | undefC7x4 | undefC7x5 | undefC7x6 | undefC7x7 | undefD0x6 | undefD1x6 | undefD2x6 | undefD3x6 | undefD6
    | undefF1 | undefF6x1 | undefF7x1 | undefFEx2 | undefFEx3 | undefFEx4 | undefFEx5 | undefFEx6 | undefFEx7 | undefFFx7
    | undef0F00x6to7 | undef0F01x5 | undef0F01x7 => exact absurd hc.1 Bool.noConfusion
  | segEs | segCs | segSs | segDs | lock | repne | rep => exact absurd hc.2.1 Bool.noConfusion
  | lea r e => exact memoryOnly_denied (i := .lea r) e (fun _ => rfl) hc fun _ => runInstr_denied h _
  | lds r e => exact memoryOnly_denied (i := .lds r) e (fun _ => rfl) hc fun _ => runInstr_denied h _
  | les r e => exact memoryOnly_denied (i := .les r) e (fun _ => rfl) hc fun _ => runInstr_denied h _
  | bound r e => exact memoryOnly_denied (i := .bound r) e (fun _ => rfl) hc fun _ => runInstr_denied h _
  | sgdt e => exact memoryOnly_denied e (fun _ => rfl) hc fun _ => runInstr_denied h _
  | sidt e => exact memoryOnly_denied e (fun _ => rfl) hc fun _ => runInstr_denied h _
  | lgdt e => exact memoryOnly_denied e (fun _ => rfl) hc fun _ => runInstr_denied h _
  | lidt e => exact memoryOnly_denied e (fun _ => rfl) hc fun _ => runInstr_denied h _
  | jmpEd e => exact memoryOnly_denied e (fun _ => rfl) hc fun _ => runFar_denied h _
  | callEd e => exact memoryOnly_denied e (fun _ => rfl) hc fun _ => runFar_denied h _
  | jmpCw | jmpCb | jmpEw | callCw | callEw | retDw | ret => exact runJump_denied h _
  | jmpCd | callCd | retfDw | retf | iret => exact runFar_denied h _
  | jo | jno | jb | jae | je | jne | jbe | ja | js | jns | jp | jnp | jl | jge | jle | jg | jcxz => exact jumpIf_denied h _ _
  | loopne | loope | loop => exact loopIf_denied h _ _
  | intDb | int3 => exact runInt_denied h _
  | into => exact execInto_denied h
  | wait => exact execWait_denied h hc
  | esc => exact execEsc_denied h hc
  | movsb | movsw | cmpsb | cmpsw | scasb | scasw | lodsb | lodsw | stosb | stosw | insb | insw | outsb | outsw =>
    exact runString_denied h _ _ _
  | sldt | str | lldt | ltr | arpl | lar | lsl | verr | verw => exact runProtected_denied h _
  | lmsw => exact execLmsw_denied h _
  | _ => exact runInstr_denied h _

end

/-- Settles O13: each instruction's first act is the check of its operand, and before that the check of its LOCK prefix. -/
theorem operandFault : Obligations.OperandFault := by
  unfold Obligations.OperandFault
  refine ⟨?arith8, ?arith16, ?logic8, ?logic16, fun _ _ _ => TestForm8.fault, fun _ _ _ => TestForm16.fault, ?unary8, ?unary16,
    ?shift, fun _ _ _ _ => MoveForm8.fault, fun _ _ _ _ => MoveForm16.fault, ?multiply8, fun _ _ _ => ReadForm16.fault,
    fun r _ _ => xchg8_fault r, ?write16, fun _ _ _ => PointerForm.fault, ?loadTable, ?storeTable, fun _ => xlat_fault,
    fun i _ => exec_denied i⟩
  case arith8 =>
    intro op f m k s hl hf ha
    rw [op.exec_instr8]
    exact aluForm8_fault hl (by rwa [op.alu_access]) ha
  case arith16 =>
    intro op f m k s hl hf ha
    rw [op.exec_instr16]
    exact aluForm16_fault hl (by rwa [op.alu_access]) ha
  case logic8 =>
    intro op f m k s hl hf ha
    rw [op.exec_instr8]
    exact aluForm8_fault hl (by rwa [op.alu_access]) ha
  case logic16 =>
    intro op f m k s hl hf ha
    rw [op.exec_instr16]
    exact aluForm16_fault hl (by rwa [op.alu_access]) ha
  case unary8 =>
    intro op m s hl ha
    rw [op.exec_instr8]
    exact runInstr_fault hl (loadRm8_of_not_accessible ha) _
  case unary16 =>
    intro f m s hl hd ha
    rw [f.exec_instr, hd]
    exact runInstr_fault hl (loadRm16_of_not_accessible ha) _
  case shift =>
    intro op f m s hl
    rw [op.exec_instr8, op.exec_instr16]
    exact ⟨fun ha => runInstr_fault hl (loadRm8_of_not_accessible ha) _, fun ha => runInstr_fault hl (loadRm16_of_not_accessible ha) _⟩
  case multiply8 =>
    intro i m s hl hi ha
    rcases hi with rfl | rfl | rfl | rfl <;> exact runInstr_fault hl (loadRm8_of_not_accessible ha) _
  case write16 =>
    rintro i m s hl (⟨r, rfl⟩ | ⟨rfl, hw⟩ | ⟨hp, rfl | rfl | ⟨r, rfl⟩⟩) ha
    · exact xchg16_fault r hl ha
    · exact popMw_fault hl hw ha
    · exact (runProtected_of_pe hp _).trans (runInstr_fault hl (segCheck_of_not_accessible ha) _)
    · exact (runProtected_of_pe hp _).trans (runInstr_fault hl (segCheck_of_not_accessible ha) _)
    · exact (runProtected_of_pe hp _).trans (runInstr_fault hl (loadRm16_of_not_accessible ha) _)
  case loadTable =>
    intro i m s hl hp hi ha
    have ht : loadTable m s = .error (refTrap s (s.memSeg m) .read) :=
      bind_error (checkTable_of_not_open fun h => ha ⟨⟨h.1, h.2.1⟩, h.2.2⟩) _
    rcases hi with rfl | rfl <;> exact runInstr_privileged_fault hl hp ht _
  case storeTable =>
    intro i m s hl hi ha
    rcases hi with rfl | rfl <;> exact runInstr_fault hl (checkTable_of_not_open ha) _

end Sys2Proof.Machine
end

section
/-! PROOF of O28 and O29: loads of DS, ES and SS in Protected Mode.  Each instruction reads its selector, makes the load (`loadDataSeg`,
`loadSs`) and writes its general registers; so each outcome of the load is an outcome of the instruction. -/

namespace Sys2Proof.Machine

section
variable {s t u : State} {sel : Word} {d : Desc} {x : Trap}

/-! ### The copy of a descriptor -/

theorem Desc.base_eq (d : Desc) : d.base = BitVec.ofNat 24 (65536 * d.b4.toNat + d.w1.toNat) := by
  have hl := d.w1.isLt
  apply BitVec.eq_of_toNat_eq
  have e : d.base.toNat = 65536 * d.b4.toNat + d.w1.toNat := by
    show (d.b4 ++ d.w1 : BitVec (8 + 16)).toNat = _
    rw [BitVec.toNat_append, ← Nat.shiftLeft_add_eq_or_of_lt hl, Nat.shiftLeft_eq]
    omega
  rw [e, BitVec.toNat_ofNat, Nat.mod_eq_of_lt (e ▸ d.base.isLt)]

theorem Desc.cache_eq (d : Desc) (sel : Word) : d.cache sel = descriptorSeg sel d := by
  simp only [Desc.cache, descriptorSeg, Desc.base_eq]
  rfl

theorem selCode_noExt (sel : Word) : selCode sel false = sel &&& 0xFFFC := BitVec.or_zero

/-- A descriptor that is found is read from memory as it stands. -/
theorem fetchDesc_eq_readDesc (h : s.fetchDesc sel = some d) : ∃ a, d = s.readDesc a := by
  unfold State.fetchDesc at h
  dsimp only at h
  by_cases h1 : (selTi sel && !s.ldtr.valid) = true
  · rw [if_pos h1] at h
    exact nomatch h
  · rw [if_neg h1] at h
    by_cases h2 : (if selTi sel then s.ldtr.limit else s.gdtr.limit).toNat < 8 * selIndex sel + 7
    · rw [if_pos h2] at h
      exact nomatch h
    · rw [if_neg h2] at h
      exact ⟨_, (Option.some.inj h).symm⟩

theorem fetchDesc_ar (h : s.fetchDesc sel = some d) : d.ar = s.look d.accessByte := by
  obtain ⟨a, rfl⟩ := fetchDesc_eq_readDesc h
  rfl

/-- The Accessed bit set with no other agent before: one store. -/
theorem State.setAccessed_alone (h : Alone s) (hd : s.fetchDesc sel = some d) :
    s.setAccessed d = s.store d.accessByte (d.ar ||| 1) := by
  unfold State.setAccessed
  rw [State.others_alone h, fetchDesc_ar hd]
  rfl

/-- A store outside a device's window leaves all but memory as it was. -/
theorem State.store_of_not_device {a : Nat} (h : s.kindAt a ≠ .device) (v : Byte) :
    s.store a v = { s with mem := (s.store a v).mem } := by
  unfold State.store
  split
  · rfl
  · cases hk : s.kindAt a with
    | device => exact absurd hk h
    | ram | rom | absent => rfl

theorem State.setAccessed_memory (hd : s.fetchDesc sel = some d) (hm : d.InMemory s) :
    s.setAccessed d = { s with mem := (s.setAccessed d).mem } := by
  rw [State.setAccessed_alone hm.1 hd]
  exact State.store_of_not_device hm.2 _

/-- Setting the Accessed bit changes that byte of RAM, and nothing where there is no RAM (R123, R754). -/
theorem State.setAccessed_accessedSet (hd : s.fetchDesc sel = some d) (hw : s.mem.wf = true) (hm : d.InMemory s)
    (ht : t.mem = (s.setAccessed d).mem) : AccessedSet s t d := by
  rw [State.setAccessed_alone hm.1 hd] at ht
  unfold AccessedSet Marked MemSameBut Desc.marked
  rw [ht]
  refine ⟨fun hk => ?_, fun a ha => ?_⟩
  · rw [State.store_ram (State.dead_unreset hm.1.2) hk]
    exact Memory.read_write_same hw _ _
  · by_cases hk : s.kindAt d.accessByte = .ram
    · rw [if_pos hk, List.mem_singleton] at ha
      exact State.store_other s _ ha
    · rw [State.store_dropped (by cases h : s.kindAt d.accessByte <;> simp_all [Desc.InMemory])]

/-! ### How a load fails -/

theorem loadDataSeg_outside (hp : s.msw.pe = true) (hn : nullSel sel = false) (hd : s.fetchDesc sel = none) (r : SegReg) :
    loadDataSeg s r sel = .error (trapGp sel) := by
  simp [loadDataSeg, hp, hn, fetchOr_none hd, bind, Except.bind]

/-- A check of the descriptor that fails: unreadable or not privileged, then not present. -/
theorem loadDataSeg_checked (ha : Alone s) (hp : s.msw.pe = true) (hn : nullSel sel = false) (hd : s.fetchDesc sel = some d)
    (r : SegReg) : loadDataSeg s r sel = afterReads s (do
      require (readable d.ar) (trapGp sel)
      require (dataPrivilege d.ar s.cpl sel) (trapGp sel)
      require (present d.ar) (trapNp sel)
      .ok ((s.setAccessed d).setSeg r (d.cache sel))) := by
  simp [loadDataSeg, hp, hn, fetchOr_alone ha hd, bind, Except.bind]

theorem dataPrivilege_iff (ar : Byte) (cpl : BitVec 2) (sel : Word) :
    dataPrivilege ar cpl sel = true ↔ conforming ar = true ∨ (cpl ≤ dpl ar ∧ rpl sel ≤ dpl ar) := by
  simp [dataPrivilege]

theorem loadDataSeg_misfit (ha : Alone s) (hp : s.msw.pe = true) (hn : nullSel sel = false) (hd : s.fetchDesc sel = some d)
    (h : readable d.ar = false ∨ dataPrivilege d.ar s.cpl sel = false) (r : SegReg) :
    loadDataSeg s r sel = .error { trapGp sel with bus := some s.bus } := by
  rw [loadDataSeg_checked ha hp hn hd]
  cases hr : readable d.ar with
  | false => rfl
  | true => rw [h.resolve_left (by simp [hr])]; rfl

theorem loadDataSeg_absent (ha : Alone s) (hp : s.msw.pe = true) (hn : nullSel sel = false) (hd : s.fetchDesc sel = some d)
    (hr : readable d.ar = true) (hv : dataPrivilege d.ar s.cpl sel = true) (h : present d.ar = false) (r : SegReg) :
    loadDataSeg s r sel = .error { trapNp sel with bus := some s.bus } := by
  rw [loadDataSeg_checked ha hp hn hd, hr, hv, h]
  rfl

theorem loadSs_null (hp : s.msw.pe = true) (hn : nullSel sel = true) : loadSs s sel = .error trapGp0 := by
  simp [loadSs, hp, hn, require, bind, Except.bind]

theorem loadSs_outside (hp : s.msw.pe = true) (hn : nullSel sel = false) (hd : s.fetchDesc sel = none) :
    loadSs s sel = .error (trapGp sel) := by
  simp [loadSs, hp, hn, require, fetchOr_none hd, bind, Except.bind]

/-- What LoadSS makes of a descriptor it has read. -/
theorem loadSs_checked (ha : Alone s) (hp : s.msw.pe = true) (hn : nullSel sel = false) (hd : s.fetchDesc sel = some d) :
    loadSs s sel = afterReads s (do
      require (decide (rpl sel = s.cpl)) (trapGp sel)
      require (writable d.ar) (trapGp sel)
      require (decide (dpl d.ar = s.cpl)) (trapGp sel)
      require (present d.ar) (trapSs sel)
      .ok { s.setAccessed d with ss := d.cache sel }) := by
  simp [loadSs, hp, hn, require, fetchOr_alone ha hd, bind, Except.bind]

theorem loadSs_loadable (ha : Alone s) (hp : s.msw.pe = true) (hn : nullSel sel = false) (hd : s.fetchDesc sel = some d)
    (h : StackLoadable s sel d) : loadSs s sel = .ok { s.setAccessed d with ss := d.cache sel } := by
  obtain ⟨hw, hr, hc, hpr⟩ := h
  rw [loadSs_checked ha hp hn hd, decide_eq_true hr, hw, decide_eq_true hc, hpr]
  rfl

theorem loadSs_misfit (ha : Alone s) (hp : s.msw.pe = true) (hn : nullSel sel = false) (hd : s.fetchDesc sel = some d)
    (h : ¬ (writable d.ar = true ∧ rpl sel = s.cpl ∧ dpl d.ar = s.cpl)) :
    loadSs s sel = .error { trapGp sel with bus := some s.bus } := by
  rw [loadSs_checked ha hp hn hd]
  by_cases hr : rpl sel = s.cpl
  · rw [decide_eq_true hr]
    cases hw : writable d.ar with
    | false => rfl
    | true =>
      rw [decide_eq_false fun hc => h ⟨hw, hr, hc⟩]
      rfl
  · rw [decide_eq_false hr]
    rfl

theorem loadSs_absent (ha : Alone s) (hp : s.msw.pe = true) (hn : nullSel sel = false) (hd : s.fetchDesc sel = some d)
    (hw : writable d.ar = true) (hr : rpl sel = s.cpl) (hc : dpl d.ar = s.cpl) (h : present d.ar = false) :
    loadSs s sel = .error { trapSs sel with bus := some s.bus } := by
  rw [loadSs_checked ha hp hn hd, decide_eq_true hr, hw, decide_eq_true hc, h]
  rfl

/-! ### The instructions -/

theorem nullSel_eq_true (h : sel.toNat < 4) : nullSel sel = true := decide_eq_true h

theorem nullSel_eq_false (h : 4 ≤ sel.toNat) : nullSel sel = false := decide_eq_false (Nat.not_lt.2 h)

/-- A word popped from plain memory, before SP changes. -/
theorem stackTop_of_ok (h : WordOk s .ss s.gpr.sp .read) : stackTop s = .ok (s.segWord .ss s.gpr.sp, s) := by
  have e : s.gpr.sp + BitVec.ofNat 16 0 = s.gpr.sp := BitVec.add_zero _
  have hg : s.stackGet 0 = (s.segWord .ss s.gpr.sp, s) := by
    rw [State.stackGet, e]
    exact State.segGet16_memory h.2
  rw [stackTop, (stackFits_iff s _ _).2 h.1, hg]
  rfl

theorem State.setSeg_gpr (s : State) (r : SegReg) (c : SegCache) : (s.setSeg r c).gpr = s.gpr := by cases r <;> rfl

/-- A segment register is written apart from the general registers. -/
theorem State.setSeg_with_gpr (s : State) (r : SegReg) (c : SegCache) (g : Gpr) :
    { s.setSeg r c with gpr := g } = { s with gpr := g }.setSeg r c := by cases r <;> rfl

/-- What an instruction does once its load of DS or ES is made: the general registers, as `SegLoadForm.gpr` has them. -/
def SegLoadForm.finish (s t : State) : SegLoadForm → State
  | .movDs _ => t
  | .movEs _ => t
  | .popDs => t.setSp (s.gpr.sp + 2)
  | .popEs => t.setSp (s.gpr.sp + 2)
  | .lds r m => t.setReg16 r (s.segWord (s.memSeg m) (s.effOffset m))
  | .les r m => t.setReg16 r (s.segWord (s.memSeg m) (s.effOffset m))

theorem SegLoadForm.finish_eq (f : SegLoadForm) (h : t.gpr = s.gpr) : f.finish s t = { t with gpr := f.gpr s } := by
  cases f <;> simp only [SegLoadForm.finish, SegLoadForm.gpr, State.setSp, State.setReg16, ← h]

theorem movToSeg_of_ok {e : Rm16} (h : Rm16Ok s e .read) (r : SegReg) :
    movToSeg r e s = afterReads s (loadDataSeg s r (rm16Value s e)) := by
  rw [movToSeg, loadRm16_of_ok h]
  rfl

theorem popSeg_of_ok (h : WordOk s .ss s.gpr.sp .read) (r : SegReg) :
    popSeg r s = afterReads s (loadDataSeg s r (s.segWord .ss s.gpr.sp)) >>= fun t => .ok (t.setSp (s.gpr.sp + 2)) := by
  rw [popSeg, stackTop_of_ok h]
  rfl

theorem loadFarPointer_of_ok {m : MemOp} (h : PointerOk s m) (r : Reg16) (q : SegReg) :
    loadFarPointer r m q s = afterReads s (loadDataSeg s q (s.segWord (s.memSeg m) (s.effOffset m + 2))) >>= fun t =>
      .ok (t.setReg16 r (s.segWord (s.memSeg m) (s.effOffset m))) := by
  rw [loadFarPointer, loadPointer_of_ok h]
  rfl

/-- Each instruction makes its load with what it has read, then writes its general registers. -/
theorem SegLoadForm.exec_instr {f : SegLoadForm} (h : f.Ok s) :
    exec f.instr s = runInstr s (afterReads s (loadDataSeg s f.dest (f.selector s)) >>= fun t => .ok (f.finish s t)) := by
  cases f with
  | movDs e | movEs e => exact congrArg (runInstr s) ((movToSeg_of_ok h _).trans (bind_pure _).symm)
  | popDs | popEs => exact congrArg (runInstr s) (popSeg_of_ok h _)
  | lds r m | les r m => exact congrArg (runInstr s) (loadFarPointer_of_ok h r _)

theorem SegLoadForm.exec_of_ok {f : SegLoadForm} (hl : LockAllowed s) (h : f.Ok s)
    (ht : loadDataSeg s f.dest (f.selector s) = .ok t) (hg : t.gpr = s.gpr) :
    exec f.instr s = .next { t with gpr := f.gpr s }.retire := by
  rw [SegLoadForm.exec_instr h, ht, ← f.finish_eq hg]
  exact runInstr_of_ok hl rfl

/-- An exception of a load that has read nothing but plain memory is raised with nothing changed. -/
theorem raiseAt_getD_bus (h : x.bus = none ∨ x.bus = some s.bus) :
    raiseAt s { x with bus := some (x.bus.getD s.bus) } = raiseAt s { vector := x.vector, code := x.code } := by
  have e : x.bus.getD s.bus = s.bus := by rcases h with h | h <;> rw [h] <;> rfl
  rw [e, ← raiseAt_seen]

theorem SegLoadForm.exec_of_error {f : SegLoadForm} (hl : LockAllowed s) (h : f.Ok s)
    (ht : loadDataSeg s f.dest (f.selector s) = .error x) (hx : x.bus = none ∨ x.bus = some s.bus) :
    exec f.instr s = .next (raiseAt s { vector := x.vector, code := x.code }) := by
  rw [SegLoadForm.exec_instr h, ht, ← raiseAt_getD_bus hx]
  exact runInstr_of_error hl rfl

/-- What an instruction does once its load of SS is made: the general registers, and the inhibit of the next boundary (R65). -/
def StackLoadForm.finish (s t : State) : StackLoadForm → State
  | .mov _ => t.inhibit
  | .pop => (t.setSp (s.gpr.sp + 2)).inhibit

theorem StackLoadForm.finish_eq (f : StackLoadForm) (h : t.gpr = s.gpr) :
    f.finish s t = { t with gpr := f.gpr s, inhibitNext := true } := by
  cases f <;> simp only [StackLoadForm.finish, StackLoadForm.gpr, State.setSp, State.inhibit, ← h]

/-- Each instruction makes its load with what it has read, then writes its general registers. -/
theorem StackLoadForm.exec_instr {f : StackLoadForm} (h : f.Ok s) :
    exec f.instr s = runInstr s (afterReads s (loadSs s (f.selector s)) >>= fun t => .ok (f.finish s t)) := by
  cases f with
  | mov e =>
    show runInstr s (movToSs e s) = _
    rw [movToSs, loadRm16_of_ok h]
    rfl
  | pop =>
    show runInstr s (popStackSeg s) = _
    rw [popStackSeg, stackTop_of_ok h]
    rfl

theorem StackLoadForm.exec_of_ok {f : StackLoadForm} (hl : LockAllowed s) (h : f.Ok s) (ht : loadSs s (f.selector s) = .ok t)
    (hg : t.gpr = s.gpr) : exec f.instr s = .next { t with gpr := f.gpr s, inhibitNext := true }.retire := by
  rw [StackLoadForm.exec_instr h, ht, ← f.finish_eq hg]
  exact runInstr_of_ok hl rfl

theorem StackLoadForm.exec_of_error {f : StackLoadForm} (hl : LockAllowed s) (h : f.Ok s) (ht : loadSs s (f.selector s) = .error x)
    (hx : x.bus = none ∨ x.bus = some s.bus) : exec f.instr s = .next (raiseAt s { vector := x.vector, code := x.code }) := by
  rw [StackLoadForm.exec_instr h, ht, ← raiseAt_getD_bus hx]
  exact runInstr_of_error hl rfl

end

/-- Settles O28: the outcomes of `loadDataSeg`, as outcomes of the instruction. -/
theorem segLoadProtected : Obligations.SegLoadProtected := by
  intro f s hl hp hf
  refine ⟨fun hn => ?null, fun hn d hd => ⟨fun hload hw hm => ?loads, fun ha h => ?misfit, fun ha hr hv h => ?absent⟩,
    fun hn hd => ?outside⟩
  case null =>
    rw [SegLoadForm.exec_of_ok hl hf (loadDataSeg_null hp (nullSel_eq_true hn) _) (State.setSeg_gpr _ _ _), State.setSeg_with_gpr]
    rfl
  case loads =>
    obtain ⟨hr, hv, hpr⟩ := hload
    have ht := loadDataSeg_protected hm.1 hp (nullSel_eq_false hn) hd hr ((dataPrivilege_iff _ _ _).2 hv) hpr f.dest
    have hg : ((s.setAccessed d).setSeg f.dest (d.cache (f.selector s))).gpr = s.gpr := by
      rw [State.setSeg_gpr, State.setAccessed_gpr]
    refine ⟨_, SegLoadForm.exec_of_ok hl hf ht hg, State.setAccessed_accessedSet hd hw hm ?_, ?_⟩
    · cases f.dest <;> rfl
    · rw [State.setAccessed_memory hd hm, Desc.cache_eq]
      cases f.dest <;> rfl
  case misfit =>
    have hm : readable d.ar = false ∨ dataPrivilege d.ar s.cpl (f.selector s) = false :=
      h.imp_right fun ⟨hc, hv⟩ => Bool.eq_false_iff.2 fun e =>
        ((dataPrivilege_iff _ _ _).1 e).elim (fun k => Bool.false_ne_true (hc.symm.trans k)) hv
    rw [SegLoadForm.exec_of_error hl hf (loadDataSeg_misfit ha hp (nullSel_eq_false hn) hd hm _) (.inr rfl), ← selCode_noExt]
    rfl
  case absent =>
    rw [SegLoadForm.exec_of_error hl hf (loadDataSeg_absent ha hp (nullSel_eq_false hn) hd hr ((dataPrivilege_iff _ _ _).2 hv) h _)
      (.inr rfl), ← selCode_noExt]
    rfl
  case outside =>
    rw [SegLoadForm.exec_of_error hl hf (loadDataSeg_outside hp (nullSel_eq_false hn) hd _) (.inl rfl), ← selCode_noExt]
    rfl

/-- Settles O29: the outcomes of `loadSs`, as outcomes of the instruction. -/
theorem stackSegLoad : Obligations.StackSegLoad := by
  intro f s hl hp hf
  refine ⟨fun hn => ?null, fun hn d hd => ⟨fun hload hw hm => ?loads, fun ha h => ?misfit, fun ha hw hr hc h => ?absent⟩,
    fun hn hd => ?outside⟩
  case null => exact StackLoadForm.exec_of_error (x := trapGp0) hl hf (loadSs_null hp (nullSel_eq_true hn)) (.inl rfl)
  case loads =>
    have ht := loadSs_loadable hm.1 hp (nullSel_eq_false hn) hd hload
    refine ⟨_, StackLoadForm.exec_of_ok hl hf ht (State.setAccessed_gpr _ _), State.setAccessed_accessedSet hd hw hm rfl, ?_⟩
    rw [State.setAccessed_memory hd hm, Desc.cache_eq]
    rfl
  case misfit =>
    rw [StackLoadForm.exec_of_error hl hf (loadSs_misfit ha hp (nullSel_eq_false hn) hd h) (.inr rfl), ← selCode_noExt]
    rfl
  case absent =>
    rw [StackLoadForm.exec_of_error hl hf (loadSs_absent ha hp (nullSel_eq_false hn) hd hw hr hc h) (.inr rfl), ← selCode_noExt]
    rfl
  case outside =>
    rw [StackLoadForm.exec_of_error hl hf (loadSs_outside hp (nullSel_eq_false hn) hd) (.inl rfl), ← selCode_noExt]
    rfl

end Sys2Proof.Machine
end

section
/-! PROOF of O59: what other agents do between the bus cycles of an instruction, and that a bus lock keeps it out. -/

namespace Sys2Proof.Machine

section
variable {s u v : State} {acts acts' : List BusAct} {rest : List (List BusAct)} {a b : Nat}

/-! ### Other agents come before an unlocked cycle -/

/-- The bus is free, no RESET falls into the step, and `acts` comes before its next cycle. -/
structure Shared (s : State) (acts : List BusAct) (rest : List (List BusAct)) : Prop where
  unreset : Unreset s
  free : s.bus.lock = .free
  next : s.bus.between = acts :: rest

theorem Shared.others (h : Shared s acts rest) : s.others = afterOthers s acts rest := State.others_next h.unreset h.free h.next

theorem afterOthers_onBus (s : State) (acts : List BusAct) (rest : List (List BusAct)) : OnBus s (afterOthers s acts rest) :=
  OnBus.trans (t := withBetween s rest) rfl (actAll_onBus _ _)

theorem afterOthers_kindAt (s : State) (acts : List BusAct) (rest : List (List BusAct)) (a : Nat) :
    (afterOthers s acts rest).kindAt a = s.kindAt a := actAll_kindAt _ _ _

theorem Unreset.afterActs (h : Unreset s) (acts : List BusAct) (rest : List (List BusAct)) : Unreset (afterOthers s acts rest) :=
  Unreset.actAll (s := withBetween s rest) h acts

/-- Once they have come, those of the entry after it come before the cycle after that. -/
theorem Shared.second (h : Shared s acts (acts' :: rest)) : Shared (afterOthers s acts (acts' :: rest)) acts' rest where
  unreset := h.unreset.afterActs _ _
  free := (actAll_lock _ _).trans h.free
  next := actAll_between _ _

theorem OnBus.memSeg (h : OnBus s u) (m : MemOp) : u.memSeg m = s.memSeg m := by
  unfold State.memSeg State.overridden
  rw [h.pfx]

theorem OnBus.effOffset (h : OnBus s u) (m : MemOp) : u.effOffset m = s.effOffset m := by
  cases m with
  | based r d => cases r <;> simp only [State.effOffset, State.baseOffset, h.gpr]
  | direct off => rfl

/-- A word at an even address of RAM is read in one cycle. -/
theorem Shared.loadWord_even (h : Shared s acts rest) (he : a % 2 = 0) (ha : s.kindAt a = .ram) (hb : s.kindAt b = .ram)
    (hu : u = afterOthers s acts rest) : s.loadWord a b = (mkWord (u.mem.read a) (u.mem.read b), u) := by
  have hk : ∀ q, s.kindAt q = .ram → u.load q = (u.mem.read q, u) := fun q hq =>
    State.load_memory (.inl (by rw [hu, afterOthers_kindAt, hq]))
  unfold State.loadWord State.gap
  rw [h.others, ← hu, hk a ha]
  dsimp only
  rw [if_neg (by omega), hk b hb]

/-- A word at an odd address of RAM is read in two cycles. -/
theorem Shared.loadWord_odd (h : Shared s acts (acts' :: rest)) (ho : a % 2 = 1) (ha : s.kindAt a = .ram) (hb : s.kindAt b = .ram)
    (hu : u = afterOthers s acts (acts' :: rest)) (hv : v = afterOthers u acts' rest) :
    s.loadWord a b = (mkWord (u.mem.read a) (v.mem.read b), v) := by
  have hs : Shared u acts' rest := hu ▸ h.second
  have hka : u.kindAt a = .ram := by rw [hu, afterOthers_kindAt, ha]
  have hkb : v.kindAt b = .ram := by rw [hv, afterOthers_kindAt, hu, afterOthers_kindAt, hb]
  unfold State.loadWord State.gap
  rw [h.others, ← hu, State.load_memory (.inl hka)]
  dsimp only
  rw [if_pos ho, hs.others, ← hv, State.load_memory (.inl hkb)]

/-- A word at an odd address of RAM is stored in two cycles. -/
theorem Shared.storeWord_odd (h : Shared s acts (acts' :: rest)) (ho : a % 2 = 1) (ha : s.kindAt a = .ram) (hb : s.kindAt b = .ram)
    (hu : u = afterOthers s acts (acts' :: rest)) (w : Word)
    (hv : v = afterOthers { u with mem := u.mem.write a (loByte w) } acts' rest) :
    s.storeWord a b w = { v with mem := v.mem.write b (hiByte w) } := by
  have hn : Shared u acts' rest := hu ▸ h.second
  have hs : Shared { u with mem := u.mem.write a (loByte w) } acts' rest := ⟨hn.unreset, hn.free, hn.next⟩
  have hka : u.kindAt a = .ram := by rw [hu, afterOthers_kindAt, ha]
  have hkb : v.kindAt b = .ram := by
    rw [hv, afterOthers_kindAt]
    show u.kindAt b = .ram
    rw [hu, afterOthers_kindAt, hb]
  have hdu : u.dead = false := State.dead_unreset hn.unreset
  have hdv : v.dead = false := State.dead_unreset (hv ▸ hs.unreset.afterActs _ _)
  unfold State.storeWord State.gap
  rw [h.others, ← hu, State.store_ram hdu hka, if_pos ho, hs.others, ← hv, State.store_ram hdv hkb]

/-- The same through a segment register. -/
theorem Shared.segGet16_even (h : Shared s acts rest) {r : SegReg} {off : Word} (he : (s.segAddr r off 0).toNat % 2 = 0)
    (hk : ∀ j, j < 2 → s.kindAt (s.segAddr r off j).toNat = .ram) (hu : u = afterOthers s acts rest) :
    s.segGet16 r off = (u.segWord r off, u) := by
  have hb : OnBus s u := hu ▸ afterOthers_onBus s acts rest
  have hl : ∀ j, j < 2 → u.segByte r off j = u.mem.read (s.segAddr r off j).toNat := fun j hj => by
    rw [State.segByte, hb.segAddr]
    exact State.look_memory (.inl (by rw [hu, afterOthers_kindAt, hk j hj]))
  rw [State.segGet16, h.loadWord_even he (hk 0 (by omega)) (hk 1 (by omega)) hu, State.segWord, hl 0 (by omega), hl 1 (by omega)]

theorem realCache_eq (sel : Word) : realCache sel = realModeSeg sel := by
  have e : sel.zeroExtend 24 <<< 4 = BitVec.ofNat 24 (16 * sel.toNat) := by
    apply BitVec.eq_of_toNat_eq
    have hs := sel.isLt
    simp only [BitVec.toNat_shiftLeft, BitVec.truncate_eq_setWidth, BitVec.toNat_setWidth, BitVec.toNat_ofNat, Nat.shiftLeft_eq]
    omega
  simp only [realCache, realModeSeg, e]

/-- LDS of a pointer of two aligned words, other agents before each. -/
theorem lds_shared (r : Reg16) (m : MemOp) (hl : LockAllowed s) (hp : s.msw.pe = false) (h : Shared s acts (acts' :: rest))
    (hm : ∀ k, k = 0 ∨ k = 2 → Accessible s (s.memSeg m) (s.effOffset m + k) 2 .read ∧
      (s.segAddr (s.memSeg m) (s.effOffset m + k) 0).toNat % 2 = 0 ∧
      ∀ j, j < 2 → s.kindAt (s.segAddr (s.memSeg m) (s.effOffset m + k) j).toNat = .ram)
    (hu : u = afterOthers s acts (acts' :: rest)) (hv : v = afterOthers u acts' rest) :
    exec (.lds r (.mem m)) s = .next (past ({ v with
      gpr := s.gpr.set r (u.segWord (s.memSeg m) (s.effOffset m)) }.setSeg .ds
        (realModeSeg (v.segWord (s.memSeg m) (s.effOffset m + 2))))) := by
  have e0 : s.effOffset m + 0 = s.effOffset m := BitVec.add_zero _
  obtain ⟨ha0, he0, hk0⟩ := hm 0 (.inl rfl)
  obtain ⟨ha2, he2, hk2⟩ := hm 2 (.inr rfl)
  rw [e0] at ha0 he0 hk0
  have hbu : OnBus s u := hu ▸ afterOthers_onBus s _ _
  have hbv : OnBus u v := hv ▸ afterOthers_onBus u _ _
  have hoff : s.memWord m 0 = (u.segWord (s.memSeg m) (s.effOffset m), u) := by
    rw [State.memWord, e0, h.segGet16_even he0 hk0 hu]
  have hsel : u.memWord m 2 = (v.segWord (s.memSeg m) (s.effOffset m + 2), v) := by
    rw [State.memWord, hbu.memSeg, hbu.effOffset]
    refine Shared.segGet16_even (hu ▸ h.second) ?_ (fun j hj => ?_) hv
    · rw [hbu.segAddr]; exact he2
    · rw [hbu.segAddr, hu, afterOthers_kindAt, hk2 j hj]
  have hg : s.getPointer m = {
      off := u.segWord (s.memSeg m) (s.effOffset m)
      sel := v.segWord (s.memSeg m) (s.effOffset m + 2)
      st := v } := by
    simp only [State.getPointer, hoff, hsel]
  have hpv : v.msw.pe = false := by rw [hbv.msw, hbu.msw, hp]
  refine (runInstr_of_ok (t := (v.setSeg .ds (realModeSeg (v.segWord (s.memSeg m) (s.effOffset m + 2)))).setReg16 r
    (u.segWord (s.memSeg m) (s.effOffset m))) hl ?_).trans ?_
  · rw [loadFarPointer, loadPointer, (checkPointer_iff s m).2 ⟨ha0, ha2⟩, hg, ← realCache_eq]
    simp only [bind, Except.bind, loadDataSeg_real hpv, afterReads]
  · rw [← hbu.gpr, ← hbv.gpr]
    rfl

/-- MOV of a word at an odd address to or from AX, other agents before each byte. -/
theorem movAx_shared {off : Word} (hl : LockAllowed s) (h : Shared s acts (acts' :: rest))
    (ea : a = (s.segAddr (sourceSeg s) off 0).toNat) (eb : b = (s.segAddr (sourceSeg s) off 1).toNat) (ho : a % 2 = 1)
    (ha : s.kindAt a = .ram) (hb : s.kindAt b = .ram) (hu : u = afterOthers s acts (acts' :: rest)) :
    (Accessible s (sourceSeg s) off 2 .read → v = afterOthers u acts' rest →
      exec (.movAxXw off) s = .next (past { v with
        gpr := { s.gpr with ax := pair (v.mem.read b).toNat (u.mem.read a).toNat } })) ∧
    (Accessible s (sourceSeg s) off 2 .write →
      v = afterOthers { u with mem := u.mem.write a (loByte s.gpr.ax) } acts' rest →
      exec (.movXwAx off) s = .next (past { v with mem := v.mem.write b (hiByte s.gpr.ax) })) := by
  constructor
  · intro hm hv
    have he := exec_load16 (f := .accLoad off) (m := .direct off) hl rfl rfl hm ea eb
    have hg : v.gpr = s.gpr := by rw [hv, (afterOthers_onBus _ _ _).gpr, hu, (afterOthers_onBus _ _ _).gpr]
    rw [h.loadWord_odd ho ha hb hu hv] at he
    rw [pair_eq_mkWord, ← hg]
    exact he
  · intro hm hv
    have he := exec_store16 (f := .accStore off) (m := .direct off) hl rfl hm ea eb
    rw [h.storeWord_odd ho ha hb hu (MoveForm16.source s (.accStore off)) hv] at he
    exact he

/-- A load of DS from a register: the descriptor after the first entry, its Accessed bit after the second. -/
theorem movDs_shared (r : Reg16) {d : Desc} (hl : LockAllowed s) (hp : s.msw.pe = true) (h : Shared s acts (acts' :: rest))
    (hn : 4 ≤ (s.reg16 r).toNat) (hu : u = afterOthers s acts (acts' :: rest)) (hd : u.fetchDesc (s.reg16 r) = some d)
    (hload : DataLoadable s (s.reg16 r) d) (hk : s.kindAt d.accessByte = .ram) (hv : v = afterOthers u acts' rest) :
    exec (.movDsEw (.reg r)) s = .next (past ({ v with
      mem := v.mem.write d.accessByte (v.mem.read d.accessByte ||| 1) }.setSeg .ds (descriptorSeg (s.reg16 r) d))) := by
  obtain ⟨hr, hq, hpr⟩ := hload
  have hs : Shared u acts' rest := hu ▸ h.second
  have hkv : v.kindAt d.accessByte = .ram := by rw [hv, afterOthers_kindAt, hu, afterOthers_kindAt, hk]
  have hset : u.setAccessed d = { v with mem := v.mem.write d.accessByte (v.mem.read d.accessByte ||| 1) } := by
    have hlook : v.peek8 d.addr 5 = v.mem.read d.accessByte := State.look_memory (.inl hkv)
    unfold State.setAccessed
    rw [hs.others, ← hv, hlook]
    exact State.store_ram (State.dead_unreset (hv ▸ hs.unreset.afterActs _ _)) hkv _
  have ho : s.others = u := h.others.trans hu.symm
  have hf : fetchOr s (s.reg16 r) (trapGp (s.reg16 r)) = .ok (d, u) := by
    rw [fetchOr, State.readTable, ho, hd]
    rfl
  refine runInstr_of_ok hl ?_
  show afterReads s (loadDataSeg s .ds (s.reg16 r)) = _
  simp only [loadDataSeg, hp, nullSel_eq_false hn, hf, afterReads, require, hr, (dataPrivilege_iff _ _ _).2 hq, hpr, bind, Except.bind,
    hset, Desc.cache_eq]
  rfl

/-! ### The end of a lock -/

theorem State.release_locked (h : s.bus.lock ≠ .free) : s.release = unlocked s := if_neg h

/-- A delivery ends a bus lock first, whatever comes of it. -/
theorem deliver_unlocked (h : s.bus.lock ≠ .free) (n : Byte) (retIp code : Word) (kind : EventKind) :
    deliver s n retIp kind code = deliver (unlocked s) n retIp kind code := by
  have e : (unlocked s).release = s.release := by
    rw [State.release_locked h, State.release_free]
    exact actAll_lock _ _
  unfold deliver
  rw [e]

theorem unlocked_onBus (s : State) : OnBus s (unlocked s) := OnBus.trans (t := { s with bus := _ }) rfl (actAll_onBus _ _)

theorem State.accept_locked (h : s.bus.lock ≠ .free) (g : Signals) (rest : List Signals) :
    s.accept g rest = { s with
      bus := { s.bus with held := s.bus.held ++ g.acts }
      inputs := rest
      pins := g.pins
      nmiPending := s.nmiPending || g.nmi
      int9Pending := s.int9Pending || g.overrun } := by
  unfold State.accept State.hear
  rw [if_neg h]

theorem endInstr_unlocks (before : Memory) (hp : s.pfx.count = 0) (ht : s.tfAtStart = false) (hn : s.nmiPending = false)
    (h9 : s.int9Pending = false) (hi : s.pins.intr = none) (hm : s.lmsw = .clear) (hl : s.bus.lock = .active) :
    endInstr before s = { unlocked (s.noteStores before) with stiShadow := false } := by
  have hb := unlocked_onBus (s.noteStores before)
  have he : (s.noteStores before).endLock = unlocked (s.noteStores before) := by
    unfold State.endLock
    rw [if_neg (by simp [hl]), State.release_locked (by simp [hl])]
  rw [endInstr_of_boundary before hp, he, State.flagHazard_of_clear (hb.lmsw.trans hm),
    boundaryEvents_of_none (hb.tfAtStart.trans ht) (hb.nmiPending.trans hn) (hb.int9Pending.trans h9)
      ((congrArg Pins.intr hb.pins).trans hi)]

end

end Sys2Proof.Machine
end

section
/-! PROOF of O59: what other agents are to do between bus cycles does not matter to an operation whose cycles are locked. -/

namespace Sys2Proof.Machine

section
variable {s t : State} (acts : List (List BusAct))

/-! ### Cycles that nothing can come before -/

/-- The bus is locked, and no RESET falls into the step. -/
structure Held (s : State) : Prop where
  unreset : Unreset s
  locked : s.bus.lock ≠ .free

theorem Held.of_unreset (h : Unreset s) : Held (s.withLock .active) := ⟨h, nofun⟩

theorem Held.waiting (h : Held s) : Held (withBetween s acts) := ⟨h.unreset, h.locked⟩

theorem Held.others (h : Held s) : s.others = s := State.others_locked h.unreset h.locked

theorem Held.gap (h : Held s) (a : Nat) : s.gap a = s := by
  unfold State.gap
  rw [h.others, ite_self]

theorem Held.load (h : Held s) (a : Nat) : Held (s.load a).2 :=
  ⟨h.unreset.load a, (State.load_lock s a).symm ▸ h.locked⟩

theorem Held.store (h : Held s) (a : Nat) (v : Byte) : Held (s.store a v) :=
  ⟨h.unreset.store a v, (State.store_lock s a v).symm ▸ h.locked⟩

/-! ### A byte at an address -/

theorem State.load_withBetween (s : State) (a : Nat) :
    (withBetween s acts).load a = ((s.load a).1, withBetween (s.load a).2 acts) := by
  have hd : (withBetween s acts).deviceRead a = ((s.deviceRead a).1, withBetween (s.deviceRead a).2 acts) := by
    unfold State.deviceRead
    rw [show (withBetween s acts).bus.feed = s.bus.feed from rfl]
    cases takeFeed a s.bus.feed <;> rfl
  unfold State.load
  rw [hd, show (withBetween s acts).dead = s.dead from rfl, show (withBetween s acts).kindAt a = s.kindAt a from rfl]
  cases s.dead with
  | true => rfl
  | false => cases s.kindAt a <;> rfl

theorem State.store_withBetween (s : State) (a : Nat) (v : Byte) :
    (withBetween s acts).store a v = withBetween (s.store a v) acts := by
  unfold State.store
  rw [show (withBetween s acts).dead = s.dead from rfl, show (withBetween s acts).kindAt a = s.kindAt a from rfl]
  cases s.dead with
  | true => rfl
  | false => cases s.kindAt a <;> rfl

/-! ### Bytes and words of a segment -/

theorem Held.loadWord (h : Held s) (a b : Nat) :
    s.loadWord a b = (mkWord (s.load a).1 ((s.load a).2.load b).1, ((s.load a).2.load b).2) := by
  unfold State.loadWord
  rw [h.others]
  dsimp only
  rw [(h.load a).gap]

theorem Held.storeWord (h : Held s) (a b : Nat) (v : Word) :
    s.storeWord a b v = (s.store a (loByte v)).store b (hiByte v) := by
  unfold State.storeWord
  rw [h.others, (h.store a _).gap]

theorem Held.segGet8_withBetween (h : Held s) (r : SegReg) (off : Word) :
    (withBetween s acts).segGet8 r off = ((s.segGet8 r off).1, withBetween (s.segGet8 r off).2 acts) := by
  unfold State.segGet8
  rw [h.others, (h.waiting acts).others, ← State.load_withBetween]
  rfl

theorem Held.segGet16_withBetween (h : Held s) (r : SegReg) (off : Word) :
    (withBetween s acts).segGet16 r off = ((s.segGet16 r off).1, withBetween (s.segGet16 r off).2 acts) := by
  unfold State.segGet16
  rw [h.loadWord, (h.waiting acts).loadWord, State.load_withBetween, State.load_withBetween]
  rfl

theorem Held.segPut8_withBetween (h : Held s) (r : SegReg) (off : Word) (v : Byte) :
    (withBetween s acts).segPut8 r off 0 v = withBetween (s.segPut8 r off 0 v) acts := by
  unfold State.segPut8
  rw [h.others, (h.waiting acts).others, ← State.store_withBetween]
  rfl

theorem Held.segPut16_withBetween (h : Held s) (r : SegReg) (off v : Word) :
    (withBetween s acts).segPut16 r off v = withBetween (s.segPut16 r off v) acts := by
  unfold State.segPut16
  rw [h.storeWord, (h.waiting acts).storeWord, State.store_withBetween, State.store_withBetween]
  rfl

theorem Held.segGet8 (h : Held s) (r : SegReg) (off : Word) : Held (s.segGet8 r off).2 := by
  unfold State.segGet8
  rw [h.others]
  exact h.load _

theorem Held.segGet16 (h : Held s) (r : SegReg) (off : Word) : Held (s.segGet16 r off).2 := by
  unfold State.segGet16
  rw [h.loadWord]
  exact (h.load _).load _

/-! ### Ports -/

theorem State.portByte_withBetween (s : State) (p : Word) :
    (withBetween s acts).portByte p = ((s.portByte p).1, withBetween (s.portByte p).2 acts) := by
  unfold State.portByte
  rw [show (withBetween s acts).dead = s.dead from rfl, show (withBetween s acts).portFeed = s.portFeed from rfl]
  cases s.dead with
  | true => rfl
  | false => cases takeFeed p s.portFeed <;> rfl

theorem State.record_withBetween (s : State) (e : PortEvent) : (withBetween s acts).record e = withBetween (s.record e) acts := by
  unfold State.record
  rw [show (withBetween s acts).dead = s.dead from rfl]
  cases s.dead <;> rfl

theorem Held.record (h : Held s) (e : PortEvent) : Held (s.record e) := by
  unfold State.record
  split
  · exact h
  · exact ⟨h.unreset, h.locked⟩

theorem Held.portByte (h : Held s) (p : Word) : Held (s.portByte p).2 := by
  unfold State.portByte
  rw [State.dead_unreset h.unreset]
  cases takeFeed p s.portFeed <;> exact ⟨h.unreset, h.locked⟩

/-- Where no RESET can fall, the two cycles of a word at an odd port are one. -/
theorem Held.portGap (h : Held s) (p : Word) (e : PortEvent) : s.portGap p e = s := by
  have hd := State.dead_unreset h.unreset
  have hr : s.record e = { s with portLog := s.portLog ++ [e] } := by
    unfold State.record
    rw [hd]
    rfl
  unfold State.portGap
  rw [State.cycle_unreset (h.record e).unreset]
  dsimp only
  rw [State.dead_unreset (h.record e).unreset, hr]
  exact ite_self s

theorem Held.portRead8_withBetween (h : Held s) (p : Word) :
    (withBetween s acts).portRead8 p = ((s.portRead8 p).1, withBetween (s.portRead8 p).2 acts) := by
  simp only [State.portRead8, State.cycle_unreset h.unreset, State.cycle_unreset (h.waiting acts).unreset, State.portByte_withBetween,
    State.record_withBetween]

theorem Held.portRead16_withBetween (h : Held s) (p : Word) :
    (withBetween s acts).portRead16 p = ((s.portRead16 p).1, withBetween (s.portRead16 p).2 acts) := by
  simp only [State.portRead16, State.cycle_unreset h.unreset, State.cycle_unreset (h.waiting acts).unreset, State.portByte_withBetween,
    State.record_withBetween, (h.portByte p).portGap, ((h.portByte p).waiting acts).portGap]

theorem Held.portWrite8_withBetween (h : Held s) (p : Word) (v : Byte) :
    (withBetween s acts).portWrite8 p v = withBetween (s.portWrite8 p v) acts := by
  simp only [State.portWrite8, State.cycle_unreset h.unreset, State.cycle_unreset (h.waiting acts).unreset, State.record_withBetween]

theorem Held.portWrite16_withBetween (h : Held s) (p v : Word) :
    (withBetween s acts).portWrite16 p v = withBetween (s.portWrite16 p v) acts := by
  simp only [State.portWrite16, State.cycle_unreset h.unreset, State.cycle_unreset (h.waiting acts).unreset, State.record_withBetween,
    h.portGap, (h.waiting acts).portGap]

/-! ### Elements -/

variable (w : Elem)

theorem Held.elemGet_withBetween (h : Held s) (r : SegReg) (off : Word) :
    w.get (withBetween s acts) r off = ((w.get s r off).1, withBetween (w.get s r off).2 acts) := by
  cases w with
  | byte => simp only [Elem.get, h.segGet8_withBetween]
  | word => exact h.segGet16_withBetween acts r off

theorem Held.elemGet (h : Held s) (r : SegReg) (off : Word) : Held (w.get s r off).2 := by
  cases w with
  | byte => exact h.segGet8 r off
  | word => exact h.segGet16 r off

theorem Held.elemPut_withBetween (h : Held s) (r : SegReg) (off v : Word) :
    w.put (withBetween s acts) r off v = withBetween (w.put s r off v) acts := by
  cases w with
  | byte => exact h.segPut8_withBetween acts r off _
  | word => exact h.segPut16_withBetween acts r off v

theorem Held.elemPortRead_withBetween (h : Held s) :
    w.portRead (withBetween s acts) = ((w.portRead s).1, withBetween (w.portRead s).2 acts) := by
  cases w with
  | byte =>
    unfold Elem.portRead
    rw [show (withBetween s acts).gpr = s.gpr from rfl, h.portRead8_withBetween]
  | word => exact h.portRead16_withBetween acts _

theorem Held.elemPortRead (h : Held s) : Held (w.portRead s).2 := by
  cases w with
  | byte =>
    simp only [Elem.portRead, State.portRead8, State.cycle_unreset h.unreset]
    exact (h.portByte _).record _
  | word =>
    simp only [Elem.portRead, State.portRead16, State.cycle_unreset h.unreset, (h.portByte _).portGap]
    exact ((h.portByte _).portByte _).record _

theorem Held.elemPortWrite_withBetween (h : Held s) (v : Word) :
    w.portWrite (withBetween s acts) v = withBetween (w.portWrite s v) acts := by
  cases w with
  | byte => exact h.portWrite8_withBetween acts _ _
  | word => exact h.portWrite16_withBetween acts _ _

/-! ### Operations that complete -/

/-- An operation completes from `s`, and comes to the same whatever is to come between its bus cycles. -/
def Undisturbed (op : State → Except Trap State) (s : State) : Prop :=
  ∃ t, op s = .ok t ∧ ∀ acts, op (withBetween s acts) = .ok (withBetween t acts)

theorem Held.srcGet_withBetween (h : Held s) : srcGet w (withBetween s acts) = ((srcGet w s).1, withBetween (srcGet w s).2 acts) :=
  h.elemGet_withBetween acts w _ _

theorem Held.srcGet (h : Held s) : Held (srcGet w s).2 := h.elemGet w _ _

theorem srcCheck_of_accessible (h : Accessible s (sourceSeg s) s.gpr.si w.size .read) : srcCheck w s = .ok () := segCheck_of_accessible h

theorem dstCheck_of_accessible {k : Access} (h : Accessible s .es s.gpr.di w.size k) : dstCheck w s k = .ok () :=
  segCheck_of_accessible h

variable {w}

theorem movsOnce_of_accessible (hs : Accessible s (sourceSeg s) s.gpr.si w.size .read) (hd : Accessible s .es s.gpr.di w.size .write) :
    movsOnce w s = .ok (((w.put (srcGet w s).2 .es s.gpr.di (srcGet w s).1).stepSi w).stepDi w) := by
  unfold movsOnce
  rw [srcCheck_of_accessible w hs, dstCheck_of_accessible w hd]
  rfl

theorem insOnce_of_allowed (hi : IoAllowed s) (hd : Accessible s .es s.gpr.di w.size .write) :
    insOnce w s = .ok ((w.put (w.portRead s).2 .es s.gpr.di (w.portRead s).1).stepDi w) := by
  unfold insOnce
  rw [ioplGuard_of_allowed hi, dstCheck_of_accessible w hd]
  rfl

theorem outsOnce_of_allowed (hi : IoAllowed s) (hs : Accessible s (sourceSeg s) s.gpr.si w.size .read) :
    outsOnce w s = .ok ((w.portWrite (srcGet w s).2 (srcGet w s).1).stepSi w) := by
  unfold outsOnce
  rw [ioplGuard_of_allowed hi, srcCheck_of_accessible w hs]
  rfl

theorem movsOnce_undisturbed (h : Held s) (hs : Accessible s (sourceSeg s) s.gpr.si w.size .read)
    (hd : Accessible s .es s.gpr.di w.size .write) : Undisturbed (movsOnce w) s := by
  refine ⟨_, movsOnce_of_accessible hs hd, fun acts => (movsOnce_of_accessible (s := withBetween s acts) hs hd).trans ?_⟩
  rw [h.srcGet_withBetween, (h.srcGet w).elemPut_withBetween]
  rfl

theorem insOnce_undisturbed (h : Held s) (hi : IoAllowed s) (hd : Accessible s .es s.gpr.di w.size .write) :
    Undisturbed (insOnce w) s := by
  refine ⟨_, insOnce_of_allowed hi hd, fun acts => (insOnce_of_allowed (s := withBetween s acts) hi hd).trans ?_⟩
  rw [h.elemPortRead_withBetween, (h.elemPortRead w).elemPut_withBetween]
  rfl

theorem outsOnce_undisturbed (h : Held s) (hi : IoAllowed s) (hs : Accessible s (sourceSeg s) s.gpr.si w.size .read) :
    Undisturbed (outsOnce w) s := by
  refine ⟨_, outsOnce_of_allowed hi hs, fun acts => (outsOnce_of_allowed (s := withBetween s acts) hi hs).trans ?_⟩
  rw [h.srcGet_withBetween, (h.srcGet w).elemPortWrite_withBetween]
  rfl

/-! ### A lock around an operation -/

theorem locked_undisturbed {op : State → Except Trap State} (h : Undisturbed op (s.withLock .active)) : Undisturbed (locked op) s := by
  obtain ⟨t, ht, hb⟩ := h
  refine ⟨t.withLock s.bus.lock, ?_, fun acts => ?_⟩
  · unfold locked
    rw [ht]
  · have e : op ((withBetween s acts).withLock .active) = .ok (withBetween t acts) := hb acts
    unfold locked
    rw [e]
    rfl

theorem runInstr_undisturbed {op : State → Except Trap State} (hl : LockAllowed s) (h : Undisturbed op s)
    (he : runInstr s (op s) = .next t) :
    runInstr (withBetween s acts) (op (withBetween s acts)) = .next (withBetween t acts) := by
  obtain ⟨u, hu, hb⟩ := h
  rw [runInstr_of_ok hl hu, Host.Outcome.next.injEq] at he
  rw [runInstr_of_ok (s := withBetween s acts) hl (hb acts), ← he]
  rfl

theorem stringOp_undisturbed {once : State → Except Trap State} (h : Undisturbed (locked once) s) :
    Undisturbed (stringOp false true once) s := by
  obtain ⟨u, hu, hb⟩ := h
  unfold Undisturbed stringOp
  simp only [if_true, hu, hb, bind, Except.bind, show ∀ acts, (withBetween s acts).pfx = s.pfx from fun _ => rfl,
    show ∀ acts, (withBetween s acts).gpr = s.gpr from fun _ => rfl]
  cases s.pfx.rep with
  | none => exact ⟨_, rfl, fun _ => rfl⟩
  | some k =>
    by_cases hc : s.gpr.cx = 0
    · simp only [hc, if_true]
      exact ⟨_, rfl, fun _ => rfl⟩
    · simp only [hc, if_false]
      refine ⟨_, rfl, fun acts => ?_⟩
      unfold State.endIteration
      rw [apply_ite (withBetween · acts)]
      rfl

theorem runString_undisturbed {once : State → Except Trap State} (hl : LockAllowed s) (hp : s.pfx.lock = true)
    (h : Undisturbed once (s.withLock .active)) (he : runString false true once s = .next t) :
    runString false true once (withBetween s acts) = .next (withBetween t acts) := by
  obtain ⟨u, hu, hb⟩ := stringOp_undisturbed (locked_undisturbed h)
  have run : ∀ x y : State, LockAllowed x → x.pfx.lock = true → stringOp false true once x = .ok y →
      runString false true once x = .next y := fun x y hx hpx hxy => by
    unfold runString
    rw [hpx, lockGuard_of_allowed hx]
    simp only [bind, Except.bind, Bool.and_self, hxy]
  rw [run s u hl hp hu, Host.Outcome.next.injEq] at he
  rw [run (withBetween s acts) _ hl hp (hb acts), he]

/-! ### XCHG -/

/-- The operation that XCHG of bytes locks. -/
def swapRm8 (e : Rm8) (r : Reg8) (s : State) : Except Trap State := do
  let v ← loadRm8 s e .write
  .ok ((storeRm8 v.2 e (s.reg8 r)).setReg8 r v.1)

theorem xchgRm8_eq (e : Rm8) (r : Reg8) : xchgRm8 e r = locked (swapRm8 e r) := rfl

theorem swapRm8_of_checked {e : Rm8} (r : Reg8) (h : checkRm8 s e .write = .ok ()) :
    swapRm8 e r s = .ok ((storeRm8 (s.getRm8 e).2 e (s.reg8 r)).setReg8 r (s.getRm8 e).1) := by
  unfold swapRm8 loadRm8
  rw [h]
  rfl

theorem Held.getRm8_withBetween (h : Held s) (e : Rm8) :
    (withBetween s acts).getRm8 e = ((s.getRm8 e).1, withBetween (s.getRm8 e).2 acts) := by
  cases e with
  | reg d => rfl
  | mem m => exact h.segGet8_withBetween acts _ _

theorem Held.getRm8 (h : Held s) (e : Rm8) : Held (s.getRm8 e).2 := by
  cases e with
  | reg d => exact h
  | mem m => exact h.segGet8 _ _

theorem Held.storeRm8_withBetween (h : Held s) (e : Rm8) (v : Byte) :
    storeRm8 (withBetween s acts) e v = withBetween (storeRm8 s e v) acts := by
  cases e with
  | reg d => rfl
  | mem m => exact h.segPut8_withBetween acts _ _ v

theorem xchgRm8_undisturbed {e : Rm8} (r : Reg8) (h : Rm8Ok s e .write) : Undisturbed (xchgRm8 e r) s := by
  rw [xchgRm8_eq]
  refine locked_undisturbed ?_
  have hc : checkRm8 (s.withLock .active) e .write = .ok () := checkRm8_of_ok (s := s.withLock .active) h
  cases e with
  | reg d => exact ⟨_, rfl, fun _ => rfl⟩
  | mem m =>
    obtain ⟨_, alone, _⟩ := h
    have hh : Held (s.withLock .active) := .of_unreset alone.2
    refine ⟨_, swapRm8_of_checked r hc, fun acts => ?_⟩
    rw [swapRm8_of_checked (s := withBetween (s.withLock .active) acts) (e := .mem m) r hc]
    rw [hh.getRm8_withBetween, (hh.getRm8 _).storeRm8_withBetween]
    rfl

/-- The operation that XCHG of words locks. -/
def swapRm16 (e : Rm16) (r : Reg16) (s : State) : Except Trap State := do
  let v ← loadRm16 s e .write
  .ok ((storeRm16 v.2 e (s.reg16 r)).setReg16 r v.1)

theorem xchgRm16_eq (e : Rm16) (r : Reg16) : xchgRm16 e r = locked (swapRm16 e r) := rfl

theorem swapRm16_of_checked {e : Rm16} (r : Reg16) (h : checkRm16 s e .write = .ok ()) :
    swapRm16 e r s = .ok ((storeRm16 (s.getRm16 e).2 e (s.reg16 r)).setReg16 r (s.getRm16 e).1) := by
  unfold swapRm16 loadRm16
  rw [h]
  rfl

theorem Held.getRm16_withBetween (h : Held s) (e : Rm16) :
    (withBetween s acts).getRm16 e = ((s.getRm16 e).1, withBetween (s.getRm16 e).2 acts) := by
  cases e with
  | reg d => rfl
  | mem m => exact h.segGet16_withBetween acts _ _

theorem Held.getRm16 (h : Held s) (e : Rm16) : Held (s.getRm16 e).2 := by
  cases e with
  | reg d => exact h
  | mem m => exact h.segGet16 _ _

theorem Held.storeRm16_withBetween (h : Held s) (e : Rm16) (v : Word) :
    storeRm16 (withBetween s acts) e v = withBetween (storeRm16 s e v) acts := by
  cases e with
  | reg d => rfl
  | mem m => exact h.segPut16_withBetween acts _ _ v

theorem xchgRm16_undisturbed {e : Rm16} (r : Reg16) (h : Rm16Ok s e .write) : Undisturbed (xchgRm16 e r) s := by
  rw [xchgRm16_eq]
  refine locked_undisturbed ?_
  have hc : checkRm16 (s.withLock .active) e .write = .ok () := checkRm16_of_ok (s := s.withLock .active) h
  cases e with
  | reg d => exact ⟨_, rfl, fun _ => rfl⟩
  | mem m =>
    obtain ⟨_, alone, _⟩ := h
    have hh : Held (s.withLock .active) := .of_unreset alone.2
    refine ⟨_, swapRm16_of_checked r hc, fun acts => ?_⟩
    rw [swapRm16_of_checked (s := withBetween (s.withLock .active) acts) (e := .mem m) r hc]
    rw [hh.getRm16_withBetween, (hh.getRm16 _).storeRm16_withBetween]
    rfl

/-- An instruction that begins while a repetition keeps the lock goes on with it. -/
theorem State.beginInstr_resumes_lock (hp : s.pfx.count = 0) (hl : s.bus.lock = .kept) : s.beginInstr.bus.lock = .active := by
  unfold State.beginInstr
  rw [if_pos (show s.pfx.count = 0 ∧ s.bus.lock = .kept from ⟨hp, hl⟩)]

/-! ### The instructions -/

theorem exec_undisturbed {i : Instr} (hl : LockAllowed s) (hc : LockedCycles s i) (he : exec i s = .next t) :
    exec i (withBetween s acts) = .next (withBetween t acts) := by
  rcases hc with ⟨e, r, rfl, h⟩ | ⟨e, r, rfl, h⟩ | ⟨k, w, rfl, hk, hp, h⟩
  · exact runInstr_undisturbed acts hl (xchgRm8_undisturbed r h) he
  · exact runInstr_undisturbed acts hl (xchgRm16_undisturbed r h) he
  · cases k with
    | movs =>
      obtain ⟨⟨hs, alone, _⟩, hd, _⟩ := h
      have hu := movsOnce_undisturbed (w := w) (.of_unreset alone.2) hs hd
      cases w <;> exact runString_undisturbed acts hl hp hu he
    | ins =>
      obtain ⟨hi, hd, alone, _⟩ := h
      have hu := insOnce_undisturbed (w := w) (.of_unreset alone.2) hi hd
      cases w <;> exact runString_undisturbed acts hl hp hu he
    | outs =>
      obtain ⟨hi, hs, alone, _⟩ := h
      have hu := outsOnce_undisturbed (w := w) (.of_unreset alone.2) hi hs
      cases w <;> exact runString_undisturbed acts hl hp hu he
    | cmps | scas | lods | stos => cases hk

end

/-- Settles O59: the cycles of LDS, MOV and a load of DS one by one, each with the entry that comes before it; a locked operation takes no
entry, since `others` does nothing while the bus is held; and `release` is what ends a lock, at a boundary and in a delivery. -/
theorem busSharing : Obligations.BusSharing := by
  unfold Obligations.BusSharing
  refine ⟨?_, ?_, ?_, ?_, ?_, ?_, ?_, ?_⟩
  · intro r m s u v acts acts' rest hl hp hr hf hb hm hu hv
    exact lds_shared r m hl hp ⟨hr, hf, hb⟩ hm hu hv
  · intro off s u v a b acts acts' rest hl hr hf hb ea eb ho ha hk hu
    exact movAx_shared hl ⟨hr, hf, hb⟩ ea eb ho ha hk hu
  · intro r s u v d acts acts' rest hl hp hr hf hb hn hu hd hload hk hv
    exact movDs_shared r hl hp ⟨hr, hf, hb⟩ hn hu hd hload hk hv
  · intro i s t acts hl hc he
    exact exec_undisturbed acts hl hc he
  · intro s g rest h
    exact State.accept_locked h g rest
  · intro s v retIp code kind h
    exact deliver_unlocked h v retIp code kind
  · intro before s hp _ ht hn h9 hi hm hl
    exact endInstr_unlocks before hp ht hn h9 hi hm hl
  · intro s hp hl
    exact State.beginInstr_resumes_lock hp hl

end Sys2Proof.Machine
end

section
/-! PROOF of O5 and O7: decoding gives back what was encoded.  One lemma for each way the bytes of an instruction are laid out
(30_encoding.md R200, R202): what follows its opcode byte, then what follows its ModRM byte. -/

namespace Sys2Proof

section
variable {op b : Byte} {l : Layout} {i : Instr} {rest : List Byte}

/-! ### The layout of an opcode -/

/-- The bytes after a one-byte opcode are read as its layout says. -/
theorem decode_cons (h : layout op = l) (ho : l ≠ .twoByte) : decode (op :: rest) = decodeBody rest l := by
  cases l with
  | twoByte => exact absurd rfl ho
  | _ => simp only [decode, h]

/-- After 0FH the second byte says what follows (R242). -/
theorem decode_two : decode (0x0F :: b :: rest) = decodeBody rest (layoutTwo b) := rfl

/-- The ESC opcodes hold the first three bits of the processor extension's (R532). -/
theorem layout_esc (x : BitVec 3) : layout (plusReg 0xD8 x) = .modrm fun reg => .esc (.esc x reg) := by
  have hx : x = 0 ∨ x = 1 ∨ x = 2 ∨ x = 3 ∨ x = 4 ∨ x = 5 ∨ x = 6 ∨ x = 7 := by revert x; decide
  rcases hx with rfl | rfl | rfl | rfl | rfl | rfl | rfl | rfl <;> rfl

/-- A second byte that has no instruction is an undefined opcode (R246). -/
theorem layoutTwo_undefined (h : definedSecondByte b = false) : layoutTwo b = .op (.undef0F b) := by
  have hb : b = 4 ∨ b = 5 ∨ 7 ≤ b.toNat := by revert b; decide
  rcases hb with rfl | rfl | hb
  · rfl
  · rfl
  · exact List.getD_eq_default _ _ hb

/-! ### What follows the opcode -/

theorem decode_op (h : layout op = .op i) : decode ([op] ++ rest) = .ok (i, rest) := decode_cons h nofun

theorem decode_imm8 {f : Byte → Instr} (h : layout op = .imm8 f) (v : Byte) : decode ([op, v] ++ rest) = .ok (f v, rest) :=
  decode_cons h nofun

theorem decode_imm16 {f : Word → Instr} (h : layout op = .imm16 f) (w : Word) :
    decode (op :: encodeWord w ++ rest) = .ok (f w, rest) :=
  (decode_cons h nofun).trans (readImm16_encodeWord f w rest)

theorem decode_imm16imm8 {f : Word → Byte → Instr} (h : layout op = .imm16imm8 f) (w : Word) (v : Byte) :
    decode (op :: encodeWord w ++ [v] ++ rest) = .ok (f w v, rest) :=
  (decode_cons h nofun).trans (by simp [encodeWord, decodeBody])

theorem decode_ptr {f : Word → Word → Instr} (h : layout op = .ptr f) (off sel : Word) :
    decode (op :: encodeWord off ++ encodeWord sel ++ rest) = .ok (f off sel, rest) :=
  (decode_cons h nofun).trans (by simp [encodeWord, decodeBody])

/-- The second byte of D4H and D5H that is not 0AH makes the opcode undefined (R341, R342). -/
theorem decode_adjust {aad : Bool} (h : layout op = .adjust aad) {v : Byte} (hv : v ≠ 0x0A) :
    decode ([op, v] ++ rest) = .ok (.undefD4 aad v, rest) :=
  (decode_cons h nofun).trans (congrArg (fun x : Instr => Except.ok (x, rest)) (if_neg hv))

/-! ### What follows a ModRM byte -/

variable {f : BitVec 3 → RmForm} {reg : BitVec 3} {imm : Byte} {w : Word}

/-- The reg field of an encoded operand picks the form, which finds the operand after it. -/
theorem decodeBody_encodeRm {R : Type} {ofBits : BitVec 3 → R} {bits : R → BitVec 3} (h : ∀ r, ofBits (bits r) = r) {e : RM R}
    (hw : e.wf = true) (tail : List Byte) :
    ∃ m more, decodeBody (encodeRm bits reg e ++ tail) (.modrm f) = decodeRm m more (f reg) ∧
      readRm ofBits m more = .ok (e, tail) := by
  obtain ⟨m, more, hcons, hreg, hread⟩ := readRm_encodeRm h reg e hw tail
  exact ⟨m, more, by rw [hcons, ← hreg]; rfl, hread⟩

/-- An undefined extension: any ModRM byte with its reg field stands for it (R235). -/
theorem decodeBody_undef (hf : f reg = .undef i) (md : BitVec 2) (rm : BitVec 3) :
    decodeBody ([modrmByte md reg rm] ++ rest) (.modrm f) = .ok (i, rest) := by
  show decodeRm _ rest (f (regField (modrmByte md reg rm))) = _
  rw [regField_modrmByte, hf]
  rfl

theorem decodeBody_e8 {g : Rm8 → Instr} (hf : f reg = .e8 g) {e : Rm8} (hw : e.wf = true) :
    decodeBody (encodeRm Reg8.bits reg e ++ rest) (.modrm f) = .ok (g e, rest) := by
  obtain ⟨m, more, hd, hr⟩ := decodeBody_encodeRm (f := f) Reg8.ofBits_bits hw rest
  rw [hd, hf, decodeRm, hr]

theorem decodeBody_e16 {g : Rm16 → Instr} (hf : f reg = .e16 g) {e : Rm16} (hw : e.wf = true) :
    decodeBody (encodeRm Reg16.bits reg e ++ rest) (.modrm f) = .ok (g e, rest) := by
  obtain ⟨m, more, hd, hr⟩ := decodeBody_encodeRm (f := f) Reg16.ofBits_bits hw rest
  rw [hd, hf, decodeRm, hr]

theorem decodeBody_esc {g : RM (BitVec 3) → Instr} (hf : f reg = .esc g) {e : RM (BitVec 3)} (hw : e.wf = true) :
    decodeBody (encodeRm id reg e ++ rest) (.modrm f) = .ok (g e, rest) := by
  obtain ⟨m, more, hd, hr⟩ := decodeBody_encodeRm (f := f) (ofBits := id) (bits := id) (fun _ => rfl) hw rest
  rw [hd, hf, decodeRm, hr]

theorem decodeBody_e8i8 {g : Rm8 → Byte → Instr} (hf : f reg = .e8i8 g) {e : Rm8} (hw : e.wf = true) :
    decodeBody (encodeRm Reg8.bits reg e ++ ([imm] ++ rest)) (.modrm f) = .ok (g e imm, rest) := by
  obtain ⟨m, more, hd, hr⟩ := decodeBody_encodeRm (f := f) Reg8.ofBits_bits hw ([imm] ++ rest)
  rw [hd, hf, decodeRm, hr]
  rfl

theorem decodeBody_e16i8 {g : Rm16 → Byte → Instr} (hf : f reg = .e16i8 g) {e : Rm16} (hw : e.wf = true) :
    decodeBody (encodeRm Reg16.bits reg e ++ ([imm] ++ rest)) (.modrm f) = .ok (g e imm, rest) := by
  obtain ⟨m, more, hd, hr⟩ := decodeBody_encodeRm (f := f) Reg16.ofBits_bits hw ([imm] ++ rest)
  rw [hd, hf, decodeRm, hr]
  rfl

theorem decodeBody_e16i16 {g : Rm16 → Word → Instr} (hf : f reg = .e16i16 g) {e : Rm16} (hw : e.wf = true) :
    decodeBody (encodeRm Reg16.bits reg e ++ (encodeWord w ++ rest)) (.modrm f) = .ok (g e w, rest) := by
  obtain ⟨m, more, hd, hr⟩ := decodeBody_encodeRm (f := f) Reg16.ofBits_bits hw (encodeWord w ++ rest)
  rw [hd, hf, decodeRm, hr]
  exact readImm16_encodeWord (g e) w rest

/-! ### A one-byte opcode with an operand -/

theorem decode_undef (h : layout op = .modrm f) (hf : f reg = .undef i) :
    decode ([op, modrmByte 0 reg 0] ++ rest) = .ok (i, rest) := (decode_cons h nofun).trans (decodeBody_undef hf 0 0)

theorem decode_e8 {g : Rm8 → Instr} (h : layout op = .modrm f) (hf : f reg = .e8 g) {e : Rm8} (hw : e.wf = true) :
    decode (op :: encodeRm Reg8.bits reg e ++ rest) = .ok (g e, rest) := (decode_cons h nofun).trans (decodeBody_e8 hf hw)

theorem decode_e16 {g : Rm16 → Instr} (h : layout op = .modrm f) (hf : f reg = .e16 g) {e : Rm16} (hw : e.wf = true) :
    decode (op :: encodeRm Reg16.bits reg e ++ rest) = .ok (g e, rest) := (decode_cons h nofun).trans (decodeBody_e16 hf hw)

theorem decode_e8i8 {g : Rm8 → Byte → Instr} (h : layout op = .modrm f) (hf : f reg = .e8i8 g) {e : Rm8} (hw : e.wf = true) :
    decode (op :: encodeRm Reg8.bits reg e ++ [imm] ++ rest) = .ok (g e imm, rest) := by
  rw [List.append_assoc]
  exact (decode_cons h nofun).trans (decodeBody_e8i8 hf hw)

theorem decode_e16i8 {g : Rm16 → Byte → Instr} (h : layout op = .modrm f) (hf : f reg = .e16i8 g) {e : Rm16} (hw : e.wf = true) :
    decode (op :: encodeRm Reg16.bits reg e ++ [imm] ++ rest) = .ok (g e imm, rest) := by
  rw [List.append_assoc]
  exact (decode_cons h nofun).trans (decodeBody_e16i8 hf hw)

theorem decode_e16i16 {g : Rm16 → Word → Instr} (h : layout op = .modrm f) (hf : f reg = .e16i16 g) {e : Rm16} (hw : e.wf = true) :
    decode (op :: encodeRm Reg16.bits reg e ++ encodeWord w ++ rest) = .ok (g e w, rest) := by
  rw [List.append_assoc]
  exact (decode_cons h nofun).trans (decodeBody_e16i16 hf hw)

end

/-! ### Every instruction -/

/-- Settles O5: each instruction by the lemma for the way its bytes are laid out; the tables of the decoder have at its opcode, and at
its reg field, what the lemma asks for. -/
theorem decodeEncode : Obligations.DecodeEncode := by
  unfold Obligations.DecodeEncode
  intro i rest hw
  cases i with
  | pushEs | popEs | pushCs | pushSs | popSs | pushDs | popDs | segEs | segCs | segSs | segDs | lock | repne | rep | daa | das
    | aaa | aas | pusha | popa | undef64 | undef65 | undef66 | undef67 | insb | insw | outsb | outsw | undef82 | nop | cbw
    | cwd | wait | pushf | popf | sahf | lahf | movsb | movsw | cmpsb | cmpsw | stosb | stosw | lodsb | lodsw | scasb | scasw
    | ret | leave | retf | int3 | into | iret | undefD6 | xlat | inAlDx | inAxDx | outDxAl | outDxAx | undefF1 | hlt | cmc | clc
    | stc | cli | sti | cld | std => exact decode_op rfl
  | addAlDb | orAlDb | adcAlDb | sbbAlDb | andAlDb | subAlDb | xorAlDb | cmpAlDb | pushDb | jo | jno | jb | jae | je | jne
    | jbe | ja | js | jns | jp | jnp | jl | jge | jle | jg | testAlDb | intDb | loopne | loope | loop | jcxz | inAlDb | inAxDb
    | outDbAl | outDbAx | jmpCb => exact decode_imm8 rfl _
  | addAxDw | orAxDw | adcAxDw | sbbAxDw | andAxDw | subAxDw | xorAxDw | cmpAxDw | pushDw | movAlXb | movAxXw | movXbAl
    | movXwAx | testAxDw | retDw | retfDw | callCw | jmpCw => exact decode_imm16 rfl _
  | enter => exact decode_imm16imm8 rfl _ _
  | callCd | jmpCd => exact decode_ptr rfl _ _
  | incRw r | decRw r | pushRw r | popRw r => exact decode_op (by cases r <;> rfl)
  | xchgAxRw r =>
    have hr : r ≠ .ax := of_decide_eq_true hw
    refine decode_op ?_
    cases r with
    | ax => exact absurd rfl hr
    | _ => rfl
  | movRbDb r => exact decode_imm8 (f := .movRbDb r) (by cases r <;> rfl) _
  | movRwDw r => exact decode_imm16 (f := .movRwDw r) (by cases r <;> rfl) _
  | undef83x1 | undef83x4 | undef83x6 | undef8Cx4to7 | undef8Ex1 | undef8Ex4to7 | undef8Fx1 | undef8Fx2 | undef8Fx3
    | undef8Fx4 | undef8Fx5 | undef8Fx6 | undef8Fx7 | undefC0x6 | undefC1x6 | undefC6x1 | undefC6x2 | undefC6x3 | undefC6x4
    | undefC6x5 | undefC6x6 | undefC6x7 | undefC7x1 | undefC7x2 | undefC7x3 | undefC7x4 | undefC7x5 | undefC7x6 | undefC7x7
    | undefD0x6 | undefD1x6 | undefD2x6 | undefD3x6 | undefF6x1 | undefF7x1 | undefFEx2 | undefFEx3 | undefFEx4 | undefFEx5
    | undefFEx6 | undefFEx7 | undefFFx7 => exact decode_undef rfl rfl
  | rolEb1 | rorEb1 | rclEb1 | rcrEb1 | shlEb1 | shrEb1 | sarEb1 | rolEbCl | rorEbCl | rclEbCl | rcrEbCl | shlEbCl | shrEbCl
    | sarEbCl | notEb | negEb | mulEb | imulEb | divEb | idivEb | incEb | decEb => exact decode_e8 rfl rfl hw
  | movEwEs | movEwCs | movEwSs | movEwDs | movEsEw | movSsEw | movDsEw | popMw | rolEw1 | rorEw1 | rclEw1 | rcrEw1 | shlEw1
    | shrEw1 | sarEw1 | rolEwCl | rorEwCl | rclEwCl | rcrEwCl | shlEwCl | shrEwCl | sarEwCl | notEw | negEw | mulEw | imulEw
    | divEw | idivEw | incEw | decEw | callEw | callEd | jmpEw | jmpEd | pushMw => exact decode_e16 rfl rfl hw
  | addEbDb | orEbDb | adcEbDb | sbbEbDb | andEbDb | subEbDb | xorEbDb | cmpEbDb | rolEbDb | rorEbDb | rclEbDb | rcrEbDb
    | shlEbDb | shrEbDb | sarEbDb | movEbDb | testEbDb => exact decode_e8i8 rfl rfl hw
  | addEwDb | adcEwDb | sbbEwDb | subEwDb | cmpEwDb | rolEwDb | rorEwDb | rclEwDb | rcrEwDb | shlEwDb | shrEwDb | sarEwDb =>
    exact decode_e16i8 rfl rfl hw
  | addEwDw | orEwDw | adcEwDw | sbbEwDw | andEwDw | subEwDw | xorEwDw | cmpEwDw | movEwDw | testEwDw =>
    exact decode_e16i16 rfl rfl hw
  | addEbRb | addRbEb | orEbRb | orRbEb | adcEbRb | adcRbEb | sbbEbRb | sbbRbEb | andEbRb | andRbEb | subEbRb | subRbEb
    | xorEbRb | xorRbEb | cmpEbRb | cmpRbEb | testEbRb | xchgEbRb | movEbRb | movRbEb =>
    exact (decode_e8 rfl rfl hw).trans (by rw [Reg8.ofBits_bits])
  | addEwRw | addRwEw | orEwRw | orRwEw | adcEwRw | adcRwEw | sbbEwRw | sbbRwEw | andEwRw | andRwEw | subEwRw | subRwEw
    | xorEwRw | xorRwEw | cmpEwRw | cmpRwEw | bound | arpl | testEwRw | xchgEwRw | movEwRw | movRwEw | lea | les | lds =>
    exact (decode_e16 rfl rfl hw).trans (by rw [Reg16.ofBits_bits])
  | imulRwEwDw r => exact (decode_e16i16 rfl rfl hw).trans (by rw [Reg16.ofBits_bits])
  | imulRwEwDb r => exact (decode_e16i8 rfl rfl hw).trans (by rw [Reg16.ofBits_bits])
  | esc op => exact (decode_cons (layout_esc op) nofun).trans (decodeBody_esc rfl hw)
  | undefD4 aad => exact decode_adjust (by cases aad <;> rfl) (of_decide_eq_true hw)
  | sldt | str | lldt | ltr | verr | verw | sgdt | sidt | lgdt | lidt | smsw | lmsw => exact decode_two.trans (decodeBody_e16 rfl hw)
  | lar | lsl => exact decode_two.trans ((decodeBody_e16 rfl hw).trans (by rw [Reg16.ofBits_bits]))
  | undef0F00x6to7 | undef0F01x5 | undef0F01x7 => exact decode_two.trans (decodeBody_undef rfl 0 0)
  | aam | aad | clts => rfl
  | undef0F second =>
    refine decode_two.trans ?_
    rw [layoutTwo_undefined ((Bool.not_eq_true' _).mp hw)]
    rfl

/-! ### Words written out -/

/-- Settles O7, by running the decoder on each word. -/
theorem decodeWords : Obligations.DecodeWords := ⟨rfl, rfl, rfl, rfl, rfl, rfl, rfl, rfl, rfl, rfl, rfl⟩

end Sys2Proof
end

section
/-! PROOF of O6: what the decoder answers is well formed, and stands in at most six bytes.  The decoder's tables are checked once
(`layout_sound`, `layoutTwo_sound`); each reader takes no more bytes than its layout allows (30_encoding.md R200, R201). -/

namespace Sys2Proof

/-! ### What a reader takes -/

/-- `rest` is what is left of `bs` once at most `n` bytes have been taken from the front. -/
def TakesUpTo (n : Nat) (bs rest : List Byte) : Prop := ∃ taken, bs = taken ++ rest ∧ taken.length ≤ n

/-- Whatever a reader of `bs` answers has the property `P`, and at most `n` bytes have been taken. -/
def Reads {α : Type} (P : α → Prop) (n : Nat) (bs : List Byte) (r : Except DecodeError (α × List Byte)) : Prop :=
  ∀ a rest, r = .ok (a, rest) → P a ∧ TakesUpTo n bs rest

section
variable {m n : Nat} {b : Byte} {as bs cs : List Byte} {α β : Type} {P : α → Prop} {Q : β → Prop}

theorem TakesUpTo.refl (bs : List Byte) : TakesUpTo n bs bs := ⟨[], rfl, Nat.zero_le n⟩

theorem TakesUpTo.cons (h : TakesUpTo n bs cs) : TakesUpTo (n + 1) (b :: bs) cs := by
  obtain ⟨taken, rfl, hn⟩ := h
  exact ⟨b :: taken, rfl, Nat.succ_le_succ hn⟩

theorem TakesUpTo.mono (h : TakesUpTo m bs cs) (hn : m ≤ n) : TakesUpTo n bs cs := by
  obtain ⟨taken, e, hm⟩ := h
  exact ⟨taken, e, hm.trans hn⟩

theorem TakesUpTo.trans (h : TakesUpTo m as bs) (h' : TakesUpTo n bs cs) : TakesUpTo (m + n) as cs := by
  obtain ⟨x, rfl, hm⟩ := h
  obtain ⟨y, rfl, hn⟩ := h'
  exact ⟨x ++ y, (List.append_assoc x y cs).symm, by rw [List.length_append]; exact Nat.add_le_add hm hn⟩

theorem Reads.ok {a : α} (ha : P a) (h : TakesUpTo n bs cs) : Reads P n bs (.ok (a, cs)) := by
  rintro _ _ ⟨⟩
  exact ⟨ha, h⟩

theorem Reads.error {x : DecodeError} : Reads P n bs (.error x) := fun _ _ h => nomatch h

theorem Reads.cons {r : Except DecodeError (α × List Byte)} (h : Reads P n bs r) : Reads P (n + 1) (b :: bs) r :=
  fun a rest e => (h a rest e).imp_right .cons

theorem Reads.mono {r : Except DecodeError (α × List Byte)} (h : Reads P m bs r) (hn : m ≤ n) : Reads P n bs r :=
  fun a rest e => (h a rest e).imp_right (·.mono hn)

/-- One reader after another: the bytes they take add up. -/
theorem Reads.andThen {r : Except DecodeError (α × List Byte)} {q : Except DecodeError (β × List Byte)} {a : α} (h : Reads P m as r)
    (e : r = .ok (a, bs)) (hq : P a → Reads Q n bs q) : Reads Q (m + n) as q := by
  obtain ⟨ha, ht⟩ := h a bs e
  exact fun b rest e' => (hq ha b rest e').imp_right ht.trans

end

/-! ### Operands and immediates -/

/-- A displacement has at most two bytes, and BP with none is no operand (R210, R211). -/
theorem readMem_reads (m : Byte) (bs : List Byte) : Reads (·.wf = true) 2 bs (readMem m bs) := by
  unfold readMem
  split
  · split
    · split
      · exact .ok rfl (.cons (.cons (.refl _)))
      · exact .error
    · next hne =>
      refine .ok ?_ (.refl _)
      have hb : AddrBase.ofBits (rmField m) ≠ .bp := by
        revert hne
        generalize rmField m = x
        revert x
        decide
      simp [MemOp.wf, hb]
  · split
    · split
      · exact .ok (by simp [MemOp.wf]) (.cons (.refl _))
      · exact .error
    · split
      · exact .ok (by simp [MemOp.wf]) (.cons (.cons (.refl _)))
      · exact .error

theorem readRm_reads {R : Type} (ofBits : BitVec 3 → R) (m : Byte) (bs : List Byte) :
    Reads (·.wf = true) 2 bs (readRm ofBits m bs) := by
  unfold readRm
  split
  · exact .ok rfl (.refl _)
  · split
    · next e => exact (readMem_reads m bs).andThen (n := 0) e fun h => .ok h (.refl _)
    · exact .error

section
variable {n : Nat}

theorem readImm8_reads {f : Byte → Instr} (h : ∀ v, (f v).wf = true) (bs : List Byte) :
    Reads (·.wf = true) 1 bs (readImm8 f bs) := by
  cases bs with
  | nil => exact .error
  | cons b rest => exact .ok (h b) (.cons (.refl _))

theorem readImm16_reads {f : Word → Instr} (h : ∀ w, (f w).wf = true) (bs : List Byte) :
    Reads (·.wf = true) 2 bs (readImm16 f bs) := by
  unfold readImm16
  split
  · exact .ok (h _) (.cons (.cons (.refl _)))
  · exact .error

/-! ### The bytes after the opcode -/

/-- A ModRM form makes an instruction that is well formed where its operand is, and asks for at most `n` bytes after the ModRM byte. -/
def RmForm.Sound (n : Nat) : RmForm → Prop
  | .undef i => i.wf = true
  | .e8 f => 2 ≤ n ∧ ∀ e, (f e).wf = e.wf
  | .e16 f => 2 ≤ n ∧ ∀ e, (f e).wf = e.wf
  | .esc f => 2 ≤ n ∧ ∀ e, (f e).wf = e.wf
  | .e8i8 f => 3 ≤ n ∧ ∀ e v, (f e v).wf = e.wf
  | .e16i8 f => 3 ≤ n ∧ ∀ e v, (f e v).wf = e.wf
  | .e16i16 f => 4 ≤ n ∧ ∀ e w, (f e w).wf = e.wf

/-- A layout makes well-formed instructions, and asks for at most `n` bytes after the opcode. -/
def Layout.Sound (n : Nat) : Layout → Prop
  | .op i => i.wf = true
  | .imm8 f => 1 ≤ n ∧ ∀ v, (f v).wf = true
  | .imm16 f => 2 ≤ n ∧ ∀ w, (f w).wf = true
  | .imm16imm8 f => 3 ≤ n ∧ ∀ w v, (f w v).wf = true
  | .ptr f => 4 ≤ n ∧ ∀ off sel, (f off sel).wf = true
  | .modrm f => 1 ≤ n ∧ ∀ reg, (f reg).Sound (n - 1)
  | .adjust _ => 1 ≤ n
  | .twoByte => True

theorem decodeRm_reads (m : Byte) (bs : List Byte) {form : RmForm} (h : form.Sound n) :
    Reads (·.wf = true) n bs (decodeRm m bs form) := by
  cases form with
  | undef i => exact .ok h (.refl _)
  | e8 f | e16 f | esc f =>
    refine Reads.mono ?_ h.1
    simp only [decodeRm]
    split
    · next e => exact (readRm_reads _ m bs).andThen (n := 0) e fun he => .ok ((h.2 _).trans he) (.refl _)
    · exact .error
  | e8i8 f | e16i8 f =>
    refine Reads.mono ?_ h.1
    simp only [decodeRm]
    split
    · next e => exact (readRm_reads _ m bs).andThen e fun he => readImm8_reads (fun v => (h.2 _ v).trans he) _
    · exact .error
  | e16i16 f =>
    refine Reads.mono ?_ h.1
    simp only [decodeRm]
    split
    · next e => exact (readRm_reads _ m bs).andThen e fun he => readImm16_reads (fun w => (h.2 _ w).trans he) _
    · exact .error

theorem decodeBody_reads (bs : List Byte) {l : Layout} (h : l.Sound n) : Reads (·.wf = true) n bs (decodeBody bs l) := by
  cases l with
  | op i => exact .ok h (.refl _)
  | imm8 f => exact (readImm8_reads h.2 bs).mono h.1
  | imm16 f => exact (readImm16_reads h.2 bs).mono h.1
  | imm16imm8 f =>
    refine Reads.mono ?_ h.1
    match bs with
    | [] | [_] | [_, _] => exact .error
    | _ :: _ :: _ :: _ => exact .ok (h.2 _ _) (.cons (.cons (.cons (.refl _))))
  | ptr f =>
    refine Reads.mono ?_ h.1
    match bs with
    | [] | [_] | [_, _] | [_, _, _] => exact .error
    | _ :: _ :: _ :: _ :: _ => exact .ok (h.2 _ _) (.cons (.cons (.cons (.cons (.refl _)))))
  | modrm f =>
    cases bs with
    | nil => exact .error
    | cons m rest => exact ((decodeRm_reads m rest (h.2 _)).cons).mono (by have := h.1; omega)
  | adjust aad =>
    cases bs with
    | nil => exact .error
    | cons v rest =>
      refine Reads.mono (.ok ?_ (.cons (.refl _))) h
      by_cases hv : v = 0x0A
      · rw [if_pos hv]
        cases aad <;> rfl
      · rw [if_neg hv]
        exact decide_eq_true hv
  | twoByte => exact .error

/-! ### The tables -/

theorem forall_getD {α : Type} {P : α → Prop} {l : List α} {d : α} (h : ∀ x ∈ l, P x) (hd : P d) (k : Nat) : P (l.getD k d) := by
  by_cases hk : k < l.length
  · rw [List.getD_eq_getElem _ _ hk]
    exact h _ (List.getElem_mem hk)
  · rw [List.getD_eq_default _ _ (Nat.le_of_not_lt hk)]
    exact hd

theorem pick_sound {g : List RmForm} (h : ∀ form ∈ g, form.Sound n) (reg : BitVec 3) : (pick g reg).Sound n :=
  forall_getD (P := RmForm.Sound n) (d := .undef .undef64) h rfl reg.toNat

end

/-- The opcode-extension groups of the one-byte opcodes. -/
def opGroups : List (List RmForm) := [
  group80, group81, group83, group8C, group8E, group8F, groupC0, groupC1, groupC6, groupC7, groupD0, groupD1, groupD2, groupD3,
  groupF6, groupF7, groupFE, groupFF]

theorem opGroups_sound : ∀ g ∈ opGroups, ∀ form ∈ g, form.Sound 4 := by
  simp only [opGroups, group80, group81, group83, group8C, group8E, group8F, groupC0, groupC1, groupC6, groupC7, groupD0, groupD1,
    groupD2, groupD3, groupF6, groupF7, groupFE, groupFF, List.forall_mem_cons, RmForm.Sound,
    Nat.reduceLeDiff, le_refl, true_and, List.not_mem_nil, IsEmpty.forall_iff, implies_true, and_true]
  and_intros <;> intros <;> rfl

theorem opRows_sound : ∀ row ∈ opRows, ∀ l ∈ row, l.Sound 5 := by
  have hg : ∀ g ∈ opGroups, ∀ reg, (pick g reg).Sound 4 := fun g h => pick_sound (opGroups_sound g h)
  simp only [opGroups, List.forall_mem_cons] at hg
  simp only [opRows, opRow0, opRow1, opRow2, opRow3, opRow4, opRow5, opRow6, opRow7, opRow8, opRow9, opRowA, opRowB, opRowC, opRowD,
    opRowE, opRowF, List.forall_mem_cons, Layout.Sound, hg, Nat.reduceSub, Nat.reduceLeDiff, true_and,
    List.not_mem_nil, IsEmpty.forall_iff, implies_true, and_true]
  simp only [RmForm.Sound, Nat.reduceLeDiff, le_refl, true_and]
  and_intros <;> intros <;> rfl

/-- The layout of a first byte asks for at most five bytes more. -/
theorem layout_sound (b : Byte) : (layout b).Sound 5 := by
  have hrow : ∀ l ∈ opRows.getD (b.extractLsb' 4 4).toNat [], l.Sound 5 :=
    forall_getD (P := fun row : List Layout => ∀ l ∈ row, l.Sound 5) opRows_sound (by simp) _
  exact forall_getD (P := Layout.Sound 5) (d := .twoByte) hrow trivial _

theorem twoByteRow_sound : ∀ l ∈ twoByteRow, l.Sound 3 := by
  have hg : ∀ g ∈ [group0F00, group0F01], ∀ form ∈ g, form.Sound 2 := by
    simp only [group0F00, group0F01, List.forall_mem_cons, RmForm.Sound, le_refl, true_and, List.not_mem_nil, IsEmpty.forall_iff,
      implies_true, and_true]
    and_intros <;> intros <;> rfl
  simp only [List.forall_mem_cons] at hg
  simp only [twoByteRow, List.forall_mem_cons, Layout.Sound, pick_sound hg.1, pick_sound hg.2.1, Nat.reduceSub, Nat.reduceLeDiff,
    true_and, List.not_mem_nil, IsEmpty.forall_iff, implies_true, and_true]
  simp only [RmForm.Sound, le_refl, true_and]
  and_intros <;> intros <;> rfl

/-- The layout of a second byte asks for at most three bytes more: no two-byte opcode has an immediate (R242). -/
theorem layoutTwo_sound (b : Byte) : (layoutTwo b).Sound 3 := by
  by_cases hb : definedSecondByte b = true
  · have hlt : b.toNat < twoByteRow.length := by revert b; decide
    rw [layoutTwo, List.getD_eq_getElem _ _ hlt]
    exact twoByteRow_sound _ (List.getElem_mem hlt)
  · have hu : definedSecondByte b = false := Bool.eq_false_of_not_eq_true hb
    rw [layoutTwo_undefined hu]
    exact congrArg Bool.not hu

/-- After the first byte the decoder takes at most five: what its layout asks for, or after 0FH the second byte and what that one's
layout asks for. -/
theorem decode_reads (op : Byte) (rest : List Byte) : Reads (·.wf = true) 5 rest (decode (op :: rest)) := by
  simp only [decode]
  split
  · split
    · next b rest' => exact ((decodeBody_reads rest' (layoutTwo_sound b)).cons).mono (by decide)
    · exact .error
  · exact decodeBody_reads rest (layout_sound op)

/-- Settles O6: the first byte, and what the decoder takes after it (`decode_reads`). -/
theorem decodeTakesBytes : Obligations.DecodeTakesBytes := by
  unfold Obligations.DecodeTakesBytes
  intro bs rest i h
  cases bs with
  | nil => exact nomatch h
  | cons op more =>
    obtain ⟨hw, taken, rfl, hn⟩ := decode_reads op more i rest h
    exact ⟨hw, op :: taken, rfl, Nat.le_add_left 1 _, Nat.succ_le_succ hn⟩

end Sys2Proof
end

section
/-! PROOF of O8: a prefix byte is recorded. -/

namespace Sys2Proof.Machine

/-- Settles O8: `exec` of a prefix byte is `withPrefix` of the record with that prefix in it. -/
theorem prefixesRecorded : Obligations.PrefixesRecorded := fun _ => ⟨rfl, rfl, rfl, rfl, rfl, rfl, rfl⟩

end Sys2Proof.Machine
end

section
/-! SUPPORT. Words pushed in plain memory: they stand where they should, each apart from the others, and nothing else changes. -/

namespace Sys2Proof.Machine

section
variable {s t : State} {r : SegReg} {off off' : Word} {ws vs : List Word}

/-! ### Where the bytes stand -/

/-- A reference that passes its checks ends by offset FFFFH, in either mode (20_memory.md R113, R118). -/
theorem Accessible.bound {n : Nat} {k : Access} (h : Accessible s r off n k) : off.toNat + n ≤ 0x10000 := by
  unfold Accessible at h
  split at h
  · obtain ⟨-, -, hl⟩ := h
    have := (s.seg r).limit.isLt
    unfold withinLimit at hl
    split at hl
    · exact of_decide_eq_true (Bool.and_eq_true_iff.1 hl).2
    · have := of_decide_eq_true hl
      omega
  · exact h

/-- Different offsets of a segment are different addresses, A20 forced low or not (R86). -/
theorem State.segAddr_ne {j j' : Nat} (h : off.toNat + j < 0x10000) (h' : off'.toNat + j' < 0x10000)
    (hne : off.toNat + j ≠ off'.toNat + j') : (s.segAddr r off j).toNat ≠ (s.segAddr r off' j').toNat := by
  have hsum : ∀ (o : Word) (i : Nat), ((s.seg r).base + o.zeroExtend 24 + BitVec.ofNat 24 i).toNat =
      ((s.seg r).base.toNat + o.toNat + i) % 2 ^ 24 := fun o i => by
    have := o.isLt
    simp only [BitVec.toNat_add, BitVec.truncate_eq_setWidth, BitVec.toNat_setWidth, BitVec.toNat_ofNat]
    omega
  have hmask : ∀ a : Addr, (a &&& 0x0FFFFF).toNat = a.toNat % 2 ^ 20 := fun a => Nat.and_two_pow_sub_one_eq_mod a.toNat 20
  unfold State.segAddr
  dsimp only
  split
  · rw [hmask, hmask, hsum, hsum]
    omega
  · rw [hsum, hsum]
    omega

/-! ### Pushes -/

/-- Words have been pushed from `s` to `t`: SP is below them, they stand there, and nothing else has changed. -/
structure HasPushed (s t : State) (ws : List Word) : Prop where
  rest : t = { s with mem := t.mem, gpr := { s.gpr with sp := s.gpr.sp - BitVec.ofNat 16 (2 * ws.length) } }
  wf : t.mem.wf = true
  pushed : Pushed s t ws

theorem HasPushed.nil (h : s.mem.wf = true) : HasPushed s s [] where
  rest := by rw [List.length_nil, Nat.mul_zero, BitVec.sub_zero]
  wf := h
  pushed := ⟨fun _ h => absurd h (Nat.not_lt_zero _), fun _ _ => rfl⟩

theorem HasPushed.segAddr (h : HasPushed s t ws) (q : SegReg) (o : Word) (j : Nat) : t.segAddr q o j = s.segAddr q o j := by
  rw [h.rest]
  rfl

theorem HasPushed.wordOk (h : HasPushed s t ws) {k : Access} (hw : WordOk s r off k) : WordOk t r off k := by
  rw [h.rest]
  exact hw

/-- The next word goes below the last. -/
theorem HasPushed.sp (h : HasPushed s t ws) : t.gpr.sp - 2 = s.gpr.sp - BitVec.ofNat 16 (2 * (ws.length + 1)) := by
  rw [h.rest]
  apply BitVec.eq_of_toNat_eq
  simp only [BitVec.toNat_sub, BitVec.toNat_ofNat, BitVec.ofNat_eq_ofNat]
  omega

/-- Only memory and SP tell `t` from `s`. -/
theorem HasPushed.setSp (h : HasPushed s t ws) (m : Memory) (x : Word) :
    ({ t with mem := m } : State).setSp x = { s with mem := m, gpr := { s.gpr with sp := x } } := by
  rw [h.rest]
  rfl

/-- The words below SP that can be pushed, fewer than 2^15, do not meet. -/
theorem StackRoom.apart {n i : Nat} (hr : StackRoom s (n + 1)) (hn : n < 0x8000) (hi : i < n) {j : Nat} (hj : j < 2) :
    (s.segAddr .ss (s.gpr.sp - BitVec.ofNat 16 (2 * (i + 1))) j).toNat ∉
      wordBytes s .ss (s.gpr.sp - BitVec.ofNat 16 (2 * (n + 1))) := by
  have hbi := (hr i (Nat.lt_succ_of_lt hi)).1.bound
  have hbn := (hr n (Nat.lt_succ_self n)).1.bound
  have hne : ∀ j', j' < 2 → (s.gpr.sp - BitVec.ofNat 16 (2 * (i + 1))).toNat + j ≠
      (s.gpr.sp - BitVec.ofNat 16 (2 * (n + 1))).toNat + j' := fun j' hj' => by
    have := s.gpr.sp.isLt
    simp only [BitVec.toNat_sub, BitVec.toNat_ofNat]
    omega
  simp only [wordBytes, List.mem_cons, List.not_mem_nil, or_false, not_or]
  exact ⟨State.segAddr_ne (by omega) (by omega) (hne 0 (by omega)), State.segAddr_ne (by omega) (by omega) (hne 1 (by omega))⟩

/-- One more word. -/
theorem HasPushed.push16 (h : HasPushed s t ws) (hr : StackRoom s (ws.length + 1)) (hn : ws.length < 0x8000) (w : Word) :
    ∃ u, push16 t w = .ok u ∧ HasPushed s u (ws ++ [w]) := by
  have hw := h.wordOk (hr ws.length (Nat.lt_succ_self _))
  rw [← h.sp] at hw
  have hsame := State.segPut16_sameBut hw.2.1 .ss (t.gpr.sp - 2) w
  have hbytes : wordBytes t .ss (t.gpr.sp - 2) = wordBytes s .ss (s.gpr.sp - BitVec.ofNat 16 (2 * (ws.length + 1))) := by
    rw [h.sp]
    simp only [wordBytes, h.segAddr]
  have hafter := State.segPut16_after h.wf hw.2 w
  rw [hbytes] at hsame
  refine ⟨_, push16_of_ok hw.1 w, ?_, State.segPut16_wf h.wf _ _ _, fun i hi => ?_, fun a ha => ?_⟩
  · rw [State.segPut16_ram hw.2, h.setSp, h.sp, List.length_append, List.length_singleton]
  · rw [List.length_append, List.length_singleton] at hi
    by_cases hlt : i < ws.length
    · rw [List.getElem_append_left hlt, ← h.pushed.1 i hlt]
      exact congrArg₂ mkWord (hsame _ (hr.apart hn hlt (by omega))) (hsame _ (hr.apart hn hlt (by omega)))
    · obtain rfl : i = ws.length := by omega
      rw [List.getElem_concat_length rfl]
      rw [h.sp] at hafter ⊢
      simp only [wordAfter, h.segAddr] at hafter
      exact hafter
  · rw [List.length_append, List.length_singleton, pushedBytes, List.mem_append, not_or] at ha
    exact (hsame a ha.2).trans (h.pushed.2 a ha.1)

theorem HasPushed.pushAll (h : HasPushed s t ws) (hr : StackRoom s (ws.length + vs.length)) (hn : ws.length + vs.length ≤ 0x8000) :
    ∃ u, pushAll t vs = .ok u ∧ HasPushed s u (ws ++ vs) := by
  induction vs generalizing t ws with
  | nil => exact ⟨t, rfl, by rwa [List.append_nil]⟩
  | cons w vs ih =>
    rw [List.length_cons] at hr hn
    obtain ⟨u, hu, hp⟩ := h.push16 (fun i hi => hr i (by omega)) (by omega) w
    have hlen : (ws ++ [w]).length + vs.length = ws.length + (vs.length + 1) := by
      rw [List.length_append, List.length_singleton]
      omega
    obtain ⟨x, hx, hxp⟩ := ih hp (hlen ▸ hr) (hlen ▸ hn)
    exact ⟨x, by rw [Machine.pushAll, hu]; exact hx, by rwa [List.append_assoc] at hxp⟩

/-- Words for which there is room in plain memory are pushed. -/
theorem pushAll_of_room (hm : s.mem.wf = true) (hr : StackRoom s ws.length) (hn : ws.length ≤ 0x8000) :
    ∃ t, pushAll s ws = .ok t ∧ HasPushed s t ws :=
  (HasPushed.nil hm).pushAll (by rwa [List.length_nil, Nat.zero_add]) (by rwa [List.length_nil, Nat.zero_add])

end

end Sys2Proof.Machine
end

section
/-! PROOF of O9: the undefined opcodes, and how Real Address Mode enters the handler of any event (60_exceptions.md R663). -/

namespace Sys2Proof.Machine

/-! ### The FLAGS image as a number -/

/-- FLAGS as a word is FLAGS as a number: TF, IF, DF, OF, IOPL and NT above, the low byte below (10_state.md R30, R48). -/
theorem Flags.toWord_eq_flagWord (f : Flags) : f.toWord = BitVec.ofNat 16 (flagWord f) := by
  have hhigh : ∀ (nt : Bool) (iopl : BitVec 2) (ov df ie tf : Bool),
      ((bit 16 nt <<< 14) ||| (iopl.zeroExtend 16 <<< 12) ||| (bit 16 ov <<< 11) ||| (bit 16 df <<< 10) ||| (bit 16 ie <<< 9)
        ||| (bit 16 tf <<< 8)).toNat =
      (tf.toNat + 2 * ie.toNat + 4 * df.toNat + 8 * ov.toNat + 16 * iopl.toNat + 64 * nt.toNat) <<< 8 := by decide
  have hlow : ∀ sf zf af pf cf : Bool,
      ((bit 16 sf <<< 7) ||| (bit 16 zf <<< 6) ||| (bit 16 af <<< 4) ||| (bit 16 pf <<< 2) ||| 0x0002 ||| bit 16 cf).toNat =
      128 * sf.toNat + 64 * zf.toNat + 16 * af.toNat + 4 * pf.toNat + 2 + cf.toNat := by decide
  have hsplit : f.toWord =
      ((bit 16 f.nt <<< 14) ||| (f.iopl.zeroExtend 16 <<< 12) ||| (bit 16 f.ov <<< 11) ||| (bit 16 f.df <<< 10)
        ||| (bit 16 f.ie <<< 9) ||| (bit 16 f.tf <<< 8)) |||
      ((bit 16 f.sf <<< 7) ||| (bit 16 f.zf <<< 6) ||| (bit 16 f.af <<< 4) ||| (bit 16 f.pf <<< 2) ||| 0x0002 ||| bit 16 f.cf) := by
    simp only [Flags.toWord, BitVec.or_assoc]
  have hbyte : flagByte f < 2 ^ 8 := by
    have := f.sf.toNat_le; have := f.zf.toNat_le; have := f.af.toNat_le; have := f.pf.toNat_le; have := f.cf.toNat_le
    unfold flagByte
    omega
  have hword : flagWord f < 2 ^ 16 := by
    have := f.tf.toNat_le; have := f.ie.toNat_le; have := f.df.toNat_le; have := f.ov.toNat_le; have := f.nt.toNat_le
    have := f.iopl.isLt
    unfold flagWord
    omega
  apply BitVec.eq_of_toNat_eq
  rw [hsplit, BitVec.toNat_or, hhigh, hlow, ← flagByte, ← Nat.shiftLeft_add_eq_or_of_lt hbyte, Nat.shiftLeft_eq, BitVec.toNat_ofNat,
    Nat.mod_eq_of_lt hword, flagWord]
  omega

/-! ### The vector -/

section
variable {s t u : State}

theorem Alone.loadWord (h : Alone s) (a b : Nat) : Alone (s.loadWord a b).2 := by
  rw [State.loadWord_alone h]
  exact (h.load a).load b

theorem State.loadWord_mem (h : Alone s) (a b : Nat) : (s.loadWord a b).2.mem = s.mem := by
  rw [State.loadWord_alone h]
  exact (State.load_mem _ b).trans (State.load_mem s a)

/-- The two words of a vector, with no other agent between: its four bytes, each read once, in rising order. -/
theorem State.vectorWord_reads (h : Alone s) (v : Byte) :
    VectorRead s ((s.vectorWord (4 * v.toNat)).2.vectorWord (4 * v.toNat + 2)).2 v (s.vectorWord (4 * v.toNat)).1
      ((s.vectorWord (4 * v.toNat)).2.vectorWord (4 * v.toNat + 2)).1 := by
  obtain ⟨b0, b1, h0, h1, hoff⟩ := State.loadWord_dataRead h (physAdd s.idtr.base (4 * v.toNat)) (physAdd s.idtr.base (4 * v.toNat + 1))
  have hy : Alone (s.vectorWord (4 * v.toNat)).2 := h.loadWord _ _
  obtain ⟨b2, b3, h2, h3, hsel⟩ := State.loadWord_dataRead hy (physAdd s.idtr.base (4 * v.toNat + 2))
    (physAdd s.idtr.base (4 * v.toNat + 3))
  have e : (s.vectorWord (4 * v.toNat)).2.vectorWord (4 * v.toNat + 2) =
      (s.vectorWord (4 * v.toNat)).2.loadWord (physAdd s.idtr.base (4 * v.toNat + 2)) (physAdd s.idtr.base (4 * v.toNat + 3)) := by
    conv_lhs => rw [State.vectorWord, State.vectorWord_idtr]
  rw [e]
  exact ⟨_, _, _, b0, b1, b2, b3, h0, h1, h2, h3, hoff.trans (pair_eq_mkWord b1 b0).symm, hsel.trans (pair_eq_mkWord b3 b2).symm⟩

/-! ### Delivery in Real Address Mode -/

/-- What has been pushed is a matter of memory alone. -/
theorem Pushed.of_mem_eq {ws : List Word} (h : Pushed s t ws) (hm : u.mem = t.mem) : Pushed s u ws := by
  unfold Pushed pushedWord wordAfter MemSameBut at *
  rwa [hm]

/-- The frame pushed and the vector read, what is left is the handler. -/
theorem HasPushed.realEntry {v : Byte} {retIp off sel : Word} (hp : HasPushed s t [s.flags.toWord, s.cs.sel, retIp])
    (hv : VectorRead t u v off sel) (hm : u.mem = t.mem) :
    RealEntry s (State.entered { u with flags := t.flags.enterReal, ip := off, cs := realCache sel }) v retIp := by
  have ht : ({ s with gpr := { s.gpr with sp := s.gpr.sp - 6 }, mem := u.mem } : State) = t := by
    rw [hm]
    exact hp.rest.symm
  have hf : t.flags = s.flags := by rw [hp.rest]
  refine ⟨u, off, sel, ?_, ?_, ?_⟩
  · show VectorRead { s with gpr := { s.gpr with sp := s.gpr.sp - 6 }, mem := u.mem } u v off sel
    rwa [ht]
  · rw [hf, realCache_eq]
    rfl
  · rw [← Flags.toWord_eq_flagWord]
    exact hp.pushed.of_mem_eq hm

/-- With its vector inside the table and room for its frame in plain memory, a delivery reaches the handler. -/
theorem deliverReal_of_ok {v : Byte} (hm : s.mem.wf = true) (h : RealEntryOk s v) (retIp : Word) :
    ∃ t, deliverReal s v retIp = .ok t ∧ RealEntry s t.entered v retIp := by
  obtain ⟨-, -, hlim, hroom⟩ := h
  obtain ⟨t, ht, hp⟩ := pushAll_of_room (ws := [s.flags.toWord, s.cs.sel, retIp]) hm hroom (by simp)
  have hcan : canPush s 3 = true := (canPush_iff s 3).2 fun i hi => (hroom i hi).1
  have halone : Alone t := by
    rw [hp.rest]
    exact (hroom 0 (by decide)).2.1
  refine ⟨_, ?_, hp.realEntry (State.vectorWord_reads halone v) ?_⟩
  · simp only [deliverReal, hlim, decide_true, require_true, hcan, ht, failIn, bind, Except.bind]
  · exact (State.loadWord_mem (halone.loadWord _ _) _ _).trans (State.loadWord_mem halone _ _)

theorem deliver_realEntry {v : Byte} (hm : s.mem.wf = true) (h : RealEntryOk s v) (retIp : Word) (kind : EventKind) (code : Word) :
    RealEntry s (deliver s v retIp kind code) v retIp := by
  obtain ⟨t, ht, he⟩ := deliverReal_of_ok hm h retIp
  obtain ⟨hpe, hfree, -, -⟩ := h
  have ha : attempt s.release v retIp kind code (extOf kind v) = .ok t := by
    rw [State.release_free hfree, attempt, hpe]
    exact ht
  rwa [deliver_of_ok ha]

end

/-! ### Undefined opcodes -/

/-- Exception 6 is delivered from the instruction's first byte (R660), and no single-step trap follows it (R654). -/
theorem undefinedOpcode_eq (s : State) :
    undefinedOpcode s = .next (deliver { s with tfAtStart := false } 6 s.ip .exception 0) := rfl

/-- An instruction whose operand is memory takes exception 6 in its register form, which is the undefined one (R213). -/
theorem exec_memoryOnly {R : Type} {i : RM R → Instr} (s : State) (e : RM R) (h : undefinedForms (i e) = true)
    (hm : ∀ m, undefinedForms (i (.mem m)) = false) (hr : ∀ r, exec (i (.reg r)) s = undefinedOpcode s) :
    exec (i e) s = undefinedOpcode s := by
  cases e with
  | reg r => exact hr r
  | mem m => exact absurd ((hm m).symm.trans h) Bool.false_ne_true

/-- The rows that are undefined, and the register forms of the instructions whose operand is memory (R213, R245 to R248). -/
theorem exec_undefinedForms (i : Instr) (s : State) (h : undefinedForms i = true) : exec i s = undefinedOpcode s := by
  cases i with
  | undefD4 | undef0F | undef83x1 | undef83x4 | undef83x6 | undef64 | undef65 | undef66 | undef67 | undef82 | undef8Cx4to7
    | undef8Ex1 | undef8Ex4to7 | undef8Fx1 | undef8Fx2 | undef8Fx3 | undef8Fx4 | undef8Fx5 | undef8Fx6 | undef8Fx7 | undefC0x6
    | undefC1x6 | undefC6x1 | undefC6x2 | undefC6x3 | undefC6x4 | undefC6x5 | undefC6x6 | undefC6x7 | undefC7x1 | undefC7x2
    | undefC7x3 | undefC7x4 | undefC7x5 | undefC7x6 | undefC7x7 | undefD0x6 | undefD1x6 | undefD2x6 | undefD3x6 | undefD6
    | undefF1 | undefF6x1 | undefF7x1 | undefFEx2 | undefFEx3 | undefFEx4 | undefFEx5 | undefFEx6 | undefFEx7 | undefFFx7
    | undef0F00x6to7 | undef0F01x5 | undef0F01x7 => rfl
  | lea r e => exact exec_memoryOnly (i := .lea r) s e h (fun _ => rfl) fun _ => rfl
  | lds r e => exact exec_memoryOnly (i := .lds r) s e h (fun _ => rfl) fun _ => rfl
  | les r e => exact exec_memoryOnly (i := .les r) s e h (fun _ => rfl) fun _ => rfl
  | bound r e => exact exec_memoryOnly (i := .bound r) s e h (fun _ => rfl) fun _ => rfl
  | jmpEd e | callEd e | sgdt e | sidt e | lgdt e | lidt e => exact exec_memoryOnly s e h (fun _ => rfl) fun _ => rfl
  | _ => exact absurd h Bool.false_ne_true

/-- Real Address Mode does not have the instructions of Protected Mode alone (47_system.md R610). -/
theorem exec_protectedOnlyForms (i : Instr) {s : State} (h : protectedOnlyForms i = true) (hp : s.msw.pe = false) :
    exec i s = undefinedOpcode s := by
  have hrun : ∀ r, runProtected s r = undefinedOpcode s := fun r => by rw [runProtected, hp]; rfl
  cases i with
  | sldt | str | lldt | ltr | verr | verw | arpl | lar | lsl => exact hrun _
  | _ => exact absurd h Bool.false_ne_true

/-- Settles O9: each of them is `undefinedOpcode`, and what that delivers enters the handler (`deliver_realEntry`). -/
theorem undefinedOpcodes : Obligations.UndefinedOpcodes := by
  unfold Obligations.UndefinedOpcodes
  intro i s h
  have he : exec i s = .next (deliver { s with tfAtStart := false } 6 s.ip .exception 0) := by
    rw [← undefinedOpcode_eq]
    rcases h with h | ⟨h, hp⟩
    · exact exec_undefinedForms i s h
    · exact exec_protectedOnlyForms i h hp
  exact ⟨he, fun hm hok => ⟨_, he, deliver_realEntry (s := { s with tfAtStart := false }) hm hok s.ip .exception 0⟩⟩

end Sys2Proof.Machine
end

section
/-! PROOF of O20 and O21: MOV, SMSW and XCHG.  Each ends in a store to its operand: `storeRm8_wrote` and `storeRm16_wrote` say what
the store writes, `storeRm8_plain` and `storeRm16_plain` that no field but the general registers and memory takes part. -/

namespace Sys2Proof.Machine

section
variable {s : State}

/-! ### Stores to an operand in a register or plain memory -/

theorem storeRm8_plain {e : Rm8} (h : Rm8Ok s e .write) (v : Byte) :
    storeRm8 s e v = { s with gpr := (storeRm8 s e v).gpr, mem := (storeRm8 s e v).mem } := by
  cases e with
  | reg r => rfl
  | mem m => rw [show storeRm8 s (.mem m) v = _ from State.segPut8_ram h.2 (show 0 < 1 by omega) v]

theorem storeRm16_plain {e : Rm16} (h : Rm16Ok s e .write) (v : Word) :
    storeRm16 s e v = { s with gpr := (storeRm16 s e v).gpr, mem := (storeRm16 s e v).mem } := by
  cases e with
  | reg r => rfl
  | mem m => rw [show storeRm16 s (.mem m) v = _ from State.segPut16_ram h.2 v]

/-- The lock makes no difference to a store in plain memory, where no other agent comes between. -/
theorem storeRm8_withLock {e : Rm8} (h : Rm8Ok s e .write) (l : BusLock) (v : Byte) :
    storeRm8 (s.withLock l) e v = (storeRm8 s e v).withLock l := by
  cases e with
  | reg r => rfl
  | mem m =>
    have hs : storeRm8 s (.mem m) v = _ := State.segPut8_ram h.2 (show 0 < 1 by omega) v
    have hl : storeRm8 (s.withLock l) (.mem m) v = _ := State.segPut8_ram (s := s.withLock l) h.2 (show 0 < 1 by omega) v
    rw [hs, hl]
    rfl

theorem storeRm16_withLock {e : Rm16} (h : Rm16Ok s e .write) (l : BusLock) (v : Word) :
    storeRm16 (s.withLock l) e v = (storeRm16 s e v).withLock l := by
  cases e with
  | reg r => rfl
  | mem m =>
    have hs : storeRm16 s (.mem m) v = _ := State.segPut16_ram h.2 v
    have hl : storeRm16 (s.withLock l) (.mem m) v = _ := State.segPut16_ram (s := s.withLock l) h.2 v
    rw [hs, hl]
    rfl

/-! ### MOV and SMSW -/

theorem movToRm8_of_ok {e : Rm8} (h : Rm8Ok s e .write) (v : Byte) : movToRm8 e v s = .ok (storeRm8 s e v) := by
  rw [movToRm8, checkRm8_of_ok h]
  rfl

theorem movToRm16_of_ok {e : Rm16} (h : Rm16Ok s e .write) (v : Word) : movToRm16 e v s = .ok (storeRm16 s e v) := by
  rw [movToRm16, checkRm16_of_ok h]
  rfl

theorem movToReg8_of_ok {e : Rm8} (h : Rm8Ok s e .read) (r : Reg8) : movToReg8 r e s = .ok (s.setReg8 r (rm8Value s e)) := by
  rw [movToReg8, loadRm8_of_ok h]
  rfl

theorem movToReg16_of_ok {e : Rm16} (h : Rm16Ok s e .read) (r : Reg16) :
    movToReg16 r e s = .ok (s.setReg16 r (rm16Value s e)) := by
  rw [movToReg16, loadRm16_of_ok h]
  rfl

theorem MoveForm8.dest_ok {f : MoveForm8} (h : f.Ok s) : Rm8Ok s f.dest .write := by
  cases f with
  | toRm | rmImm | accStore => exact h
  | toReg | regImm | accLoad => trivial

theorem MoveForm16.dest_ok {f : MoveForm16} (h : f.Ok s) : Rm16Ok s f.dest .write := by
  cases f with
  | toRm | rmImm | accStore | seg | msw => exact h
  | toReg | regImm | accLoad => trivial

/-- Every form comes to a store of its source in its destination. -/
theorem MoveForm8.exec_of_ok {f : MoveForm8} (hl : LockAllowed s) (h : f.Ok s) :
    exec f.instr s = .next (storeRm8 s f.dest (f.source s)).retire := by
  cases f with
  | toRm e r | rmImm e v => exact runInstr_of_ok hl (movToRm8_of_ok h _)
  | accStore off => exact runInstr_of_ok hl (movToRm8_of_ok (e := .mem (.direct off)) h _)
  | toReg r e => exact runInstr_of_ok hl (movToReg8_of_ok h r)
  | accLoad off => exact runInstr_of_ok hl (movToReg8_of_ok (e := .mem (.direct off)) h .al)
  | regImm r v => exact runInstr_of_ok hl rfl

/-- Every form comes to a store of its source in its destination. -/
theorem MoveForm16.exec_of_ok {f : MoveForm16} (hl : LockAllowed s) (h : f.Ok s) :
    exec f.instr s = .next (storeRm16 s f.dest (f.source s)).retire := by
  cases f with
  | toRm e r | rmImm e v | msw e => exact runInstr_of_ok hl (movToRm16_of_ok h _)
  | seg e r => cases r <;> exact runInstr_of_ok hl (movToRm16_of_ok h _)
  | accStore off => exact runInstr_of_ok hl (movToRm16_of_ok (e := .mem (.direct off)) h _)
  | toReg r e => exact runInstr_of_ok hl (movToReg16_of_ok h r)
  | accLoad off => exact runInstr_of_ok hl (movToReg16_of_ok (e := .mem (.direct off)) h .ax)
  | regImm r v => exact runInstr_of_ok hl rfl

/-! ### XCHG -/

/-- XCHG of bytes, its lock ended: the register's value in the operand, then the operand's in the register. -/
theorem xchgRm8_of_ok {e : Rm8} (r : Reg8) (h : Rm8Ok s e .write) :
    xchgRm8 e r s = .ok ((storeRm8 s e (s.reg8 r)).setReg8 r (rm8Value s e)) := by
  have hload : loadRm8 (s.withLock .active) e .write = .ok (rm8Value s e, s.withLock .active) := by
    rw [loadRm8_of_ok (s := s.withLock .active) h]
    cases e <;> rfl
  have hswap : swapRm8 e r (s.withLock .active) =
      .ok (((storeRm8 s e (s.reg8 r)).withLock .active).setReg8 r (rm8Value s e)) := by
    rw [swapRm8, hload, ← storeRm8_withLock h]
    rfl
  rw [xchgRm8_eq, locked, hswap, storeRm8_plain h]
  rfl

theorem xchgRm16_of_ok {e : Rm16} (r : Reg16) (h : Rm16Ok s e .write) :
    xchgRm16 e r s = .ok ((storeRm16 s e (s.reg16 r)).setReg16 r (rm16Value s e)) := by
  have hload : loadRm16 (s.withLock .active) e .write = .ok (rm16Value s e, s.withLock .active) := by
    rw [loadRm16_of_ok (s := s.withLock .active) h]
    cases e <;> rfl
  have hswap : swapRm16 e r (s.withLock .active) =
      .ok (((storeRm16 s e (s.reg16 r)).withLock .active).setReg16 r (rm16Value s e)) := by
    rw [swapRm16, hload, ← storeRm16_withLock h]
    rfl
  rw [xchgRm16_eq, locked, hswap, storeRm16_plain h]
  rfl

/-- The operand keeps what was stored there, though the register is written after it: for one register, that is its own value. -/
theorem rm8After_setReg8 {t : State} {e : Rm8} {r : Reg8} (h : rm8After s t e = s.reg8 r) :
    rm8After s (t.setReg8 r (rm8Value s e)) e = s.reg8 r := by
  cases e with
  | mem m => exact h
  | reg q =>
    by_cases hq : q = r
    · subst hq
      exact State.reg8_setReg8_same t q _
    · exact (State.reg8_setReg8_other t _ hq).trans h

theorem rm16After_setReg16 {t : State} {e : Rm16} {r : Reg16} (h : rm16After s t e = s.reg16 r) :
    rm16After s (t.setReg16 r (rm16Value s e)) e = s.reg16 r := by
  cases e with
  | mem m => exact h
  | reg q =>
    by_cases hq : q = r
    · subst hq
      exact State.reg16_setReg16_same t q _
    · exact (State.reg16_setReg16_other t _ hq).trans h

end

/-- Settles O20: every form is a store of its source in its destination. -/
theorem moves : Obligations.Moves := by
  unfold Obligations.Moves
  constructor
  · intro f s hl hm hf
    have hd := f.dest_ok hf
    refine ⟨_, f.exec_of_ok hl hf, ?_, ?_, ?_, storeRm8_wrote hm rfl hd _⟩
    all_goals
      rw [storeRm8_plain hd]
      rfl
  · intro f s hl hm hf
    have hd := f.dest_ok hf
    refine ⟨_, f.exec_of_ok hl hf, ?_, ?_, ?_, storeRm16_wrote hm rfl hd _⟩
    all_goals
      rw [storeRm16_plain hd]
      rfl

/-- Settles O21: the store to the operand is `storeRm8_wrote` (`storeRm16_wrote`), and the register is written after it. -/
theorem exchange : Obligations.Exchange := by
  unfold Obligations.Exchange
  constructor
  · intro e r s hl hm he
    obtain ⟨hafter, ⟨hregs, hsp, hbp, hsi, hdi⟩, hmem⟩ := storeRm8_wrote (u := s) hm rfl he (s.reg8 r)
    obtain ⟨hsp', hbp', hsi', hdi'⟩ := State.setReg8_pointers (storeRm8 s e (s.reg8 r)) r (rm8Value s e)
    refine ⟨_, runInstr_of_ok hl (xchgRm8_of_ok r he), ?_, ?_, ?_, State.reg8_setReg8_same _ r _, rm8After_setReg8 hafter,
      fun q hq hne => (State.reg8_setReg8_other _ _ hq).trans (hregs q hne), hsp'.trans hsp, hbp'.trans hbp, hsi'.trans hsi,
      hdi'.trans hdi, hmem⟩
    all_goals
      rw [storeRm8_plain he]
      rfl
  · intro i e r s hl hm he hi
    have hx : exec i s = runInstr s (xchgRm16 e r s) := by
      rcases hi with rfl | ⟨q, rfl, rfl, rfl⟩ <;> rfl
    obtain ⟨hafter, hregs, hmem⟩ := storeRm16_wrote (u := s) hm rfl he (s.reg16 r)
    refine ⟨_, hx.trans (runInstr_of_ok hl (xchgRm16_of_ok r he)), ?_, ?_, ?_, State.reg16_setReg16_same _ r _,
      rm16After_setReg16 hafter, fun q hq hne => (State.reg16_setReg16_other _ _ hq).trans (hregs q hne), hmem⟩
    all_goals
      rw [storeRm16_plain he]
      rfl

end Sys2Proof.Machine
end

section
/-! PROOF of O22 and O23: PUSH, PUSHF, POP, PUSHA and POPA.  What is pushed is said by `HasPushed`; what is popped is the words a stack
in plain memory holds from SP up. -/

namespace Sys2Proof.Machine

section
variable {s t : State}

/-! ### Words from SP up -/

theorem StackHolds.stackGet {n i : Nat} (h : StackHolds s n) (hi : i < n) :
    s.stackGet (2 * i) = (s.segWord .ss (s.gpr.sp + BitVec.ofNat 16 (2 * i)), s) := State.stackGet_memory (h i hi).2

theorem StackHolds.top {n : Nat} (h : StackHolds s (n + 1)) : WordOk s .ss s.gpr.sp .read := by
  have h0 := h 0 (Nat.succ_pos n)
  rwa [show s.gpr.sp + BitVec.ofNat 16 (2 * 0) = s.gpr.sp from BitVec.add_zero _] at h0

theorem State.stackGet_top (h : WordOk s .ss s.gpr.sp .read) : s.stackGet 0 = (s.segWord .ss s.gpr.sp, s) := by
  rw [State.stackGet, show s.gpr.sp + BitVec.ofNat 16 0 = s.gpr.sp from BitVec.add_zero _]
  exact State.segGet16_memory h.2

/-! ### PUSH -/

theorem StackRoom.canPush {n : Nat} (h : StackRoom s n) : canPush s n = true := (canPush_iff s n).2 fun i hi => (h i hi).1

theorem pushRm_of_ok {e : Rm16} (h : Rm16Ok s e .read) (hr : StackRoom s 1) : pushRm e s = push16 s (rm16Value s e) := by
  rw [pushRm, checkRm16_of_ok h, hr.canPush, State.getRm16_of_ok h]
  rfl

theorem PushForm.exec_of_ok {f : PushForm} (h : f.Ok s) (hr : StackRoom s 1) :
    exec f.instr s = runInstr s (push16 s (f.value s)) := by
  cases f with
  | rm e => exact congrArg (runInstr s) (pushRm_of_ok h hr)
  | seg r => cases r <;> rfl
  | reg | word | byte | flags => rfl

/-- A word for which there is room is pushed. -/
theorem push16_of_room (hm : s.mem.wf = true) (hr : StackRoom s 1) (w : Word) : ∃ t, push16 s w = .ok t ∧ HasPushed s t [w] :=
  (HasPushed.nil hm).push16 hr (by decide) w

/-- An instruction that pushes and does nothing else. -/
theorem HasPushed.retire {ws : List Word} (h : HasPushed s t ws) : t.retire = past { s with
    mem := t.mem, gpr := { s.gpr with sp := s.gpr.sp - BitVec.ofNat 16 (2 * ws.length) } } := congrArg State.retire h.rest

theorem pushaAll_of_room (hm : s.mem.wf = true) (hr : StackRoom s 8) : ∃ t, pushaAll s = .ok t ∧ HasPushed s t (pushaWords s) := by
  obtain ⟨t, ht, hp⟩ := pushAll_of_room (ws := pushaWords s) hm hr (by simp [pushaWords])
  refine ⟨t, ?_, hp⟩
  rw [pushaAll, hr.canPush]
  exact ht

/-! ### POP -/

theorem popReg_of_ok (h : WordOk s .ss s.gpr.sp .read) (r : Reg16) :
    popReg r s = .ok ((s.setSp (s.gpr.sp + 2)).setReg16 r (s.segWord .ss s.gpr.sp)) := by
  rw [popReg, pop16_of_ok h]
  rfl

theorem popRm_of_ok {e : Rm16} (hs : WordOk s .ss s.gpr.sp .read) (h : Rm16Ok s e .write) :
    popRm e s = .ok (storeRm16 (s.setSp (s.gpr.sp + 2)) e (s.segWord .ss s.gpr.sp)) := by
  rw [popRm, (stackFits_iff s _ _).2 hs.1, checkRm16_of_ok h, State.stackGet_top hs]
  rfl

/-- SP takes no part in an effective address (30_encoding.md R211). -/
theorem State.setSp_effOffset (s : State) (v : Word) (m : MemOp) : (s.setSp v).effOffset m = s.effOffset m := by
  cases m with
  | direct off => rfl
  | based b d => cases b <;> rfl

theorem storeRm16_setSp {m : MemOp} (h : Rm16Ok s (.mem m) .write) (x v : Word) :
    storeRm16 (s.setSp x) (.mem m) v = (storeRm16 s (.mem m) v).setSp x := by
  have hs : storeRm16 s (.mem m) v = _ := State.segPut16_ram h.2 v
  show (s.setSp x).segPut16 (s.memSeg m) ((s.setSp x).effOffset m) v = _
  rw [State.setSp_effOffset, hs, State.segPut16_ram (s := s.setSp x) h.2]
  rfl

theorem popaAll_of_ok (h : StackHolds s 8) : popaAll s = .ok { s with gpr := {
    di := s.segWord .ss s.gpr.sp
    si := s.segWord .ss (s.gpr.sp + 2)
    bp := s.segWord .ss (s.gpr.sp + 4)
    sp := s.gpr.sp + 16
    bx := s.segWord .ss (s.gpr.sp + 8)
    dx := s.segWord .ss (s.gpr.sp + 10)
    cx := s.segWord .ss (s.gpr.sp + 12)
    ax := s.segWord .ss (s.gpr.sp + 14) } } := by
  have hcan : canPop s 8 = true := (canPop_iff s 8).2 fun i hi => (h i hi).1
  have h2 : s.stackGet 2 = _ := h.stackGet (i := 1) (by decide)
  have h4 : s.stackGet 4 = _ := h.stackGet (i := 2) (by decide)
  have h6 : s.stackGet 6 = _ := h.stackGet (i := 3) (by decide)
  have h8 : s.stackGet 8 = _ := h.stackGet (i := 4) (by decide)
  have h10 : s.stackGet 10 = _ := h.stackGet (i := 5) (by decide)
  have h12 : s.stackGet 12 = _ := h.stackGet (i := 6) (by decide)
  have h14 : s.stackGet 14 = _ := h.stackGet (i := 7) (by decide)
  simp only [popaAll, hcan, State.stackGet_top h.top, h2, h4, h6, h8, h10, h12, h14]
  rfl

end

/-- Settles O22: PUSH is one word of `HasPushed`; POP stores the word at the top once SP has moved. -/
theorem pushPop : Obligations.PushPop := by
  unfold Obligations.PushPop
  refine ⟨?push, ?popReg, ?popMem⟩
  case push =>
    intro f s hl hm hf hr
    obtain ⟨t, ht, hp⟩ := push16_of_room hm hr (f.value s)
    exact ⟨t.retire, (PushForm.exec_of_ok hf hr).trans (runInstr_of_ok hl ht), hp.retire, hp.pushed⟩
  case popReg =>
    rintro r i s hl hs (rfl | rfl)
    · exact runInstr_of_ok hl (popReg_of_ok hs.top r)
    · exact runInstr_of_ok hl (popRm_of_ok (e := .reg r) hs.top trivial)
  case popMem =>
    intro m s hl hm hs he
    obtain ⟨hafter, -, hmem⟩ := storeRm16_wrote (u := s) hm rfl he (s.segWord .ss s.gpr.sp)
    have ht := popRm_of_ok hs.top he
    rw [storeRm16_setSp he] at ht
    refine ⟨_, runInstr_of_ok hl ht, ?_, hafter, hmem⟩
    have hg : (storeRm16 s (.mem m) (s.segWord .ss s.gpr.sp)).gpr = s.gpr := State.segPut16_gpr s _ _ _
    rw [storeRm16_plain he, hg]
    rfl

/-- Settles O23: PUSHA is the eight words of `HasPushed`; POPA reads the eight words a stack holds. -/
theorem pushAllPopAll : Obligations.PushAllPopAll := by
  unfold Obligations.PushAllPopAll
  constructor
  · intro s hl hm hr
    obtain ⟨t, ht, hp⟩ := pushaAll_of_room hm hr
    exact ⟨t.retire, runInstr_of_ok hl ht, hp.retire, hp.pushed⟩
  · intro s hl hs
    exact runInstr_of_ok hl (popaAll_of_ok hs)

end Sys2Proof.Machine
end

section
/-! PROOF of O24 and O25: POPF, SAHF and LAHF, XLAT and LEA.  The machine writes half a register as a concatenation of bytes, the
statements as arithmetic: `withLow_eq_pair` and `withHigh_eq_pair` say that these are the same. -/

namespace Sys2Proof.Machine

section
variable {s : State}

/-! ### Halves of a word as numbers -/

theorem loByte_toNat (w : Word) : (loByte w).toNat = w.toNat % 256 := by
  simp [loByte]

theorem hiByte_toNat (w : Word) : (hiByte w).toNat = w.toNat / 256 := by
  have := w.isLt
  simp only [hiByte, BitVec.extractLsb'_toNat, Nat.shiftRight_eq_div_pow]
  omega

theorem withLow_eq_pair (w : Word) (b : Byte) : withLow w b = pair (w.toNat / 256) b.toNat := by
  rw [withLow, ← pair_eq_mkWord, hiByte_toNat]

theorem withHigh_eq_pair (w : Word) (b : Byte) : withHigh w b = pair b.toNat (w.toNat % 256) := by
  rw [withHigh, ← pair_eq_mkWord, loByte_toNat]

theorem hiByte_getLsbD (w : Word) {i : Nat} (h : i < 8) : (hiByte w).getLsbD i = w.getLsbD (8 + i) := by
  rw [hiByte, BitVec.getLsbD_extractLsb', decide_eq_true h, Bool.true_and]

/-! ### FLAGS from the stack and to and from AH -/

/-- FLAGS as POPF loads them, in either mode (10_state.md R46, R47). -/
theorem restored_eq_loadedFlags (s : State) (w : Word) :
    (if s.msw.pe then s.flags.restore w s.cpl else s.flags.restoreReal w) = loadedFlags s w := by
  cases hp : s.msw.pe with
  | false => simp [Flags.restoreReal, Flags.ofWord, loadedFlags, hp]
  | true =>
    have hif : ∀ a b : Bool, (if s.cpl ≤ s.flags.iopl then a else b) = if s.flags.iopl < s.cpl then b else a := fun a b => by
      simp only [← BitVec.not_lt, ite_not]
    simp [Flags.restore, Flags.ofWord, loadedFlags, hp, hif]

theorem popFlags_of_ok (h : WordOk s .ss s.gpr.sp .read) :
    popFlags s = .ok ((s.setSp (s.gpr.sp + 2)).setFlags (loadedFlags s (s.segWord .ss s.gpr.sp))) := by
  rw [popFlags, pop16_of_ok h, ← restored_eq_loadedFlags]
  rfl

/-- The five flags of AH are bits 15, 14, 12, 10 and 8 of AX. -/
theorem ofAh_eq (s : State) : s.flags.ofAh (s.reg8 .ah) = { s.flags with
    sf := s.gpr.ax.getLsbD 15, zf := s.gpr.ax.getLsbD 14, af := s.gpr.ax.getLsbD 12, pf := s.gpr.ax.getLsbD 10,
    cf := s.gpr.ax.getLsbD 8 } := by
  have hb : ∀ i, i < 8 → (s.reg8 .ah).getLsbD i = s.gpr.ax.getLsbD (8 + i) := fun i hi => hiByte_getLsbD s.gpr.ax hi
  simp only [Flags.ofAh, hb, Nat.reduceLT, Nat.reduceAdd]

/-- LAHF stores the low byte of FLAGS, which is `flagByte`. -/
theorem withHigh_flags (w : Word) (f : Flags) : withHigh w (loByte f.toWord) = pair (flagByte f) (w.toNat % 256) := by
  have hb : (loByte f.toWord).toNat = flagByte f % 256 := by
    rw [loByte_toNat, Flags.toWord_eq_flagWord, BitVec.toNat_ofNat, flagWord]
    omega
  rw [withHigh_eq_pair, hb, pair, Nat.mod_mod]
  rfl

/-! ### XLAT -/

theorem xlatByte_of_ok (h : Reachable s (sourceSeg s) (s.gpr.bx + zext16 (s.reg8 .al)) 1 .read) :
    xlatByte s = .ok (s.setReg8 .al (s.segByte (sourceSeg s) (s.gpr.bx + zext16 (s.reg8 .al)))) := by
  show (segRead8 s (sourceSeg s) _ >>= _) = _
  rw [segRead8, segCheck_of_accessible h.1, State.segGet8_memory h.2 (show 0 < 1 by omega)]
  rfl

end

/-- Settles O24: the image is a number (`Flags.toWord_eq_flagWord`), and its bits are what POPF, SAHF and LAHF move. -/
theorem flagImages : Obligations.FlagImages := by
  unfold Obligations.FlagImages
  refine ⟨fun s => s.flags.toWord_eq_flagWord, fun s hl hs => runInstr_of_ok hl (popFlags_of_ok hs.top), fun s hl => ⟨?sahf, ?lahf⟩⟩
  case sahf =>
    rw [← ofAh_eq]
    exact runInstr_of_ok hl rfl
  case lahf =>
    rw [← withHigh_flags]
    exact runInstr_of_ok hl rfl

/-- Settles O25: XLAT's byte is read from plain memory; LEA makes no reference. -/
theorem translateAndAddress : Obligations.TranslateAndAddress := by
  unfold Obligations.TranslateAndAddress
  constructor
  · intro s hl h
    rw [← xlat_offset] at h ⊢
    rw [← withLow_eq_pair]
    exact runInstr_of_ok hl (xlatByte_of_ok h)
  · intro r m s hl
    exact runInstr_of_ok hl rfl

end Sys2Proof.Machine
end

section
/-! PROOF of O26: IN and OUT.  Where no RESET falls into the step a port access counts no cycle and its word is not cut in two, so it is
what the feed and the record of accesses say. -/

namespace Sys2Proof.Machine

section
variable {s : State}

/-! ### Ports where no RESET falls into the step -/

/-- A port's byte: what the feed holds for it first, else free; the feed and the counter of free values are all that changes. -/
theorem State.portByte_fed (h : Unreset s) (p : Word) :
    Fed s.portFeed p (s.portByte p).1 (s.portByte p).2.portFeed ∧
      (s.portByte p).2 = { s with portFeed := (s.portByte p).2.portFeed, freeCtr := (s.portByte p).2.freeCtr } := by
  unfold State.portByte
  rw [State.dead_unreset h]
  cases hf : takeFeed p s.portFeed with
  | none => exact ⟨.inr ⟨takeFeed_none hf, rfl⟩, rfl⟩
  | some x => exact ⟨.inl (takeFeed_some hf), rfl⟩

theorem State.record_unreset (h : Unreset s) (e : PortEvent) : s.record e = { s with portLog := s.portLog ++ [e] } := by
  rw [State.record, State.dead_unreset h]
  rfl

theorem State.portGap_unreset (h : Unreset s) (p : Word) (e : PortEvent) : s.portGap p e = s := by
  have hc : (s.record e).cycle = { s with portLog := s.portLog ++ [e] } := by
    rw [State.cycle_unreset (h.record e), State.record_unreset h]
  unfold State.portGap
  rw [hc]
  dsimp only
  rw [State.dead_unreset (s := { s with portLog := s.portLog ++ [e] }) h]
  exact ite_self s

/-- A byte read from a port, and all that the read changes. -/
theorem State.portRead8_in (h : Unreset s) (p : Word) :
    PortIn8 s (s.portRead8 p).2 p (s.portRead8 p).1 ∧ (s.portRead8 p).2 = { s with
      portLog := (s.portRead8 p).2.portLog, portFeed := (s.portRead8 p).2.portFeed, freeCtr := (s.portRead8 p).2.freeCtr } := by
  obtain ⟨hfed, hrest⟩ := State.portByte_fed h p
  unfold State.portRead8
  rw [State.cycle_unreset h]
  dsimp only
  rw [State.record_unreset (h.portByte p)]
  refine ⟨⟨hfed, ?_⟩, ?_⟩ <;> rw [hrest]

/-- A word read from a port and the next, and all that the reads change. -/
theorem State.portRead16_in (h : Unreset s) (p : Word) :
    PortIn16 s (s.portRead16 p).2 p (s.portRead16 p).1 ∧ (s.portRead16 p).2 = { s with
      portLog := (s.portRead16 p).2.portLog, portFeed := (s.portRead16 p).2.portFeed, freeCtr := (s.portRead16 p).2.freeCtr } := by
  have hu := h.portByte p
  obtain ⟨hlo, hlorest⟩ := State.portByte_fed h p
  obtain ⟨hhi, hhirest⟩ := State.portByte_fed hu (p + 1)
  unfold State.portRead16
  rw [State.cycle_unreset h]
  dsimp only
  rw [State.portGap_unreset hu, State.record_unreset (hu.portByte (p + 1))]
  refine ⟨⟨⟨_, _, _, hlo, hhi, (pair_eq_mkWord _ _).symm⟩, ?_⟩, ?_⟩ <;> rw [hhirest, hlorest]

theorem State.portWrite8_unreset (h : Unreset s) (p : Word) (v : Byte) :
    s.portWrite8 p v = { s with portLog := s.portLog ++ [.write8 p v] } := by
  rw [State.portWrite8, State.cycle_unreset h, State.record_unreset h]

theorem State.portWrite16_unreset (h : Unreset s) (p v : Word) :
    s.portWrite16 p v = { s with portLog := s.portLog ++ [.write16 p v] } := by
  rw [State.portWrite16, State.cycle_unreset h, State.portGap_unreset h, State.record_unreset h]

/-! ### The instructions -/

theorem zext16_eq_ofNat (v : Byte) : zext16 v = BitVec.ofNat 16 v.toNat := by
  apply BitVec.eq_of_toNat_eq
  simp [zext16]

theorem inByte_of_allowed (h : IoAllowed s) (p : Word) :
    inByte p s = .ok ((s.portRead8 p).2.setReg8 .al (s.portRead8 p).1) := by
  rw [inByte, ioplGuard_of_allowed h]
  rfl

theorem inWord_of_allowed (h : IoAllowed s) (p : Word) :
    inWord p s = .ok ((s.portRead16 p).2.setReg16 .ax (s.portRead16 p).1) := by
  rw [inWord, ioplGuard_of_allowed h]
  rfl

theorem outByte_of_allowed (h : IoAllowed s) (hu : Unreset s) (p : Word) :
    outByte p s = .ok { s with portLog := s.portLog ++ [.write8 p (s.reg8 .al)] } := by
  rw [outByte, ioplGuard_of_allowed h, State.portWrite8_unreset hu]
  rfl

theorem outWord_of_allowed (h : IoAllowed s) (hu : Unreset s) (p : Word) :
    outWord p s = .ok { s with portLog := s.portLog ++ [.write16 p s.gpr.ax] } := by
  rw [outWord, ioplGuard_of_allowed h, State.portWrite16_unreset hu]
  rfl

end

/-- Settles O26: IN is `State.portRead8_in` and `State.portRead16_in`, OUT one entry more in the record. -/
theorem ports : Obligations.Ports := by
  unfold Obligations.Ports
  refine ⟨?inByte, ?inWord, fun s v hl hio hu => ⟨?outDbAl, ?outDbAx, ?outDxAl, ?outDxAx⟩⟩
  case inByte =>
    intro s i p hl hio hu hi
    have hx : exec i s = runInstr s (inByte p s) := by
      rcases hi with ⟨v, rfl, rfl⟩ | ⟨rfl, rfl⟩
      · rw [← zext16_eq_ofNat]
        rfl
      · rfl
    obtain ⟨hin, hrest⟩ := State.portRead8_in hu p
    refine ⟨_, _, hx.trans (runInstr_of_ok hl (inByte_of_allowed hio p)), hin, ?_⟩
    rw [← withLow_eq_pair, hrest]
    rfl
  case inWord =>
    intro s i p hl hio hu hi
    have hx : exec i s = runInstr s (inWord p s) := by
      rcases hi with ⟨v, rfl, rfl⟩ | ⟨rfl, rfl⟩
      · rw [← zext16_eq_ofNat]
        rfl
      · rfl
    obtain ⟨hin, hrest⟩ := State.portRead16_in hu p
    refine ⟨_, _, hx.trans (runInstr_of_ok hl (inWord_of_allowed hio p)), hin, ?_⟩
    rw [hrest]
    rfl
  case outDbAl =>
    rw [← zext16_eq_ofNat]
    exact runInstr_of_ok hl (outByte_of_allowed hio hu _)
  case outDbAx =>
    rw [← zext16_eq_ofNat]
    exact runInstr_of_ok hl (outWord_of_allowed hio hu _)
  case outDxAl => exact runInstr_of_ok hl (outByte_of_allowed hio hu _)
  case outDxAx => exact runInstr_of_ok hl (outWord_of_allowed hio hu _)

end Sys2Proof.Machine
end

section
/-! PROOF of O27: loads of segment registers in Real Address Mode, where every load succeeds (`loadDataSeg_real`, `loadSs_real`). -/

namespace Sys2Proof.Machine

/-- Settles O27: the load succeeds, and its cache is that of the selector (`realCache_eq`). -/
theorem segLoadReal : Obligations.SegLoadReal := by
  unfold Obligations.SegLoadReal
  constructor
  · intro f s hl hp hf
    rw [SegLoadForm.exec_of_ok hl hf (loadDataSeg_real hp _ _) (State.setSeg_gpr _ _ _), State.setSeg_with_gpr, realCache_eq]
    rfl
  · intro f s hl hp hf
    rw [StackLoadForm.exec_of_ok hl hf (loadSs_real hp _) rfl, realCache_eq]
    rfl

end Sys2Proof.Machine
end

section
/-! PROOF of O14: stack words that can not be reached, in pushes, pops, far returns and far calls.  Each instruction answers what the first
of its checks that fails answers; an exception that follows reads of plain memory finds nothing changed (`raiseAt_seen`). -/

namespace Sys2Proof.Machine

section
variable {s : State} {x : Trap} {sel : Word} {d : Desc}

/-! ### Stack words that can not be reached -/

theorem stackFault_protected (hp : s.msw.pe = true) : stackFault s = trapSs0 := if_pos hp

theorem stackFault_real (hp : s.msw.pe = false) : stackFault s = trapGp0 := if_neg (Bool.eq_false_iff.1 hp)

theorem stackFits_of_not_accessible {off : Word} {k : Access} (h : ¬ Accessible s .ss off 2 k) : stackFits s off k = false :=
  Bool.eq_false_iff.2 fun e => h ((stackFits_iff s off k).1 e)

theorem canPush_of_not_room {n : Nat} (h : ¬ RoomBelow s n) : canPush s n = false :=
  Bool.eq_false_iff.2 fun e => h ((canPush_iff s n).1 e)

theorem canPop_of_not_above {n : Nat} (h : ¬ WordsAbove s n) : canPop s n = false :=
  Bool.eq_false_iff.2 fun e => h ((canPop_iff s n).1 e)

theorem not_accessible_of_not_room (h : ¬ RoomBelow s 1) : ¬ Accessible s .ss (s.gpr.sp - 2) 2 .write := by
  intro ha
  refine h fun i hi => ?_
  obtain rfl : i = 0 := by omega
  exact ha

theorem not_accessible_of_not_above (h : ¬ WordsAbove s 1) : ¬ Accessible s .ss s.gpr.sp 2 .read := by
  intro ha
  refine h fun i hi => ?_
  obtain rfl : i = 0 := by omega
  rwa [show s.gpr.sp + BitVec.ofNat 16 (2 * 0) = s.gpr.sp from BitVec.add_zero _]

/-! ### One word pushed or popped -/

theorem push16_fault (h : ¬ RoomBelow s 1) (v : Word) : push16 s v = .error (stackFault s) := by
  rw [push16, stackFits_of_not_accessible (not_accessible_of_not_room h)]
  rfl

theorem stackTop_fault (h : ¬ WordsAbove s 1) : stackTop s = .error (stackFault s) := by
  rw [stackTop, stackFits_of_not_accessible (not_accessible_of_not_above h)]
  rfl

theorem pop16_fault (h : ¬ WordsAbove s 1) : pop16 s = .error (stackFault s) := bind_error (stackTop_fault h) _

theorem checkRm16_of_open {e : Rm16} {k : Access} (h : Rm16Open s e k) : checkRm16 s e k = .ok () := by
  cases e with
  | reg r => rfl
  | mem m => exact segCheck_of_accessible h

theorem pushRm_fault {e : Rm16} (he : Rm16Open s e .read) (h : ¬ RoomBelow s 1) : pushRm e s = .error (stackFault s) := by
  rw [pushRm, checkRm16_of_open he, canPush_of_not_room h]
  rfl

theorem nearCall_fault (h : ¬ RoomBelow s 1) (t : Word) : nearCall s t = .error (stackFault s) := by
  rw [nearCall, canPush_of_not_room h]
  rfl

theorem nearCallRm_fault {e : Rm16} (he : Rm16Open s e .read) (h : ¬ RoomBelow s 1) : nearCallRm s e = .error (stackFault s) := by
  rw [nearCallRm, checkRm16_of_open he, canPush_of_not_room h]
  rfl

theorem PushForm.fault {f : PushForm} (hl : LockAllowed s) (hf : f.Open s) (h : ¬ RoomBelow s 1) :
    exec f.instr s = .next (raiseAt s (stackFault s)) := by
  cases f with
  | rm e => exact runInstr_of_error hl (pushRm_fault hf h)
  | seg r => cases r <;> exact runInstr_of_error hl (push16_fault h _)
  | reg | word | byte | flags => exact runInstr_of_error hl (push16_fault h _)

theorem popRm_fault (h : ¬ WordsAbove s 1) (e : Rm16) : popRm e s = .error (stackFault s) := by
  rw [popRm, stackFits_of_not_accessible (not_accessible_of_not_above h)]
  rfl

/-! ### Far transfers -/

/-- An exception of a far transfer in the state that the instruction found. -/
theorem runFar_of_error (hl : LockAllowed s) {r : Except Failure State} (h : r = failIn s (.error x)) :
    runFar s r = .next (raiseAt s x) := by
  rw [h]
  simp only [runFar, lockGuard_of_allowed hl]
  rfl

theorem farReturn_real_fault (hp : s.msw.pe = false) (h : ¬ WordsAbove s 2) (release : Word) :
    farReturn s release = failIn s (.error (stackFault s)) := by
  rw [farReturn, hp, stackFault_real hp]
  show failIn s (farReturnReal s release) = _
  rw [farReturnReal, canPop_of_not_above h]
  rfl

theorem farReturn_protected (hp : s.msw.pe = true) (release : Word) :
    farReturn s release = failIn s (farReturnProtected s release) := by
  rw [farReturn, hp]
  rfl

theorem interruptReturn_real_fault (hp : s.msw.pe = false) (h : ¬ WordsAbove s 3) :
    interruptReturn s = failIn s (.error (stackFault s)) := by
  rw [interruptReturn, hp, stackFault_real hp, iretReal, canPop_of_not_above h]
  rfl

/-- IRET with NT clear in Protected Mode fails as its return through the stack fails. -/
theorem interruptReturn_stack_fault (hp : s.msw.pe = true) (hn : s.flags.nt = false) (h : iretStack s = .error x) :
    interruptReturn s = failIn s (.error x) := by
  rw [interruptReturn, hp, hn, h]
  rfl

/-! ### Returns in Protected Mode -/

/-- The selector's word comes first. -/
theorem farReturnProtected_selector_fault (h : ¬ Accessible s .ss (s.gpr.sp + 2) 2 .read) (release : Word) :
    farReturnProtected s release = .error trapSs0 := by
  rw [farReturnProtected, stackFits_of_not_accessible h]
  rfl

theorem iretStack_selector_fault (h : ¬ Accessible s .ss (s.gpr.sp + 2) 2 .read) : iretStack s = .error trapSs0 := by
  rw [iretStack, stackFits_of_not_accessible h]
  rfl

/-- The selector read from plain memory, the rest of the return is to the same level or outward. -/
theorem farReturnProtected_of_selector (h : WordOk s .ss (s.gpr.sp + 2) .read) (hs : sel = s.segWord .ss (s.gpr.sp + 2))
    (hr : s.cpl ≤ rpl sel) (release : Word) :
    farReturnProtected s release = afterReads s (if rpl sel = s.cpl then retSame s sel release else retOuter s sel release) := by
  have hg : s.stackGet 2 = (sel, s) := hs ▸ State.segGet16_memory h.2
  rw [farReturnProtected, (stackFits_iff s _ _).2 h.1, hg]
  simp only [decide_eq_true hr]
  rfl

theorem iretStack_of_selector (h : WordOk s .ss (s.gpr.sp + 2) .read) (hs : sel = s.segWord .ss (s.gpr.sp + 2))
    (hr : s.cpl ≤ rpl sel) :
    iretStack s = afterReads s (if rpl sel = s.cpl then iretSame s sel else iretOuter s sel) := by
  have hg : s.stackGet 2 = (sel, s) := hs ▸ State.segGet16_memory h.2
  rw [iretStack, (stackFits_iff s _ _).2 h.1, hg]
  simp only [decide_eq_true hr]
  rfl

/-- The frame of a return to the same level is three words, that of a return outward five. -/
theorem iretStack_frame_fault (h : WordOk s .ss (s.gpr.sp + 2) .read) (hs : sel = s.segWord .ss (s.gpr.sp + 2))
    (hf : (rpl sel = s.cpl ∧ ¬ WordsAbove s 3) ∨ (s.cpl < rpl sel ∧ ¬ WordsAbove s 5)) :
    iretStack s = .error { trapSs0 with bus := some s.bus } := by
  rcases hf with ⟨hr, hw⟩ | ⟨hr, hw⟩
  · rw [iretStack_of_selector h hs (BitVec.le_of_eq hr.symm), if_pos hr, iretSame, canPop_of_not_above hw]
    rfl
  · rw [iretStack_of_selector h hs (BitVec.le_of_lt hr), if_neg (BitVec.ne_of_lt hr).symm, iretOuter, canPop_of_not_above hw]
    rfl

/-- A code segment that a return may enter at the level of its selector. -/
theorem returnCode_of_codeAt (ha : Alone s) (hn : 4 ≤ sel.toNat) (hd : s.fetchDesc sel = some d) (hc : CodeAt d (rpl sel)) :
    returnCode s sel = .ok (d, s) := by
  obtain ⟨hcode, hlevel, hpr⟩ := hc
  simp only [returnCode, nullSel_eq_false hn, fetchOr_alone ha hd, hcode, hpr, Bool.not_false, require_true, bind, Except.bind]
  cases hcf : conforming d.ar with
  | true =>
    rw [if_pos hcf] at hlevel
    simp only [decide_eq_true hlevel]
    rfl
  | false =>
    rw [if_neg (Bool.eq_false_iff.1 hcf)] at hlevel
    simp only [decide_eq_true hlevel]
    rfl

/-- The frame of a far return outward is one block; that to the same level is checked once the code segment has passed its checks. -/
theorem farReturnProtected_frame_fault {release : Word} (h : WordOk s .ss (s.gpr.sp + 2) .read)
    (hs : sel = s.segWord .ss (s.gpr.sp + 2))
    (hf : (s.cpl < rpl sel ∧ ¬ Accessible s .ss s.gpr.sp (8 + release.toNat) .read) ∨
      (rpl sel = s.cpl ∧ 4 ≤ sel.toNat ∧ (∃ d, s.fetchDesc sel = some d ∧ CodeAt d s.cpl) ∧ ¬ WordsAbove s 1)) :
    farReturnProtected s release = .error { trapSs0 with bus := some s.bus } := by
  rcases hf with ⟨hr, hw⟩ | ⟨hr, hn, ⟨d, hd, hc⟩, hw⟩
  · rw [farReturnProtected_of_selector h hs (BitVec.le_of_lt hr), if_neg (BitVec.ne_of_lt hr).symm, retOuter,
      segCheck_of_not_accessible hw]
    rfl
  · rw [farReturnProtected_of_selector h hs (BitVec.le_of_eq hr.symm), if_pos hr, retSame,
      returnCode_of_codeAt h.2.1 hn hd (hr ▸ hc)]
    show afterReads s (afterReads s (require (canPop s 1) trapSs0 >>= _)) = _
    rw [canPop_of_not_above hw]
    rfl

/-! ### Far CALL -/

theorem pushReturn_fault (h : ¬ RoomBelow s 2) : pushReturn s = .error (stackFault s) := by
  rw [pushReturn, canPush_of_not_room h]
  rfl

theorem farCall_real_fault (hp : s.msw.pe = false) (h : ¬ RoomBelow s 2) (sel off : Word) :
    farCall s sel off = failIn s (.error (stackFault s)) := by
  rw [farCall, hp, pushReturn_fault h]
  rfl

theorem farCallIndirect_real_fault {m : MemOp} (hp : s.msw.pe = false) (hm : PointerOpen s m) (h : ¬ RoomBelow s 2) :
    farCallIndirect s m = failIn s (.error (stackFault s)) := by
  rw [farCallIndirect, (checkPointer_iff s m).2 hm, hp, canPush_of_not_room h]
  rfl

theorem checkCodeTarget_of_codeAt (hc : CodeAt d s.cpl) (hr : conforming d.ar = false → rpl sel ≤ s.cpl) :
    checkCodeTarget s sel d = .ok () := by
  obtain ⟨hcode, hlevel, hpr⟩ := hc
  unfold checkCodeTarget
  rw [hcode, hpr]
  cases hcf : conforming d.ar with
  | true =>
    rw [if_pos hcf] at hlevel
    rw [decide_eq_true hlevel]
    rfl
  | false =>
    rw [if_neg (Bool.eq_false_iff.1 hcf)] at hlevel
    rw [decide_eq_true (hr hcf), decide_eq_true hlevel]
    rfl

/-- In Protected Mode the room for the return link is checked once the code segment has passed its checks. -/
theorem farCall_protected_fault (hp : s.msw.pe = true) (ha : Alone s) (hn : 4 ≤ sel.toNat) (hd : s.fetchDesc sel = some d)
    (hc : CodeAt d s.cpl) (hr : conforming d.ar = false → rpl sel ≤ s.cpl) (h : ¬ RoomBelow s 2) (off : Word) :
    farCall s sel off = failIn s (.error (stackFault s)) := by
  have hcall : callCode s sel d off = .error (stackFault s) := by
    rw [callCode, checkCodeTarget_of_codeAt hc hr]
    show callSame s sel d off = _
    rw [callSame, canPush_of_not_room h]
    rfl
  rw [farCall, hp, nullSel_eq_false hn, fetchOr_alone ha hd]
  show (if isCode d.ar then failIn s (callCode s sel d off) else _) = _
  rw [if_pos hc.1, hcall]

/-- In Protected Mode a far CALL through a pointer in plain memory is that of the selector and offset it holds. -/
theorem farCallIndirect_protected {m : MemOp} (hp : s.msw.pe = true) (hm : PointerOk s m) : farCallIndirect s m =
    farCall s (s.segWord (s.memSeg m) (s.effOffset m + 2)) (s.segWord (s.memSeg m) (s.effOffset m)) := by
  have hg : s.memWord m 0 = (s.segWord (s.memSeg m) (s.effOffset m), s) := by
    rw [State.memWord, show s.effOffset m + 0 = s.effOffset m from BitVec.add_zero _]
    exact State.segGet16_memory hm.1.2
  have hg2 : s.memWord m 2 = (s.segWord (s.memSeg m) (s.effOffset m + 2), s) := State.segGet16_memory hm.2.2
  rw [farCallIndirect, (checkPointer_iff s m).2 ⟨hm.1.1, hm.2.1⟩, hp]
  show farCall (s.getPointer m).st (s.getPointer m).sel (s.getPointer m).off = _
  simp only [State.getPointer, hg, hg2]

theorem FarCall.exec_of_ok {i : Instr} {off : Word} (hp : s.msw.pe = true) (h : FarCall i s sel off) :
    exec i s = runFar s (farCall s sel off) := by
  rcases h with rfl | ⟨m, rfl, hm, rfl, rfl⟩
  · rfl
  · exact congrArg (runFar s) (farCallIndirect_protected hp hm)

end

end Sys2Proof.Machine
end

section
/-! PROOF of O14, concluded: ENTER and LEAVE, the string instructions, and the statement. -/

namespace Sys2Proof.Machine

section
variable {s : State} {x : Trap}

/-! ### ENTER and LEAVE -/

theorem readable_of_writable {ar : Byte} (h : writable ar = true) : readable ar = true := by
  unfold writable at h
  unfold readable
  rw [(Bool.and_eq_true_iff.1 h).1, Bool.true_or]

/-- A stack that can be written fails a read by its limit alone, which is #SS(0). -/
theorem refTrap_stack {off : Word} {n : Nat} (h : Accessible s .ss off n .write) : refTrap s .ss .read = stackFault s := by
  cases hp : s.msw.pe with
  | false => rw [refTrap, if_neg fun e => Bool.false_ne_true (hp.symm.trans e.1), stackFault_real hp]; rfl
  | true =>
    unfold Accessible at h
    rw [if_pos hp] at h
    obtain ⟨-, hw, -⟩ := h
    rw [refTrap, if_pos ⟨hp, rfl, .inr (readable_of_writable hw)⟩, stackFault_protected hp]
    rfl

/-- The display words either all pass their checks or the exception is that of a read through SS. -/
theorem displayFits_cases (s : State) (bp : Word) (n : Nat) :
    (displayFits s bp n = .ok () ∧ ∀ k, 1 ≤ k → k ≤ n → Accessible s .ss (bp - BitVec.ofNat 16 (2 * k)) 2 .read) ∨
      displayFits s bp n = .error (refTrap s .ss .read) := by
  induction n generalizing bp with
  | zero => exact .inl ⟨rfl, fun k h1 h0 => by omega⟩
  | succ n ih =>
    by_cases ha : Accessible s .ss (bp - 2) 2 .read
    · rw [displayFits, segCheck_of_accessible ha]
      rcases ih (bp - 2) with ⟨hok, hall⟩ | herr
      · refine .inl ⟨hok, fun k h1 hk => ?_⟩
        by_cases hk1 : k = 1
        · rw [hk1]
          exact ha
        · have e : bp - 2 - BitVec.ofNat 16 (2 * (k - 1)) = bp - BitVec.ofNat 16 (2 * k) := by
            apply BitVec.eq_of_toNat_eq
            simp only [BitVec.toNat_sub, BitVec.toNat_ofNat, BitVec.ofNat_eq_ofNat]
            omega
          rw [← e]
          exact hall (k - 1) (by omega) (by omega)
      · exact .inr herr
    · exact .inr (bind_error (segCheck_of_not_accessible ha) _)

theorem enterRoom_fault {size sp : Word} (hp : s.msw.pe = true) (hz : size ≠ 0) (h : ¬ Accessible s .ss sp 2 .write) :
    enterRoom s size sp = .error (stackFault s) := by
  rw [enterRoom, hp, decide_eq_true hz, stackFits_of_not_accessible h, stackFault_protected hp]
  rfl

theorem leaveFrame_fault (h : ¬ Accessible s .ss s.gpr.bp 2 .read) : leaveFrame s = .error (stackFault s) := by
  rw [leaveFrame, stackFits_of_not_accessible h]
  rfl

/-- ENTER checks its words, the display's and the final SP in this order; whichever fails first, the exception is the same. -/
theorem enterFrame_fault {size : Word} {level : Byte} {l n : Nat} (hlev : l = level.toNat % 32) (hn : n = enterWords l)
    (h : ¬ RoomBelow s n ∨ (∃ k, 1 ≤ k ∧ k < l ∧ ¬ Accessible s .ss (s.gpr.bp - BitVec.ofNat 16 (2 * k)) 2 .read) ∨
      (s.msw.pe = true ∧ size ≠ 0 ∧ ¬ Accessible s .ss (s.gpr.sp - BitVec.ofNat 16 (2 * n) - size) 2 .write)) :
    enterFrame size level s = .error (stackFault s) := by
  unfold enterFrame
  dsimp only
  rw [← hlev, ← hn]
  by_cases hroom : RoomBelow s n
  · have hpos : 0 < n := by
      rw [hn, enterWords]
      split <;> omega
    rw [(canPush_iff s n).2 hroom]
    rcases displayFits_cases s s.gpr.bp (l - 1) with ⟨hok, hall⟩ | herr
    · rw [hok]
      rcases h with h | ⟨k, h1, hk, ha⟩ | ⟨hp, hz, ha⟩
      · exact absurd hroom h
      · exact absurd (hall k h1 (by omega)) ha
      · exact bind_error (enterRoom_fault hp hz ha) _
    · rw [herr, refTrap_stack (hroom 0 hpos)]
      rfl
  · rw [canPush_of_not_room hroom]
    rfl

/-! ### String elements -/

/-- One iteration of a string operation. -/
def StringKind.once (w : Elem) : StringKind → State → Except Trap State
  | .movs => movsOnce w
  | .cmps => cmpsOnce w
  | .scas => scasOnce w
  | .lods => lodsOnce w
  | .stos => stosOnce w
  | .ins => insOnce w
  | .outs => outsOnce w

theorem StringKind.exec_instr (k : StringKind) (w : Elem) (s : State) :
    exec (k.instr w) s = runString k.compares k.lockable (k.once w) s := by
  cases k <;> cases w <;> rfl

theorem StringKind.refs_withLock (k : StringKind) (s : State) (l : BusLock) : k.refs (s.withLock l) = k.refs s := by
  cases k <;> rfl

/-- The first reference is checked before all else but the privilege of INS and OUTS. -/
theorem StringKind.once_first_fault {k : StringKind} {w : Elem} {r : SegReg} {off : Word} {a : Access}
    {rest : List (SegReg × Word × Access)} (hio : (k = .ins ∨ k = .outs) → IoAllowed s) (hrefs : k.refs s = (r, off, a) :: rest)
    (ha : ¬ Accessible s r off w.size a) : k.once w s = .error (refTrap s r a) := by
  have hc := segCheck_of_not_accessible ha
  cases k with
  | movs | cmps | scas | lods | stos =>
    cases hrefs
    exact bind_error hc _
  | ins =>
    cases hrefs
    show insOnce w s = _
    rw [insOnce, ioplGuard_of_allowed (hio (.inl rfl))]
    exact bind_error hc _
  | outs =>
    cases hrefs
    show outsOnce w s = _
    rw [outsOnce, ioplGuard_of_allowed (hio (.inr rfl))]
    exact bind_error hc _

/-- MOVS and CMPS check a second reference, before they make a read. -/
theorem StringKind.once_second_fault {k : StringKind} {w : Elem} {q r : SegReg} {o off : Word} {b a : Access}
    (hrefs : k.refs s = [(q, o, b), (r, off, a)]) (hb : Accessible s q o w.size b) (ha : ¬ Accessible s r off w.size a) :
    k.once w s = .error (refTrap s r a) := by
  have hc := segCheck_of_not_accessible ha
  cases k with
  | movs =>
    cases hrefs
    show movsOnce w s = _
    rw [movsOnce, srcCheck_of_accessible w hb]
    exact bind_error hc _
  | cmps =>
    cases hrefs
    show cmpsOnce w s = _
    rw [cmpsOnce, srcCheck_of_accessible w hb]
    exact bind_error hc _
  | scas | lods | stos | ins | outs => exact nomatch hrefs

/-- A string instruction takes the exception of its iteration, locked or not, unless a repetition makes none. -/
theorem runString_fault {once : State → Except Trap State} (hl : LockAllowed s) (hrep : s.pfx.rep = none ∨ s.gpr.cx ≠ 0)
    (h : ∀ t, t = s ∨ t = s.withLock .active → once t = .error x) (hx : x.bus = none) (compares lockable : Bool) :
    runString compares lockable once s = .next (raiseAt s x) := by
  have hiter : ∀ g : State → Except Trap State,
      (if (lockable && s.pfx.lock) = true then locked once s >>= g else once s >>= g) = .error x := fun g => by
    split
    · exact bind_error (locked_of_error (h _ (.inr rfl)) hx) g
    · exact bind_error (h s (.inl rfl)) g
  have hop : stringOp compares (lockable && s.pfx.lock) once s = .error x := by
    unfold stringOp
    cases hr : s.pfx.rep with
    | none => exact hiter _
    | some k =>
      dsimp only
      rw [if_neg (hrep.resolve_left (by rw [hr]; nofun))]
      exact hiter _
  unfold runString
  rw [lockGuard_of_allowed hl, hop]
  rfl

theorem StringKind.exec_first_fault {k : StringKind} {w : Elem} {r : SegReg} {off : Word} {a : Access}
    {rest : List (SegReg × Word × Access)} (hl : LockAllowed s) (hio : (k = .ins ∨ k = .outs) → IoAllowed s)
    (hrep : s.pfx.rep = none ∨ s.gpr.cx ≠ 0) (hrefs : k.refs s = (r, off, a) :: rest) (ha : ¬ Accessible s r off w.size a) :
    exec (k.instr w) s = .next (raiseAt s (refTrap s r a)) := by
  rw [k.exec_instr]
  refine runString_fault hl hrep (fun t ht => ?_) (refTrap_bus s r a) _ _
  rcases ht with rfl | rfl
  · exact k.once_first_fault hio hrefs ha
  · exact k.once_first_fault (s := s.withLock .active) hio ((k.refs_withLock s .active).trans hrefs) ha

theorem StringKind.exec_second_fault {k : StringKind} {w : Elem} {q r : SegReg} {o off : Word} {b a : Access} (hl : LockAllowed s)
    (hrep : s.pfx.rep = none ∨ s.gpr.cx ≠ 0) (hrefs : k.refs s = [(q, o, b), (r, off, a)]) (hb : Accessible s q o w.size b)
    (ha : ¬ Accessible s r off w.size a) : exec (k.instr w) s = .next (raiseAt s (refTrap s r a)) := by
  rw [k.exec_instr]
  refine runString_fault hl hrep (fun t ht => ?_) (refTrap_bus s r a) _ _
  rcases ht with rfl | rfl
  · exact k.once_second_fault hrefs hb ha
  · exact k.once_second_fault (s := s.withLock .active) ((k.refs_withLock s .active).trans hrefs) hb ha

end

/-- Settles O14: each instruction answers what the first of its checks that fails answers. -/
theorem stackAndStringFault : Obligations.StackAndStringFault := by
  unfold Obligations.StackAndStringFault
  refine ⟨?push, ?pusha, ?pop, ?popa, ?returnReal, ?selector, ?iretFrame, ?retfFrame, ?callReal, ?callProtected, ?enter, ?leave,
    fun k w s hl hio hrep => ⟨fun r off a rest => k.exec_first_fault hl hio hrep, fun q r o off b a => k.exec_second_fault hl hrep⟩⟩
  case push =>
    rintro i s hl h (⟨f, hf, rfl⟩ | ⟨d, rfl⟩ | ⟨e, he, rfl⟩)
    · exact f.fault hl hf h
    · exact runJump_of_error hl (nearCall_fault h _)
    · exact runJump_of_error hl (nearCallRm_fault he h)
  case pusha =>
    intro s hl h
    refine runInstr_of_error hl ?_
    rw [pushaAll, canPush_of_not_room h]
    rfl
  case pop =>
    rintro i s hl h (⟨r, rfl⟩ | ⟨e, rfl⟩ | rfl | rfl | rfl | rfl | rfl | ⟨v, rfl⟩)
    · exact runInstr_fault hl (pop16_fault h) _
    · exact runInstr_of_error hl (popRm_fault h e)
    · exact runInstr_fault hl (pop16_fault h) _
    · exact runInstr_fault hl (stackTop_fault h) _
    · exact runInstr_fault hl (stackTop_fault h) _
    · exact runInstr_fault hl (stackTop_fault h) _
    · exact runJump_fault hl (pop16_fault h) _
    · exact runJump_fault hl (pop16_fault h) _
  case popa =>
    intro s hl h
    refine runInstr_of_error hl ?_
    rw [popaAll, canPop_of_not_above h]
    rfl
  case returnReal =>
    rintro i s n hl hp h (⟨rfl, rfl | ⟨v, rfl⟩⟩ | ⟨rfl, rfl⟩)
    · exact runFar_of_error hl (farReturn_real_fault hp h 0)
    · exact runFar_of_error hl (farReturn_real_fault hp h v)
    · exact runFar_of_error hl (interruptReturn_real_fault hp h)
  case selector =>
    intro i s hl hp h hi
    rw [stackFault_protected hp]
    have hret : ∀ release, farReturn s release = failIn s (.error trapSs0) := fun release => by
      rw [farReturn_protected hp, farReturnProtected_selector_fault h]
    rcases hi with rfl | ⟨v, rfl⟩ | ⟨rfl, hn⟩
    · exact runFar_of_error hl (hret 0)
    · exact runFar_of_error hl (hret v)
    · exact runFar_of_error hl (interruptReturn_stack_fault hp hn (iretStack_selector_fault h))
  case iretFrame =>
    intro s sel hl hp hn h hs hf
    rw [stackFault_protected hp, trapSs0, ← raiseAt_seen]
    exact runFar_of_error hl (interruptReturn_stack_fault hp hn (iretStack_frame_fault h hs hf))
  case retfFrame =>
    intro i s release sel hi hl hp h hs hf
    have hx : exec i s = runFar s (farReturn s release) := by
      rcases hi with ⟨rfl, rfl⟩ | rfl <;> rfl
    rw [hx, stackFault_protected hp, trapSs0, ← raiseAt_seen]
    refine runFar_of_error hl ?_
    rw [farReturn_protected hp, farReturnProtected_frame_fault h hs hf]
    rfl
  case callReal =>
    rintro i s hl hp h (⟨off, sel, rfl⟩ | ⟨m, hm, rfl⟩)
    · exact runFar_of_error hl (farCall_real_fault hp h sel off)
    · exact runFar_of_error hl (farCallIndirect_real_fault hp hm h)
  case callProtected =>
    intro i s sel off d hl hp h hi ha hn hd hc hr
    rw [hi.exec_of_ok hp]
    exact runFar_of_error hl (farCall_protected_fault hp ha hn hd hc hr h off)
  case enter =>
    intro size level s l n hl hlev hn h
    exact runInstr_of_error hl (enterFrame_fault hlev hn h)
  case leave =>
    intro s hl h
    exact runInstr_of_error hl (leaveFrame_fault h)

end Sys2Proof.Machine
end

section
/-! PROOF of O10 and O12: ADD, ADC, SUB, SBB, CMP, INC, DEC, NEG and NOT.  What each computes is `ArithOp.result` and `UnaryOp.result`
with their flags (`aluCompute_arith`, `unaryCompute_eq`); but for CMP, every form ends in a store to its operand, and
`storeRm8_ended` and `storeRm16_ended` say once what the state is after it. -/

namespace Sys2Proof.Machine

section
variable {s : State}

/-! ### An instruction that ends in a store to its operand -/

/-- FLAGS written, the operand stored, the instruction ended: the frame, the flags, and what has been written. -/
theorem storeRm8_ended (hm : s.mem.wf = true) {e : Rm8} (he : Rm8Ok s e .write) (f : Flags) (v : Byte) :
    Ended s (storeRm8 (s.setFlags f) e v).retire ∧ (storeRm8 (s.setFlags f) e v).retire.freeCtr = s.freeCtr ∧
      (storeRm8 (s.setFlags f) e v).retire.flags = f ∧ Wrote8 s (storeRm8 (s.setFlags f) e v).retire e v := by
  have hw : Wrote8 s (storeRm8 (s.setFlags f) e v) e v := storeRm8_wrote hm rfl he v
  have he' : Rm8Ok (s.setFlags f) e .write := by cases e <;> exact he
  refine ⟨?_, ?_, ?_, by cases e <;> exact hw⟩
  all_goals
    rw [storeRm8_plain he']
    rfl

theorem storeRm16_ended (hm : s.mem.wf = true) {e : Rm16} (he : Rm16Ok s e .write) (f : Flags) (v : Word) :
    Ended s (storeRm16 (s.setFlags f) e v).retire ∧ (storeRm16 (s.setFlags f) e v).retire.freeCtr = s.freeCtr ∧
      (storeRm16 (s.setFlags f) e v).retire.flags = f ∧ Wrote16 s (storeRm16 (s.setFlags f) e v).retire e v := by
  have hw : Wrote16 s (storeRm16 (s.setFlags f) e v) e v := storeRm16_wrote hm rfl he v
  have he' : Rm16Ok (s.setFlags f) e .write := by cases e <;> exact he
  refine ⟨?_, ?_, ?_, by cases e <;> exact hw⟩
  all_goals
    rw [storeRm16_plain he']
    rfl

/-! ### Two operands -/

variable {op : ArithOp}

theorem ArithOp.access_of_ne_cmp (h : op ≠ .cmp) : op.access = .write := by
  cases op with
  | cmp => exact absurd rfl h
  | add | adc | sub | sbb => rfl

/-- CMP is SUB without its result (R326). -/
theorem aluCompute_cmp {n : Nat} (hn : 0 < n) (s : State) (d v : BitVec n) :
    (aluCompute .cmp s d v).2 = s.setFlags (ArithOp.cmp.flagsAfter s.flags d v) :=
  congrArg s.setFlags (Flags.sub_eq_differenceFlags hn _ d v _)

theorem aluRm8_of_ok (ho : op ≠ .cmp) {e : Rm8} (he : Rm8Ok s e .write) (v : Byte) :
    aluRm8 op.alu e v s =
      .ok (storeRm8 (s.setFlags (op.flagsAfter s.flags (rm8Value s e) v)) e (op.result s.flags (rm8Value s e) v)) := by
  have ha := ArithOp.access_of_ne_cmp ho
  rw [aluRm8, op.alu_access, ha, loadRm8_of_ok he]
  simp only [bind, Except.bind, aluCompute_arith (show 0 < 8 by omega) ha, if_neg (ArithOp.alu_ne_cmp ha)]

theorem aluRm16_of_ok (ho : op ≠ .cmp) {e : Rm16} (he : Rm16Ok s e .write) (v : Word) :
    aluRm16 op.alu e v s =
      .ok (storeRm16 (s.setFlags (op.flagsAfter s.flags (rm16Value s e) v)) e (op.result s.flags (rm16Value s e) v)) := by
  have ha := ArithOp.access_of_ne_cmp ho
  rw [aluRm16, op.alu_access, ha, loadRm16_of_ok he]
  simp only [bind, Except.bind, aluCompute_arith (show 0 < 16 by omega) ha, if_neg (ArithOp.alu_ne_cmp ha)]

theorem aluReg8_of_ok (ho : op ≠ .cmp) {e : Rm8} (he : Rm8Ok s e .read) (r : Reg8) :
    aluReg8 op.alu r e s = .ok ((s.setFlags (op.flagsAfter s.flags (s.reg8 r) (rm8Value s e))).setReg8 r
      (op.result s.flags (s.reg8 r) (rm8Value s e))) := by
  rw [aluReg8, loadRm8_of_ok he]
  simp only [bind, Except.bind, aluCompute_arith (show 0 < 8 by omega) (ArithOp.access_of_ne_cmp ho)]

theorem aluReg16_of_ok (ho : op ≠ .cmp) {e : Rm16} (he : Rm16Ok s e .read) (r : Reg16) :
    aluReg16 op.alu r e s = .ok ((s.setFlags (op.flagsAfter s.flags (s.reg16 r) (rm16Value s e))).setReg16 r
      (op.result s.flags (s.reg16 r) (rm16Value s e))) := by
  rw [aluReg16, loadRm16_of_ok he]
  simp only [bind, Except.bind, aluCompute_arith (show 0 < 16 by omega) (ArithOp.access_of_ne_cmp ho)]

theorem cmpRm8_of_ok {e : Rm8} (he : Rm8Ok s e .read) (v : Byte) :
    aluRm8 .cmp e v s = .ok (s.setFlags (ArithOp.cmp.flagsAfter s.flags (rm8Value s e) v)) := by
  rw [aluRm8, show AluOp.cmp.access = .read from rfl, loadRm8_of_ok he]
  exact congrArg Except.ok (aluCompute_cmp (show 0 < 8 by omega) s _ v)

theorem cmpRm16_of_ok {e : Rm16} (he : Rm16Ok s e .read) (v : Word) :
    aluRm16 .cmp e v s = .ok (s.setFlags (ArithOp.cmp.flagsAfter s.flags (rm16Value s e) v)) := by
  rw [aluRm16, show AluOp.cmp.access = .read from rfl, loadRm16_of_ok he]
  exact congrArg Except.ok (aluCompute_cmp (show 0 < 16 by omega) s _ v)

/-- A register compared is written its own value. -/
theorem State.setReg8_reg8 (s : State) (r : Reg8) : s.setReg8 r (s.reg8 r) = s := by
  cases r <;> simp [State.setReg8, State.reg8, State.setReg16, State.reg16, reg8High, reg8Whole, withLow, withHigh, Gpr.get, Gpr.set]

theorem State.setReg16_reg16 (s : State) (r : Reg16) : s.setReg16 r (s.reg16 r) = s := by
  cases r <;> rfl

theorem cmpReg8_of_ok {e : Rm8} (he : Rm8Ok s e .read) (r : Reg8) :
    aluReg8 .cmp r e s = .ok (s.setFlags (ArithOp.cmp.flagsAfter s.flags (s.reg8 r) (rm8Value s e))) := by
  rw [aluReg8, loadRm8_of_ok he, ← aluCompute_cmp (show 0 < 8 by omega)]
  exact congrArg Except.ok (State.setReg8_reg8 (aluCompute .cmp s (s.reg8 r) (rm8Value s e)).2 r)

theorem cmpReg16_of_ok {e : Rm16} (he : Rm16Ok s e .read) (r : Reg16) :
    aluReg16 .cmp r e s = .ok (s.setFlags (ArithOp.cmp.flagsAfter s.flags (s.reg16 r) (rm16Value s e))) := by
  rw [aluReg16, loadRm16_of_ok he, ← aluCompute_cmp (show 0 < 16 by omega)]
  exact congrArg Except.ok (State.setReg16_reg16 (aluCompute .cmp s (s.reg16 r) (rm16Value s e)).2 r)

/-- Every byte form of an operation that writes comes to a store in its destination. -/
theorem ArithOp.exec8_of_ok (hl : LockAllowed s) (ho : op ≠ .cmp) {f : Form8} (hf : f.Ok s .write) :
    exec (op.instr8 f) s = .next (storeRm8 (s.setFlags (op.flagsAfter s.flags (rm8Value s f.dest) (f.source s))) f.dest
      (op.result s.flags (rm8Value s f.dest) (f.source s))).retire := by
  rw [op.exec_instr8]
  cases f with
  | toRm e r | imm e v => exact runInstr_of_ok hl (aluRm8_of_ok ho hf _)
  | acc v => exact runInstr_of_ok hl (aluRm8_of_ok ho (e := .reg .al) trivial v)
  | toReg r e => exact runInstr_of_ok hl (aluReg8_of_ok ho hf r)

theorem ArithOp.exec16_of_ok (hl : LockAllowed s) (ho : op ≠ .cmp) {f : ArithForm16} (hf : f.Ok s .write) :
    exec (op.instr16 f) s = .next (storeRm16 (s.setFlags (op.flagsAfter s.flags (rm16Value s f.dest) (f.source s))) f.dest
      (op.result s.flags (rm16Value s f.dest) (f.source s))).retire := by
  rw [op.exec_instr16]
  rcases f with (⟨e, r⟩ | ⟨r, e⟩ | v | ⟨e, v⟩) | ⟨e, v⟩
  case plain.toReg => exact runInstr_of_ok hl (aluReg16_of_ok ho hf r)
  case plain.acc => exact runInstr_of_ok hl (aluRm16_of_ok ho (e := .reg .ax) trivial v)
  all_goals exact runInstr_of_ok hl (aluRm16_of_ok ho hf _)

/-- Every byte form of CMP changes FLAGS alone. -/
theorem exec_cmp8_of_ok (hl : LockAllowed s) {f : Form8} (hf : f.Ok s .read) :
    exec (ArithOp.cmp.instr8 f) s = .next (s.setFlags (ArithOp.cmp.flagsAfter s.flags (rm8Value s f.dest) (f.source s))).retire := by
  rw [ArithOp.exec_instr8]
  cases f with
  | toRm e r | imm e v => exact runInstr_of_ok hl (cmpRm8_of_ok hf _)
  | acc v => exact runInstr_of_ok hl (cmpRm8_of_ok (e := .reg .al) trivial v)
  | toReg r e => exact runInstr_of_ok hl (cmpReg8_of_ok hf r)

theorem exec_cmp16_of_ok (hl : LockAllowed s) {f : ArithForm16} (hf : f.Ok s .read) :
    exec (ArithOp.cmp.instr16 f) s =
      .next (s.setFlags (ArithOp.cmp.flagsAfter s.flags (rm16Value s f.dest) (f.source s))).retire := by
  rw [ArithOp.exec_instr16]
  rcases f with (⟨e, r⟩ | ⟨r, e⟩ | v | ⟨e, v⟩) | ⟨e, v⟩
  case plain.toReg => exact runInstr_of_ok hl (cmpReg16_of_ok hf r)
  case plain.acc => exact runInstr_of_ok hl (cmpRm16_of_ok (e := .reg .ax) trivial v)
  all_goals exact runInstr_of_ok hl (cmpRm16_of_ok hf _)

/-- The destination of a form can be written: it is a register, or it is what the form asks to be writable. -/
theorem Form8.dest_ok {f : Form8} (h : f.Ok s .write) : Rm8Ok s f.dest .write := by
  cases f with
  | toRm | imm => exact h
  | toReg | acc => trivial

theorem ArithForm16.dest_ok {f : ArithForm16} (h : f.Ok s .write) : Rm16Ok s f.dest .write := by
  rcases f with (⟨e, r⟩ | ⟨r, e⟩ | v | ⟨e, v⟩) | ⟨e, v⟩
  case plain.toReg | plain.acc => trivial
  all_goals exact h

/-! ### One operand -/

theorem UnaryOp.exec8_of_ok (hl : LockAllowed s) (op : UnaryOp) {e : Rm8} (he : Rm8Ok s e .write) :
    exec (op.instr8 e) s =
      .next (storeRm8 (s.setFlags (op.flagsAfter s.flags (rm8Value s e))) e (op.result (rm8Value s e))).retire := by
  rw [op.exec_instr8]
  refine runInstr_of_ok hl ?_
  rw [unaryRm8, loadRm8_of_ok he]
  simp only [bind, Except.bind, unaryCompute_eq (show 0 < 8 by omega)]

theorem UnaryForm16.exec_of_ok (hl : LockAllowed s) {f : UnaryForm16} (hf : Rm16Ok s f.dest .write) :
    exec f.instr s =
      .next (storeRm16 (s.setFlags (f.op.flagsAfter s.flags (rm16Value s f.dest))) f.dest (f.op.result (rm16Value s f.dest))).retire := by
  rw [f.exec_instr]
  refine runInstr_of_ok hl ?_
  rw [unaryRm16, loadRm16_of_ok hf]
  simp only [bind, Except.bind, unaryCompute_eq (show 0 < 16 by omega)]

end

/-- Settles O10: CMP changes FLAGS alone, and every other form is a store of its result in its destination. -/
theorem arithmetic : Obligations.Arithmetic := by
  unfold Obligations.Arithmetic
  constructor
  · intro op f s hl hm hf
    by_cases ho : op = .cmp
    · subst ho
      exact ⟨_, exec_cmp8_of_ok hl hf, rfl, rfl, rfl, fun _ => ⟨rfl, fun _ => rfl⟩, fun h => absurd rfl h⟩
    · rw [ArithOp.access_of_ne_cmp ho] at hf
      obtain ⟨hend, hfree, hflags, hwrote⟩ := storeRm8_ended hm (Form8.dest_ok hf) _ _
      exact ⟨_, ArithOp.exec8_of_ok hl ho hf, hend, hfree, hflags, fun h => absurd h ho, fun _ => hwrote⟩
  · intro op f s hl hm hf
    by_cases ho : op = .cmp
    · subst ho
      exact ⟨_, exec_cmp16_of_ok hl hf, rfl, rfl, rfl, fun _ => ⟨rfl, fun _ => rfl⟩, fun h => absurd rfl h⟩
    · rw [ArithOp.access_of_ne_cmp ho] at hf
      obtain ⟨hend, hfree, hflags, hwrote⟩ := storeRm16_ended hm (ArithForm16.dest_ok hf) _ _
      exact ⟨_, ArithOp.exec16_of_ok hl ho hf, hend, hfree, hflags, fun h => absurd h ho, fun _ => hwrote⟩

/-- Settles O12: every form is a store of its result in its operand. -/
theorem unary : Obligations.Unary := by
  unfold Obligations.Unary
  exact ⟨fun op e s hl hm he => ⟨_, op.exec8_of_ok hl he, storeRm8_ended hm he _ _⟩,
    fun f s hl hm hf => ⟨_, f.exec_of_ok hl hf, storeRm16_ended hm hf _ _⟩⟩

end Sys2Proof.Machine
end

section
/-! PROOF of O15: MUL and IMUL.  Operands extended to twice their width have a product that does not wrap, so it is the product of the
numbers; CF and OF are about whether its lower half says all of it. -/

namespace Sys2Proof.Machine

/-! ### Products in twice the width -/

theorem zeroExtend_mul_toNat {n : Nat} (a b : BitVec n) :
    (a.zeroExtend (n + n) * b.zeroExtend (n + n)).toNat = a.toNat * b.toNat := by
  have hp : a.toNat * b.toNat < 2 ^ (n + n) := by
    rw [Nat.pow_add]
    exact Nat.mul_lt_mul'' a.isLt b.isLt
  have hw : ∀ x : BitVec n, (x.zeroExtend (n + n)).toNat = x.toNat := fun x => BitVec.toNat_setWidth_of_le (by omega)
  rw [BitVec.toNat_mul, hw, hw, Nat.mod_eq_of_lt hp]

theorem signExtend_mul_toInt {n : Nat} (hn : 0 < n) (a b : BitVec n) :
    (a.signExtend (n + n) * b.signExtend (n + n)).toInt = a.toInt * b.toInt := by
  have hlow := BitVec.le_toInt_mul_toInt (x := a) (y := b)
  have hhigh := BitVec.toInt_mul_toInt_le (x := a) (y := b)
  have hpow : (2 : Int) ^ (n + n) = 4 * 2 ^ (n * 2 - 2) := by
    rw [show n + n = n * 2 - 2 + 2 by omega, Int.pow_add, Int.mul_comm]
    rfl
  have hpos : (0 : Int) < 2 ^ (n * 2 - 2) := Int.pow_pos (by omega)
  have hw : ∀ x : BitVec n, (x.signExtend (n + n)).toInt = x.toInt := fun x => BitVec.toInt_signExtend_of_le (by omega)
  rw [BitVec.toInt_mul, hw, hw]
  apply Int.bmod_eq_of_le <;> push_cast <;> rw [hpow] <;> omega

/-! ### Halves of a product -/

/-- A number is the sign extension of its low `n` bits exactly when it is a signed number of `n` bits. -/
theorem ne_signExtend_low {n m : Nat} (hn : 0 < n) (h : n ≤ m) (p : BitVec m) :
    decide (p ≠ (p.extractLsb' 0 n).signExtend m) = outsideSigned n p.toInt := by
  have hlow : ((p.extractLsb' 0 n).signExtend m).toInt = p.toInt.bmod (2 ^ n) := by
    rw [← BitVec.setWidth_eq_extractLsb' h, BitVec.toInt_signExtend_of_le h, BitVec.toInt_setWidth, BitVec.toInt_eq_toNat_bmod,
      Int.bmod_bmod_of_dvd (Nat.pow_dvd_pow 2 h)]
  have hhalf := two_pow_half hn
  have hp : ((2 : Int) ^ (n - 1)) = ((2 ^ (n - 1) : Nat) : Int) := by push_cast; rfl
  have hfits : p = (p.extractLsb' 0 n).signExtend m ↔ -(2 ^ (n - 1)) ≤ p.toInt ∧ p.toInt < 2 ^ (n - 1) := by
    rw [← BitVec.toInt_inj, hlow, eq_comm, Int.bmod_eq_iff (Nat.two_pow_pos n), Int.sub_self, hp, hhalf]
    generalize 2 ^ (n - 1) = k
    constructor
    · rintro ⟨hl, hr, -⟩
      omega
    · rintro ⟨hl, hr⟩
      exact ⟨by omega, by omega, Int.dvd_zero _⟩
  rw [outsideSigned, Bool.eq_iff_iff]
  simp only [ne_eq, decide_eq_true_eq, Bool.or_eq_true, hfits]
  omega

theorem hiByte_ne_zero (p : Word) : decide (hiByte p ≠ 0) = decide (256 ≤ p.toNat) := by
  have hp := p.isLt
  refine decide_eq_decide.2 (not_congr BitVec.toNat_inj.symm |>.trans ?_)
  rw [hiByte_toNat]
  show ¬ p.toNat / 256 = 0 ↔ _
  omega

theorem extractHigh_toNat (p : BitVec 32) : (p.extractLsb' 16 16).toNat = p.toNat / 65536 := by
  have hp := p.isLt
  simp only [BitVec.extractLsb'_toNat, Nat.shiftRight_eq_div_pow]
  omega

theorem extractHigh_ne_zero (p : BitVec 32) : decide (p.extractLsb' 16 16 ≠ 0) = decide (65536 ≤ p.toNat) := by
  have hp := p.isLt
  refine decide_eq_decide.2 (not_congr BitVec.toNat_inj.symm |>.trans ?_)
  rw [extractHigh_toNat]
  show ¬ p.toNat / 65536 = 0 ↔ _
  omega

/-- The halves of a doubleword as numbers, unsigned. -/
theorem extractLow_eq_ofNat (p : BitVec 32) : p.extractLsb' 0 16 = BitVec.ofNat 16 p.toNat := by
  apply BitVec.eq_of_toNat_eq
  simp

theorem extractHigh_eq_ofNat (p : BitVec 32) : p.extractLsb' 16 16 = BitVec.ofNat 16 (p.toNat / 65536) := by
  have hp := p.isLt
  apply BitVec.eq_of_toNat_eq
  rw [extractHigh_toNat, BitVec.toNat_ofNat]
  omega

/-- The halves of a doubleword as numbers, signed. -/
theorem extractLow_eq_ofInt (p : BitVec 32) : p.extractLsb' 0 16 = BitVec.ofInt 16 p.toInt := by
  apply BitVec.eq_of_toNat_eq
  rw [extractLow_eq_ofNat, BitVec.toNat_ofNat, BitVec.toNat_ofInt, BitVec.toInt_eq_toNat_cond]
  split <;> omega

theorem extractHigh_eq_ofInt (p : BitVec 32) : p.extractLsb' 16 16 = BitVec.ofInt 16 (p.toInt / 65536) := by
  have hp := p.isLt
  apply BitVec.eq_of_toNat_eq
  rw [extractHigh_toNat, BitVec.toNat_ofInt, BitVec.toInt_eq_toNat_cond]
  split <;> omega

/-! ### The machine's products -/

theorem mulByte_toNat (a b : Byte) : (mulByte a b).toNat = a.toNat * b.toNat := zeroExtend_mul_toNat a b

theorem mulWord_toNat (a b : Word) : (mulWord a b).toNat = a.toNat * b.toNat := zeroExtend_mul_toNat a b

theorem imulByte_toInt (a b : Byte) : (imulByte a b).toInt = a.toInt * b.toInt := signExtend_mul_toInt (by omega) a b

theorem imulWord_toInt (a b : Word) : (imulWord a b).toInt = a.toInt * b.toInt := signExtend_mul_toInt (by omega) a b

section
variable {s : State}

theorem mulRm8_of_ok {e : Rm8} (he : Rm8Ok s e .read) : mulRm8 e s = .ok
    ((mulFlags s (decide (256 ≤ (s.reg8 .al).toNat * (rm8Value s e).toNat))).setReg16 .ax
      (BitVec.ofNat 16 ((s.reg8 .al).toNat * (rm8Value s e).toNat))) := by
  rw [mulRm8, loadRm8_of_ok he, ← mulByte_toNat, ← hiByte_ne_zero, BitVec.ofNat_toNat, BitVec.setWidth_eq]
  rfl

theorem imulRm8_of_ok {e : Rm8} (he : Rm8Ok s e .read) : imulRm8 e s = .ok
    ((mulFlags s (outsideSigned 8 ((s.reg8 .al).toInt * (rm8Value s e).toInt))).setReg16 .ax
      (BitVec.ofInt 16 ((s.reg8 .al).toInt * (rm8Value s e).toInt))) := by
  rw [imulRm8, loadRm8_of_ok he, ← imulByte_toInt, ← ne_signExtend_low (by omega) (by omega), BitVec.ofInt_toInt]
  rfl

theorem mulRm16_of_ok {e : Rm16} (he : Rm16Ok s e .read) : mulRm16 e s = .ok
    (((mulFlags s (decide (65536 ≤ s.gpr.ax.toNat * (rm16Value s e).toNat))).setReg16 .ax
      (BitVec.ofNat 16 (s.gpr.ax.toNat * (rm16Value s e).toNat))).setReg16 .dx
      (BitVec.ofNat 16 (s.gpr.ax.toNat * (rm16Value s e).toNat / 65536))) := by
  rw [mulRm16, loadRm16_of_ok he, ← mulWord_toNat, ← extractHigh_ne_zero, ← extractLow_eq_ofNat, ← extractHigh_eq_ofNat]
  rfl

theorem imulRm16_of_ok {e : Rm16} (he : Rm16Ok s e .read) : imulRm16 e s = .ok
    (((mulFlags s (outsideSigned 16 (s.gpr.ax.toInt * (rm16Value s e).toInt))).setReg16 .ax
      (BitVec.ofInt 16 (s.gpr.ax.toInt * (rm16Value s e).toInt))).setReg16 .dx
      (BitVec.ofInt 16 (s.gpr.ax.toInt * (rm16Value s e).toInt / 65536))) := by
  rw [imulRm16, loadRm16_of_ok he, ← imulWord_toInt, ← ne_signExtend_low (by omega) (by omega), ← extractLow_eq_ofInt,
    ← extractHigh_eq_ofInt]
  rfl

/-- IMUL with an immediate: the low word of the product in any register (R332). -/
theorem imulImm_of_ok (r : Reg16) {e : Rm16} (he : Rm16Ok s e .read) (v : Word) : imulImm r e v s = .ok
    ((mulFlags s (outsideSigned 16 ((rm16Value s e).toInt * v.toInt))).setReg16 r
      (BitVec.ofInt 16 ((rm16Value s e).toInt * v.toInt))) := by
  rw [imulImm, loadRm16_of_ok he, ← imulWord_toInt, ← ne_signExtend_low (by omega) (by omega), ← extractLow_eq_ofInt]
  rfl

/-- The sign-extended immediate byte is the same number. -/
theorem sext16_toInt (v : Byte) : (sext16 v).toInt = v.toInt := BitVec.toInt_signExtend_of_le (by omega)

end

/-- Settles O15: each form's product is that of the numbers (`mulRm8_of_ok` to `imulImm_of_ok`). -/
theorem multiply : Obligations.Multiply := by
  unfold Obligations.Multiply
  refine ⟨?bytes, ?words, ?immediate, ?immediateByte⟩
  case bytes =>
    intro signed e s hl he
    cases signed with
    | false => exact ⟨_, runInstr_of_ok hl (mulRm8_of_ok he), rfl, rfl, fun _ => ⟨rfl, rfl⟩, nofun⟩
    | true => exact ⟨_, runInstr_of_ok hl (imulRm8_of_ok he), rfl, rfl, nofun, fun _ => ⟨rfl, rfl⟩⟩
  case words =>
    intro signed e s hl he
    cases signed with
    | false => exact ⟨_, runInstr_of_ok hl (mulRm16_of_ok he), rfl, rfl, fun _ => ⟨rfl, rfl⟩, nofun⟩
    | true => exact ⟨_, runInstr_of_ok hl (imulRm16_of_ok he), rfl, rfl, nofun, fun _ => ⟨rfl, rfl⟩⟩
  case immediate =>
    intro r e v s hl he
    exact ⟨_, runInstr_of_ok hl (imulImm_of_ok r he v), rfl, rfl, rfl, rfl⟩
  case immediateByte =>
    intro r e v s hl he
    rw [← sext16_toInt]
    exact ⟨_, runInstr_of_ok hl (imulImm_of_ok r he (sext16 v)), rfl, rfl, rfl, rfl⟩

end Sys2Proof.Machine
end

section
/-! PROOF of O16: DIV and IDIV.  Each reads its divisor and then tests the quotient; `runInstr_divide` says what either outcome of the
test makes of the instruction.  IDIV's quotient and remainder are the only numbers that meet R334 (`tdiv_tmod_of_remainder`). -/

namespace Sys2Proof.Machine

/-! ### Quotients rounded toward zero -/

/-- A quotient and a remainder smaller than the divisor, of the dividend's sign, are those of a division rounded toward zero. -/
theorem tdiv_tmod_of_remainder {n d q r : Int} (hd : d ≠ 0) (hn : n = q * d + r) (hr : r.natAbs < d.natAbs) (hs : 0 ≤ r * n) :
    n.tdiv d = q ∧ n.tmod d = r := by
  have hsum : r + d * q = n := by rw [hn, Int.mul_comm, Int.add_comm]
  rcases Int.lt_trichotomy n 0 with hneg | rfl | hpos
  · have hr0 : r ≤ 0 := by
      by_contra h
      have := Int.mul_neg_of_pos_of_neg (a := r) (by omega) hneg
      omega
    exact (Int.tdiv_tmod_unique' (by omega) hd).2 ⟨hsum, by omega, hr0⟩
  · have hr0 : r = 0 := Int.eq_zero_of_dvd_of_natAbs_lt_natAbs ⟨-q, by linarith⟩ hr
    exact (Int.tdiv_tmod_unique (by omega) hd).2 ⟨hsum, by omega, by omega⟩
  · have hr0 : 0 ≤ r := by
      by_contra h
      have := Int.mul_neg_of_neg_of_pos (a := r) (by omega) hpos
      omega
    exact (Int.tdiv_tmod_unique (by omega) hd).2 ⟨hsum, hr0, by omega⟩

section
variable {s : State}

/-! ### The dividend of a word divisor -/

theorem State.dxAx_toNat (s : State) : s.dxAx.toNat = 65536 * s.gpr.dx.toNat + s.gpr.ax.toNat := by
  rw [State.dxAx, BitVec.toNat_append, ← Nat.shiftLeft_add_eq_or_of_lt s.gpr.ax.isLt, Nat.shiftLeft_eq, Nat.mul_comm]

theorem State.dxAx_toInt (s : State) : s.dxAx.toInt = 65536 * s.gpr.dx.toInt + s.gpr.ax.toNat := BitVec.toInt_append

/-! ### The test of the quotient -/

theorem ne_zero_iff_toNat {n : Nat} {v : BitVec n} : v ≠ 0 ↔ v.toNat ≠ 0 :=
  not_congr (BitVec.toNat_inj.symm.trans (by rw [BitVec.ofNat_eq_ofNat, BitVec.toNat_ofNat, Nat.zero_mod]))

theorem ne_zero_iff_toInt {n : Nat} {v : BitVec n} : v ≠ 0 ↔ v.toInt ≠ 0 :=
  not_congr (BitVec.toInt_inj.symm.trans (by rw [BitVec.ofNat_eq_ofNat, BitVec.toInt_zero]))

/-- A division is completed where its quotient passes the test, and takes exception 0 where it does not, its reads of plain memory
leaving no trace (60_exceptions.md R660). -/
theorem runInstr_divide (hl : LockAllowed s) {test : Bool} {p : Prop} [Decidable p] (hp : test = true ↔ p) (t : State) :
    runInstr s (do afterReads s (require test trapDivide); .ok t) =
      if p then .next t.retire else .next (raiseAt s { vector := 0 }) := by
  cases test with
  | true => exact (runInstr_of_ok hl rfl).trans (if_pos (hp.1 rfl)).symm
  | false =>
    have hn : ¬ p := fun h => Bool.false_ne_true (hp.2 h)
    rw [if_neg hn, ← raiseAt_seen]
    exact runInstr_of_error hl rfl

theorem exec_divEb (hl : LockAllowed s) {e : Rm8} (he : Rm8Ok s e .read) :
    exec (.divEb e) s =
      if (rm8Value s e).toNat ≠ 0 ∧ s.gpr.ax.toNat / (rm8Value s e).toNat ≤ 0xFF then
        .next ((divFlags s).setReg16 .ax (mkWord (BitVec.ofNat 8 (s.gpr.ax.toNat / (rm8Value s e).toNat))
          (BitVec.ofNat 8 (s.gpr.ax.toNat % (rm8Value s e).toNat)))).retire
      else .next (raiseAt s { vector := 0 }) := by
  show runInstr s (divRm8 e s) = _
  rw [divRm8, loadRm8_of_ok he]
  refine runInstr_divide hl ?_ _
  simp only [Bool.and_eq_true, decide_eq_true_eq, ne_zero_iff_toNat]

theorem exec_divEw (hl : LockAllowed s) {e : Rm16} (he : Rm16Ok s e .read) :
    exec (.divEw e) s =
      if (rm16Value s e).toNat ≠ 0 ∧ s.dxAx.toNat / (rm16Value s e).toNat ≤ 0xFFFF then
        .next (((divFlags s).setReg16 .ax (BitVec.ofNat 16 (s.dxAx.toNat / (rm16Value s e).toNat))).setReg16 .dx
          (BitVec.ofNat 16 (s.dxAx.toNat % (rm16Value s e).toNat))).retire
      else .next (raiseAt s { vector := 0 }) := by
  show runInstr s (divRm16 e s) = _
  rw [divRm16, loadRm16_of_ok he]
  refine runInstr_divide hl ?_ _
  simp only [Bool.and_eq_true, decide_eq_true_eq, ne_zero_iff_toNat]

theorem exec_idivEb (hl : LockAllowed s) {e : Rm8} (he : Rm8Ok s e .read) :
    exec (.idivEb e) s =
      if (rm8Value s e).toInt ≠ 0 ∧ -128 ≤ s.gpr.ax.toInt.tdiv (rm8Value s e).toInt ∧
          s.gpr.ax.toInt.tdiv (rm8Value s e).toInt ≤ 127 then
        .next ((divFlags s).setReg16 .ax (mkWord (BitVec.ofInt 8 (s.gpr.ax.toInt.tdiv (rm8Value s e).toInt))
          (BitVec.ofInt 8 (s.gpr.ax.toInt.tmod (rm8Value s e).toInt)))).retire
      else .next (raiseAt s { vector := 0 }) := by
  show runInstr s (idivRm8 e s) = _
  rw [idivRm8, loadRm8_of_ok he]
  refine runInstr_divide hl ?_ _
  simp only [and_assoc, Bool.and_eq_true, decide_eq_true_eq, ne_zero_iff_toInt]

theorem exec_idivEw (hl : LockAllowed s) {e : Rm16} (he : Rm16Ok s e .read) :
    exec (.idivEw e) s =
      if (rm16Value s e).toInt ≠ 0 ∧ -32768 ≤ s.dxAx.toInt.tdiv (rm16Value s e).toInt ∧
          s.dxAx.toInt.tdiv (rm16Value s e).toInt ≤ 32767 then
        .next (((divFlags s).setReg16 .ax (BitVec.ofInt 16 (s.dxAx.toInt.tdiv (rm16Value s e).toInt))).setReg16 .dx
          (BitVec.ofInt 16 (s.dxAx.toInt.tmod (rm16Value s e).toInt))).retire
      else .next (raiseAt s { vector := 0 }) := by
  show runInstr s (idivRm16 e s) = _
  rw [idivRm16, loadRm16_of_ok he]
  refine runInstr_divide hl ?_ _
  simp only [and_assoc, Bool.and_eq_true, decide_eq_true_eq, ne_zero_iff_toInt]

/-! ### The result as the statement writes it -/

theorem pair_eq_mkWord_ofNat (hi lo : Nat) : pair hi lo = mkWord (BitVec.ofNat 8 lo) (BitVec.ofNat 8 hi) := by
  rw [← pair_eq_mkWord, BitVec.toNat_ofNat, BitVec.toNat_ofNat, pair, pair, Nat.mod_mod, Nat.mod_mod]

theorem pair_eq_mkWord_ofInt (hi lo : Int) :
    pair (hi % 256).toNat (lo % 256).toNat = mkWord (BitVec.ofInt 8 lo) (BitVec.ofInt 8 hi) := by
  rw [← pair_eq_mkWord, BitVec.toNat_ofInt, BitVec.toNat_ofInt]
  rfl

end

/-- Settles O16: the statement's conditions are the machine's test of divisor and quotient (`exec_divEb` to `exec_idivEw`). -/
theorem divide : Obligations.Divide := by
  unfold Obligations.Divide
  refine ⟨?divByte, ?divWord, ?idivByte, ?idivWord, ?divByteError, ?divWordError, ?idivByteError, ?idivWordError⟩
  case divByte =>
    intro e s hl he hd hq
    rw [exec_divEb hl he, if_pos ⟨hd, hq⟩, pair_eq_mkWord_ofNat]
    exact ⟨_, rfl, rfl, rfl, rfl, rfl⟩
  case divWord =>
    intro e s n hl he hd hn hq
    rw [← s.dxAx_toNat] at hn
    subst hn
    rw [exec_divEw hl he, if_pos ⟨hd, hq⟩]
    exact ⟨_, rfl, rfl, rfl, rfl, rfl⟩
  case idivByte =>
    intro e s q r hl he hd hn hr hs hlow hhigh
    obtain ⟨hq, hm⟩ := tdiv_tmod_of_remainder hd hn hr hs
    rw [exec_idivEb hl he, hq, hm, if_pos ⟨hd, hlow, hhigh⟩, pair_eq_mkWord_ofInt]
    exact ⟨_, rfl, rfl, rfl, rfl, rfl⟩
  case idivWord =>
    intro e s n q r hl he hd hax hn hr hs hlow hhigh
    obtain ⟨hq, hm⟩ := tdiv_tmod_of_remainder hd hn hr hs
    rw [← s.dxAx_toInt] at hax
    subst hax
    rw [exec_idivEw hl he, hq, hm, if_pos ⟨hd, hlow, hhigh⟩]
    exact ⟨_, rfl, rfl, rfl, rfl, rfl⟩
  case divByteError =>
    intro e s hl he h
    rw [exec_divEb hl he, if_neg (by omega)]
  case divWordError =>
    intro e s hl he h
    rw [← s.dxAx_toNat] at h
    rw [exec_divEw hl he, if_neg (by omega)]
  case idivByteError =>
    intro e s hl he h
    rw [exec_idivEb hl he, if_neg (by omega)]
  case idivWordError =>
    intro e s n hl he hax h
    rw [← s.dxAx_toInt] at hax
    subst hax
    rw [exec_idivEw hl he, if_neg (by omega)]

end Sys2Proof.Machine
end

section
/-! PROOF of O17 and O18: CBW, CWD and the adjustments for decimal and ASCII digits.  The machine computes with bytes and words, the
statements with numbers: `adjusted_toNat` is the step from the one to the other, and `pair_eq_mkWord` puts the halves of AX together. -/

namespace Sys2Proof.Machine

section
variable {s : State}

/-! ### Sign extension -/

/-- A byte sign-extended: the same byte under all copies of its top bit (R335). -/
theorem sext16_eq_pair (b : Byte) : sext16 b = pair (if 128 ≤ b.toNat then 255 else 0) b.toNat := by
  have hb := b.isLt
  apply BitVec.eq_of_toNat_eq
  rw [sext16, BitVec.toNat_signExtend, BitVec.toNat_setWidth, pair, BitVec.toNat_ofNat]
  by_cases h : 128 ≤ b.toNat
  · simp only [BitVec.msb_eq_decide, h, Nat.reduceSub, Nat.reducePow, decide_true, if_true]
    omega
  · simp only [BitVec.msb_eq_decide, h, Nat.reduceSub, Nat.reducePow, decide_false, Bool.false_eq_true, if_false]
    omega

theorem exec_cbw (hl : LockAllowed s) : exec .cbw s = .next (past { s with gpr := { s.gpr with
    ax := pair (if 128 ≤ (s.reg8 .al).toNat then 255 else 0) (s.reg8 .al).toNat } }) := by
  rw [← sext16_eq_pair]
  exact runInstr_of_ok hl rfl

theorem exec_cwd (hl : LockAllowed s) : exec .cwd s = .next (past { s with gpr := { s.gpr with
    dx := if 32768 ≤ s.gpr.ax.toNat then 0xFFFF else 0 } }) := by
  have hd : (if s.gpr.ax.msb then 0xFFFF else 0 : Word) = if 32768 ≤ s.gpr.ax.toNat then 0xFFFF else 0 := by
    simp [BitVec.msb_eq_decide]
  rw [← hd]
  exact runInstr_of_ok hl rfl

/-! ### A digit adjusted -/

/-- A word of two bytes keeps each number modulo 256. -/
theorem pair_congr {hi hi' lo lo' : Nat} (hh : hi % 256 = hi' % 256) (hl : lo % 256 = lo' % 256) : pair hi lo = pair hi' lo' := by
  rw [pair, pair, hh, hl]

/-- A byte moved up or down by a constant where a test says so, as a number modulo 256. -/
theorem adjusted_toNat (test subtract : Bool) (x k : Byte) :
    (if test then (if subtract then x - k else x + k) else x).toNat =
      (if test then (if subtract then x.toNat + (256 - k.toNat) else x.toNat + k.toNat) else x.toNat) % 256 := by
  cases test with
  | false => exact (Nat.mod_eq_of_lt x.isLt).symm
  | true =>
    cases subtract with
    | false => exact BitVec.toNat_add x k
    | true => exact (BitVec.toNat_sub x k).trans (congrArg (· % 256) (Nat.add_comm _ _))

/-- DAA and DAS, their tests and their result as numbers (R337, R338). -/
theorem decimalAdjust_eq (subtract : Bool) {al1 al2 : Nat} {low high : Bool}
    (hlow : low = (decide (9 < (s.reg8 .al).toNat % 16) || s.flags.af))
    (h1 : al1 = (if low then (if subtract then (s.reg8 .al).toNat + 250 else (s.reg8 .al).toNat + 6) else (s.reg8 .al).toNat) % 256)
    (hhigh : high = (decide (0x9F < al1) || s.flags.cf))
    (h2 : al2 = (if high then (if subtract then al1 + 160 else al1 + 96) else al1) % 256) :
    decimalAdjust s subtract = { s with
      gpr := { s.gpr with ax := pair (s.gpr.ax.toNat / 256) al2 }
      flags := { resultFlags s.flags (BitVec.ofNat 8 al2) with cf := high, af := low, ov := s.freeFlag }
      freeCtr := s.freeCtr + 1 } := by
  obtain ⟨b1, hb1⟩ : ∃ b : Byte, b = if low then (if subtract then s.reg8 .al - 0x06 else s.reg8 .al + 0x06) else s.reg8 .al :=
    ⟨_, rfl⟩
  obtain ⟨b2, hb2⟩ : ∃ b : Byte, b = if high then (if subtract then b1 - 0x60 else b1 + 0x60) else b1 := ⟨_, rfl⟩
  have e1 : b1.toNat = al1 := by rw [hb1, h1]; exact adjusted_toNat low subtract _ 6
  have e2 : b2.toNat = al2 := by rw [hb2, h2, ← e1]; exact adjusted_toNat high subtract b1 0x60
  have hrun : decimalAdjust s subtract =
      ((s.setFlags { s.flags.ofResult b2 with af := low, cf := high, ov := s.freeFlag }).drew 1).setReg8 .al b2 := by
    rw [decimalAdjust]
    simp only [digitOver, ← hlow, ← hb1, e1, ← hhigh, ← hb2]
  have hax : withLow s.gpr.ax b2 = pair (s.gpr.ax.toNat / 256) al2 := by rw [withLow_eq_pair, e2]
  rw [hrun, ← hax, ← e2, BitVec.ofNat_toNat, BitVec.setWidth_eq, ← Flags.ofResult_eq_resultFlags]
  rfl

/-- AAA and AAS: the halves of AX as numbers (R339, R340). -/
theorem asciiAdjust_ax (adj subtract : Bool) (al ah : Byte) :
    mkWord ((if adj then (if subtract then al - 6 else al + 6) else al) &&& 0x0F)
      (if adj then (if subtract then ah - 1 else ah + 1) else ah) =
    if adj then
      (if subtract then pair (ah.toNat + 255) ((al.toNat + 250) % 16) else pair (ah.toNat + 1) ((al.toNat + 6) % 16))
    else pair ah.toNat (al.toNat % 16) := by
  have hmask : ∀ b : Byte, (b &&& 0x0F).toNat = b.toNat % 16 := fun b => Nat.and_two_pow_sub_one_eq_mod b.toNat 4
  rw [← pair_eq_mkWord, hmask, adjusted_toNat, adjusted_toNat]
  cases adj with
  | false =>
    simp only [Bool.false_eq_true, if_false]
    exact pair_congr (by omega) (by omega)
  | true =>
    cases subtract with
    | false => exact pair_congr (Nat.mod_mod _ _) (congrArg (· % 256) (Nat.mod_mod_of_dvd _ (by decide)))
    | true => exact pair_congr (Nat.mod_mod _ _) (congrArg (· % 256) (Nat.mod_mod_of_dvd _ (by decide)))

/-- AAA and AAS, the test and all that is written (R339, R340). -/
theorem asciiAdjust_eq (subtract : Bool) {adj : Bool} (hadj : adj = (decide (9 < (s.reg8 .al).toNat % 16) || s.flags.af)) :
    asciiAdjust s subtract = { s with
      gpr := { s.gpr with ax := (
        if adj then
          (if subtract then pair ((s.reg8 .ah).toNat + 255) (((s.reg8 .al).toNat + 250) % 16)
          else pair ((s.reg8 .ah).toNat + 1) (((s.reg8 .al).toNat + 6) % 16))
        else pair (s.reg8 .ah).toNat ((s.reg8 .al).toNat % 16)) }
      flags := { s.flags with
        cf := adj, af := adj, ov := s.freeFlag 0, sf := s.freeFlag 1, zf := s.freeFlag 2, pf := s.freeFlag 3 }
      freeCtr := s.freeCtr + 4 } := by
  rw [← asciiAdjust_ax, asciiAdjust]
  simp only [digitOver, ← hadj]
  rfl

/-- AAM and AAD write both halves of AX, with the flags of the low one (R341, R342). -/
theorem asciiScale_eq (al ah : Byte) : asciiScale s al ah = { s with
    gpr := { s.gpr with ax := pair ah.toNat al.toNat }
    flags := { resultFlags s.flags al with ov := s.freeFlag 0, af := s.freeFlag 1, cf := s.freeFlag 2 }
    freeCtr := s.freeCtr + 3 } := by
  rw [pair_eq_mkWord, ← Flags.ofResult_eq_resultFlags]
  rfl

/-- The high half of AAM's AX is the quotient by ten, the low half the remainder (R341). -/
theorem exec_aam (hl : LockAllowed s) : exec .aam s = .next (asciiScale s (s.reg8 .al % 10) (s.reg8 .al / 10)).retire :=
  runInstr_of_ok hl rfl

theorem exec_aad (hl : LockAllowed s) : exec .aad s = .next (asciiScale s (s.reg8 .al + 10 * s.reg8 .ah) 0).retire :=
  runInstr_of_ok hl rfl

theorem exec_decimal (hl : LockAllowed s) (subtract : Bool) :
    exec (if subtract then .das else .daa) s = .next (decimalAdjust s subtract).retire := by
  cases subtract <;> exact runInstr_of_ok hl rfl

theorem exec_ascii (hl : LockAllowed s) (subtract : Bool) :
    exec (if subtract then .aas else .aaa) s = .next (asciiAdjust s subtract).retire := by
  cases subtract <;> exact runInstr_of_ok hl rfl

end

/-- Settles O17: both opcodes stand in the decoder's table, and the sign is the top bit (`exec_cbw`, `exec_cwd`). -/
theorem signExtension : Obligations.SignExtension := by
  unfold Obligations.SignExtension
  exact ⟨fun _ => ⟨rfl, rfl⟩, fun s hl => ⟨exec_cbw hl, exec_cwd hl⟩⟩

/-- Settles O18: the machine's bytes are the statement's numbers (`decimalAdjust_eq`, `asciiAdjust_eq`, `asciiScale_eq`). -/
theorem adjustments : Obligations.Adjustments := by
  unfold Obligations.Adjustments
  refine ⟨?decimal, ?ascii, ?aam, ?aad⟩
  case decimal =>
    intro s subtract al al1 al2 low high hl hal hlow h1 hhigh h2
    subst hal
    refine ⟨_, exec_decimal hl subtract, ?_⟩
    rw [decimalAdjust_eq subtract hlow h1 hhigh h2]
    exact ⟨rfl, rfl, rfl, rfl⟩
  case ascii =>
    intro s subtract adj al ah hl hal hah hadj
    subst hal hah
    refine ⟨_, exec_ascii hl subtract, ?_⟩
    rw [asciiAdjust_eq subtract hadj]
    exact ⟨rfl, rfl, rfl, rfl⟩
  case aam =>
    intro s hl
    refine ⟨_, exec_aam hl, ?_⟩
    have hlow : (s.reg8 .al % 10).toNat = (s.reg8 .al).toNat % 10 := BitVec.toNat_umod
    have hhigh : (s.reg8 .al / 10).toNat = (s.reg8 .al).toNat / 10 := BitVec.toNat_udiv
    rw [asciiScale_eq, ← hlow, ← hhigh, BitVec.ofNat_toNat, BitVec.setWidth_eq]
    exact ⟨rfl, rfl, rfl, rfl⟩
  case aad =>
    intro s hl
    refine ⟨_, exec_aad hl, ?_⟩
    have hsum : (s.reg8 .al + 10 * s.reg8 .ah).toNat = ((s.reg8 .al).toNat + 10 * (s.reg8 .ah).toNat) % 256 := by simp
    have hresult : s.reg8 .al + 10 * s.reg8 .ah = BitVec.ofNat 8 ((s.reg8 .al).toNat + 10 * (s.reg8 .ah).toNat) :=
      BitVec.eq_of_toNat_eq hsum
    have hax : pair (0 : Byte).toNat (s.reg8 .al + 10 * s.reg8 .ah).toNat = pair 0 ((s.reg8 .al).toNat + 10 * (s.reg8 .ah).toNat) :=
      pair_congr rfl (by rw [hsum, Nat.mod_mod])
    rw [asciiScale_eq, hax, hresult]
    exact ⟨rfl, rfl, rfl, rfl⟩

end Sys2Proof.Machine
end

section
/-! PROOF of O11: AND, OR, XOR and TEST.  Each computes `LogicOp.result` with its flags and draws one free value, which is AF
(`aluCompute_logic`); `storeRm8_drawn` and `storeRm16_drawn` say what the state is when free values have been drawn and the operand
stored. -/

namespace Sys2Proof.Machine

section
variable {s : State}

/-! ### An instruction that draws free values and ends in a store to its operand -/

/-- FLAGS written, free values drawn, the operand stored, the instruction ended: the frame, the flags, and what has been written. -/
theorem storeRm8_drawn (hm : s.mem.wf = true) {e : Rm8} (he : Rm8Ok s e .write) (f : Flags) (k : Nat) (v : Byte) :
    Ended s (storeRm8 { s with flags := f, freeCtr := k } e v).retire ∧
      (storeRm8 { s with flags := f, freeCtr := k } e v).retire.flags = f ∧
      Wrote8 s (storeRm8 { s with flags := f, freeCtr := k } e v).retire e v := by
  have hw : Wrote8 s (storeRm8 { s with flags := f, freeCtr := k } e v) e v := storeRm8_wrote hm rfl he v
  have he' : Rm8Ok { s with flags := f, freeCtr := k } e .write := by cases e <;> exact he
  refine ⟨?_, ?_, by cases e <;> exact hw⟩
  all_goals
    rw [storeRm8_plain he']
    rfl

theorem storeRm16_drawn (hm : s.mem.wf = true) {e : Rm16} (he : Rm16Ok s e .write) (f : Flags) (k : Nat) (v : Word) :
    Ended s (storeRm16 { s with flags := f, freeCtr := k } e v).retire ∧
      (storeRm16 { s with flags := f, freeCtr := k } e v).retire.flags = f ∧
      Wrote16 s (storeRm16 { s with flags := f, freeCtr := k } e v).retire e v := by
  have hw : Wrote16 s (storeRm16 { s with flags := f, freeCtr := k } e v) e v := storeRm16_wrote hm rfl he v
  have he' : Rm16Ok { s with flags := f, freeCtr := k } e .write := by cases e <;> exact he
  refine ⟨?_, ?_, by cases e <;> exact hw⟩
  all_goals
    rw [storeRm16_plain he']
    rfl

/-! ### AND, OR and XOR -/

/-- The state with the flags of a logical result, AF the free value drawn (R380). -/
def State.withLogic {n : Nat} (s : State) (r : BitVec n) : State :=
  { s with flags := logicFlags s.flags r s.freeFlag, freeCtr := s.freeCtr + 1 }

theorem logicResult_eq {n : Nat} (s : State) (r : BitVec n) : logicResult s r = (r, s.withLogic r) := by
  rw [logicResult, Flags.logic, Flags.ofResult_eq_resultFlags]
  rfl

theorem aluCompute_logic {n : Nat} (op : LogicOp) (s : State) (d v : BitVec n) :
    aluCompute op.alu s d v = (op.result d v, s.withLogic (op.result d v)) := by
  cases op <;> exact logicResult_eq s _

variable {op : LogicOp}

theorem LogicOp.alu_ne_cmp (op : LogicOp) : op.alu ≠ .cmp := by
  cases op <;> exact nofun

theorem LogicOp.aluRm8_of_ok {e : Rm8} (he : Rm8Ok s e .write) (v : Byte) :
    aluRm8 op.alu e v s = .ok (storeRm8 (s.withLogic (op.result (rm8Value s e) v)) e (op.result (rm8Value s e) v)) := by
  rw [aluRm8, op.alu_access, loadRm8_of_ok he]
  simp only [bind, Except.bind, aluCompute_logic, if_neg op.alu_ne_cmp]

theorem LogicOp.aluRm16_of_ok {e : Rm16} (he : Rm16Ok s e .write) (v : Word) :
    aluRm16 op.alu e v s = .ok (storeRm16 (s.withLogic (op.result (rm16Value s e) v)) e (op.result (rm16Value s e) v)) := by
  rw [aluRm16, op.alu_access, loadRm16_of_ok he]
  simp only [bind, Except.bind, aluCompute_logic, if_neg op.alu_ne_cmp]

theorem LogicOp.aluReg8_of_ok {e : Rm8} (he : Rm8Ok s e .read) (r : Reg8) :
    aluReg8 op.alu r e s =
      .ok (storeRm8 (s.withLogic (op.result (s.reg8 r) (rm8Value s e))) (.reg r) (op.result (s.reg8 r) (rm8Value s e))) := by
  rw [aluReg8, loadRm8_of_ok he]
  simp only [bind, Except.bind, aluCompute_logic]
  rfl

theorem LogicOp.aluReg16_of_ok {e : Rm16} (he : Rm16Ok s e .read) (r : Reg16) :
    aluReg16 op.alu r e s =
      .ok (storeRm16 (s.withLogic (op.result (s.reg16 r) (rm16Value s e))) (.reg r) (op.result (s.reg16 r) (rm16Value s e))) := by
  rw [aluReg16, loadRm16_of_ok he]
  simp only [bind, Except.bind, aluCompute_logic]
  rfl

/-- Every byte form comes to a store in its destination. -/
theorem LogicOp.exec8_of_ok (hl : LockAllowed s) {f : Form8} (hf : f.Ok s .write) :
    exec (op.instr8 f) s = .next (storeRm8 (s.withLogic (op.result (rm8Value s f.dest) (f.source s))) f.dest
      (op.result (rm8Value s f.dest) (f.source s))).retire := by
  rw [op.exec_instr8]
  cases f with
  | toRm e r | imm e v => exact runInstr_of_ok hl (LogicOp.aluRm8_of_ok hf _)
  | acc v => exact runInstr_of_ok hl (LogicOp.aluRm8_of_ok (e := .reg .al) trivial v)
  | toReg r e => exact runInstr_of_ok hl (LogicOp.aluReg8_of_ok hf r)

theorem LogicOp.exec16_of_ok (hl : LockAllowed s) {f : Form16} (hf : f.Ok s .write) :
    exec (op.instr16 f) s = .next (storeRm16 (s.withLogic (op.result (rm16Value s f.dest) (f.source s))) f.dest
      (op.result (rm16Value s f.dest) (f.source s))).retire := by
  rw [op.exec_instr16]
  cases f with
  | toRm e r | imm e v => exact runInstr_of_ok hl (LogicOp.aluRm16_of_ok hf _)
  | acc v => exact runInstr_of_ok hl (LogicOp.aluRm16_of_ok (e := .reg .ax) trivial v)
  | toReg r e => exact runInstr_of_ok hl (LogicOp.aluReg16_of_ok hf r)

/-! ### TEST -/

theorem testCompute_eq {n : Nat} (s : State) (a b : BitVec n) : testCompute s a b = s.withLogic (a &&& b) :=
  congrArg Prod.snd (logicResult_eq s (a &&& b))

/-- TEST changes FLAGS alone, and a readable operand is enough (R385). -/
theorem TestForm8.exec_of_ok (hl : LockAllowed s) {f : TestForm8} (hf : Rm8Ok s f.dest .read) :
    exec f.instr s = .next (s.withLogic (rm8Value s f.dest &&& f.source s)).retire := by
  rw [f.exec_instr]
  refine runInstr_of_ok hl ?_
  rw [testRm8, loadRm8_of_ok hf]
  exact congrArg Except.ok (testCompute_eq s _ _)

theorem TestForm16.exec_of_ok (hl : LockAllowed s) {f : TestForm16} (hf : Rm16Ok s f.dest .read) :
    exec f.instr s = .next (s.withLogic (rm16Value s f.dest &&& f.source s)).retire := by
  rw [f.exec_instr]
  refine runInstr_of_ok hl ?_
  rw [testRm16, loadRm16_of_ok hf]
  exact congrArg Except.ok (testCompute_eq s _ _)

/-! ### What both end in -/

/-- AF is whatever the later flags have. -/
theorem logicFlags_af {n : Nat} {f g : Flags} {r : BitVec n} {a : Bool} (h : g = logicFlags f r a) : g = logicFlags f r g.af := by
  subst h
  rfl

theorem State.withLogic_retire {n : Nat} (s : State) (r : BitVec n) :
    Ended s (s.withLogic r).retire ∧ WroteNothing s (s.withLogic r).retire ∧
      (s.withLogic r).retire.flags = logicFlags s.flags r (s.withLogic r).retire.flags.af :=
  ⟨rfl, ⟨rfl, fun _ => rfl⟩, rfl⟩

end

/-- Settles O11: every form of AND, OR and XOR is a store of its result in its destination, and TEST changes FLAGS alone. -/
theorem logic : Obligations.Logic := by
  unfold Obligations.Logic
  refine ⟨?bytes, ?words, ?testBytes, ?testWords⟩
  case bytes =>
    intro op f s hl hm hf
    obtain ⟨hend, hflags, hwrote⟩ := storeRm8_drawn hm (Form8.dest_ok hf) _ _ _
    exact ⟨_, LogicOp.exec8_of_ok hl hf, hend, hwrote, logicFlags_af hflags⟩
  case words =>
    intro op f s hl hm hf
    obtain ⟨hend, hflags, hwrote⟩ := storeRm16_drawn hm (ArithForm16.dest_ok (f := .plain f) hf) _ _ _
    exact ⟨_, LogicOp.exec16_of_ok hl hf, hend, hwrote, logicFlags_af hflags⟩
  case testBytes => exact fun f s hl hf => ⟨_, TestForm8.exec_of_ok hl hf, s.withLogic_retire _⟩
  case testWords => exact fun f s hl hf => ⟨_, TestForm16.exec_of_ok hl hf, s.withLogic_retire _⟩

end Sys2Proof.Machine
end

section
/-! PROOF of O19: shifts and rotates.  The closed forms advance with the one-bit step (`shiftStep_result`), so the repeated step is
the closed form (`shiftTimes_eq`).  A step of RCL or RCR is a rotation by one place of the operand and CF taken as one longer
operand (`setWidth_rotateLeft_one`, `extractLsb'_rotateRight_one`). -/

namespace Sys2Proof.Machine

section
variable {n : Nat}

/-! ### Rotations bit by bit -/

theorem getLsbD_bit (hn : 1 < n) (b : Bool) (i : Nat) : (bit n b).getLsbD i = (decide (i = 0) && b) := by
  cases b with
  | false => simp [bit]
  | true => simp [bit, BitVec.getLsbD_one]; omega

/-- A bit comes in at the bottom, all others move up. -/
theorem getLsbD_shiftIn_low (hn : 1 < n) (x : BitVec n) (b : Bool) {i : Nat} (hi : i < n) :
    ((x <<< 1) ||| bit n b).getLsbD i = if i = 0 then b else x.getLsbD (i - 1) := by
  rw [BitVec.getLsbD_or, BitVec.getLsbD_shiftLeft, getLsbD_bit hn]
  by_cases h : i = 0
  · simp [h]
  · simp [h, hi, show ¬ i < 1 by omega]

/-- A bit comes in at the top, all others move down. -/
theorem getLsbD_shiftIn_high (hn : 1 < n) (x : BitVec n) (b : Bool) {i : Nat} (hi : i < n) :
    ((x >>> 1) ||| (bit n b <<< (n - 1))).getLsbD i = if i = n - 1 then b else x.getLsbD (i + 1) := by
  rw [BitVec.getLsbD_or, BitVec.getLsbD_ushiftRight, BitVec.getLsbD_shiftLeft, getLsbD_bit hn, Nat.add_comm 1 i]
  by_cases h : i = n - 1
  · simp [h, show n - 1 + 1 = n by omega, show n - 1 < n by omega]
  · simp [h, hi, show i < n - 1 by omega]

theorem rotateLeft_add (x : BitVec n) (a b : Nat) : x.rotateLeft (a + b) = (x.rotateLeft a).rotateLeft b := by
  apply BitVec.eq_of_getMsbD_eq
  intro i hi
  rw [BitVec.getMsbD_rotateLeft, BitVec.getMsbD_rotateLeft, BitVec.getMsbD_rotateLeft, Nat.add_mod_mod, ← Nat.add_assoc]
  simp [Nat.mod_lt _ (show 0 < n by omega)]

/-- Bits move down, and come around at the top. -/
theorem getLsbD_rotateRight_mod (x : BitVec n) (r : Nat) {i : Nat} (hi : i < n) :
    (x.rotateRight r).getLsbD i = x.getLsbD ((r + i) % n) := by
  have hr := Nat.mod_lt r (show 0 < n by omega)
  rw [BitVec.getLsbD_rotateRight, ← Nat.mod_add_mod]
  by_cases h : i < n - r % n
  · simp [h, Nat.mod_eq_of_lt (show r % n + i < n by omega)]
  · rw [Nat.mod_eq_sub_mod (show n ≤ r % n + i by omega), Nat.mod_eq_of_lt (show r % n + i - n < n by omega)]
    simp [h, hi, show i - (n - r % n) = r % n + i - n by omega]

theorem rotateRight_add (x : BitVec n) (a b : Nat) : x.rotateRight (a + b) = (x.rotateRight a).rotateRight b := by
  apply BitVec.eq_of_getLsbD_eq
  intro i hi
  rw [getLsbD_rotateRight_mod _ _ hi, getLsbD_rotateRight_mod _ _ hi, getLsbD_rotateRight_mod _ _ (Nat.mod_lt _ (by omega)),
    Nat.add_mod_mod, Nat.add_assoc]

/-! ### Rotations by one place -/

/-- The top bit comes around to the bottom. -/
theorem getLsbD_rotateLeft_one (hn : 1 < n) (x : BitVec n) {i : Nat} (hi : i < n) :
    (x.rotateLeft 1).getLsbD i = if i = 0 then x.msb else x.getLsbD (i - 1) := by
  rw [BitVec.getLsbD_rotateLeft, Nat.mod_eq_of_lt hn]
  by_cases h : i = 0
  · simp [h, BitVec.msb_eq_getLsbD_last]
  · simp [h, hi]

/-- The bottom bit comes around to the top. -/
theorem getLsbD_rotateRight_one (hn : 1 < n) (x : BitVec n) {i : Nat} (hi : i < n) :
    (x.rotateRight 1).getLsbD i = if i = n - 1 then x.getLsbD 0 else x.getLsbD (i + 1) := by
  rw [getLsbD_rotateRight_mod _ _ hi, Nat.add_comm 1 i]
  by_cases h : i = n - 1
  · simp [h, show n - 1 + 1 = n by omega]
  · simp [h, Nat.mod_eq_of_lt (show i + 1 < n by omega)]

theorem rotateLeft_one (hn : 1 < n) (x : BitVec n) : (x <<< 1) ||| bit n x.msb = x.rotateLeft 1 := by
  apply BitVec.eq_of_getLsbD_eq
  intro i hi
  rw [getLsbD_shiftIn_low hn _ _ hi, getLsbD_rotateLeft_one hn _ hi]

theorem rotateRight_one (hn : 1 < n) (x : BitVec n) : (x >>> 1) ||| (bit n (x.getLsbD 0) <<< (n - 1)) = x.rotateRight 1 := by
  apply BitVec.eq_of_getLsbD_eq
  intro i hi
  rw [getLsbD_shiftIn_high hn _ _ hi, getLsbD_rotateRight_one hn _ hi]

/-- With CF above the operand, one place to the left is the operand moved up with CF at its bottom (R395). -/
theorem setWidth_rotateLeft_one (hn : 1 < n) (q : BitVec (n + 1)) :
    (q.setWidth n <<< 1) ||| bit n q.msb = (q.rotateLeft 1).setWidth n := by
  apply BitVec.eq_of_getLsbD_eq
  intro i hi
  rw [getLsbD_shiftIn_low hn _ _ hi, BitVec.getLsbD_setWidth, BitVec.getLsbD_setWidth,
    getLsbD_rotateLeft_one (by omega) _ (show i < n + 1 by omega)]
  simp [hi, show i - 1 < n by omega]

theorem msb_setWidth_rotateLeft_one (hn : 1 < n) (q : BitVec (n + 1)) : (q.setWidth n).msb = (q.rotateLeft 1).msb := by
  rw [BitVec.msb_eq_getLsbD_last, BitVec.msb_eq_getLsbD_last, BitVec.getLsbD_setWidth,
    getLsbD_rotateLeft_one (by omega) _ (by omega)]
  simp [show n - 1 < n by omega, show n ≠ 0 by omega]

/-- With CF below the operand, one place to the right is the operand moved down with CF at its top (R396). -/
theorem extractLsb'_rotateRight_one (hn : 1 < n) (q : BitVec (n + 1)) :
    (q.extractLsb' 1 n >>> 1) ||| (bit n (q.getLsbD 0) <<< (n - 1)) = (q.rotateRight 1).extractLsb' 1 n := by
  apply BitVec.eq_of_getLsbD_eq
  intro i hi
  rw [getLsbD_shiftIn_high hn _ _ hi, BitVec.getLsbD_extractLsb', BitVec.getLsbD_extractLsb',
    getLsbD_rotateRight_one (by omega) _ (show 1 + i < n + 1 by omega)]
  by_cases h : i = n - 1
  · simp [h, show n - 1 < n by omega, show 1 + (n - 1) = n by omega]
  · simp [h, hi, show i + 1 < n by omega, show 1 + i ≠ n by omega, show 1 + (i + 1) = 1 + i + 1 by omega]

theorem getLsbD_zero_rotateRight_one (hn : 1 < n) (q : BitVec (n + 1)) :
    (q.extractLsb' 1 n).getLsbD 0 = (q.rotateRight 1).getLsbD 0 := by
  rw [BitVec.getLsbD_extractLsb', getLsbD_rotateRight_one (by omega) _ (by omega)]
  simp [show 0 < n by omega, show 0 ≠ n by omega]

theorem rotateLeft_zero (x : BitVec n) : x.rotateLeft 0 = x := by
  apply BitVec.eq_of_getMsbD_eq
  intro i hi
  rw [BitVec.getMsbD_rotateLeft, decide_eq_true hi, Bool.true_and, Nat.zero_add, Nat.mod_eq_of_lt hi]

theorem rotateRight_zero (x : BitVec n) : x.rotateRight 0 = x := by
  apply BitVec.eq_of_getLsbD_eq
  intro i hi
  rw [getLsbD_rotateRight_mod _ _ hi, Nat.zero_add, Nat.mod_eq_of_lt hi]

theorem extractLsb'_concat_one (x : BitVec n) (b : Bool) : (x.concat b).extractLsb' 1 n = x := by
  apply BitVec.eq_of_getLsbD_eq
  intro i hi
  rw [BitVec.getLsbD_extractLsb', Nat.add_comm 1 i, BitVec.getLsbD_concat_succ, decide_eq_true hi, Bool.true_and]

/-! ### The closed forms as the machine's own shifts -/

theorem ShiftOp.result_shl (x : BitVec n) (cf : Bool) (c : Nat) : ShiftOp.shl.result x cf c = x <<< c :=
  BitVec.eq_of_toNat_eq (by simp [ShiftOp.result, Nat.shiftLeft_eq])

theorem ShiftOp.result_shr (x : BitVec n) (cf : Bool) (c : Nat) : ShiftOp.shr.result x cf c = x >>> c := by
  apply BitVec.eq_of_toNat_eq
  rw [ShiftOp.result, BitVec.toNat_ofNat, BitVec.toNat_ushiftRight, Nat.shiftRight_eq_div_pow,
    Nat.mod_eq_of_lt (Nat.lt_of_le_of_lt (Nat.div_le_self _ _) x.isLt)]

theorem ShiftOp.result_sar (x : BitVec n) (cf : Bool) (c : Nat) : ShiftOp.sar.result x cf c = x.sshiftRight c := by
  rw [ShiftOp.result, BitVec.sshiftRight, Int.shiftRight_eq_div_pow]
  norm_cast

theorem ShiftOp.result_rol (x : BitVec n) (cf : Bool) (c : Nat) : ShiftOp.rol.result x cf c = x.rotateLeft c :=
  BitVec.rotateLeft_mod_eq_rotateLeft

theorem ShiftOp.result_ror (x : BitVec n) (cf : Bool) (c : Nat) : ShiftOp.ror.result x cf c = x.rotateRight c :=
  BitVec.rotateRight_mod_eq_rotateRight

theorem ShiftOp.result_rcl (x : BitVec n) (cf : Bool) (c : Nat) :
    ShiftOp.rcl.result x cf c = ((BitVec.cons cf x).rotateLeft c).setWidth n :=
  congrArg (BitVec.setWidth n) BitVec.rotateLeft_mod_eq_rotateLeft

theorem ShiftOp.result_rcr (x : BitVec n) (cf : Bool) (c : Nat) :
    ShiftOp.rcr.result x cf c = ((x.concat cf).rotateRight c).extractLsb' 1 n :=
  congrArg (BitVec.extractLsb' 1 n) BitVec.rotateRight_mod_eq_rotateRight

theorem ShiftOp.carry_rol (x : BitVec n) (cf : Bool) (c : Nat) : ShiftOp.rol.carry x cf c = (x.rotateLeft c).getLsbD 0 :=
  congrArg (BitVec.getLsbD · 0) BitVec.rotateLeft_mod_eq_rotateLeft

theorem ShiftOp.carry_ror (x : BitVec n) (cf : Bool) (c : Nat) : ShiftOp.ror.carry x cf c = (x.rotateRight c).msb :=
  congrArg BitVec.msb BitVec.rotateRight_mod_eq_rotateRight

theorem ShiftOp.carry_rcl (x : BitVec n) (cf : Bool) (c : Nat) :
    ShiftOp.rcl.carry x cf c = ((BitVec.cons cf x).rotateLeft c).msb :=
  congrArg BitVec.msb BitVec.rotateLeft_mod_eq_rotateLeft

theorem ShiftOp.carry_rcr (x : BitVec n) (cf : Bool) (c : Nat) :
    ShiftOp.rcr.carry x cf c = ((x.concat cf).rotateRight c).getLsbD 0 :=
  congrArg (BitVec.getLsbD · 0) BitVec.rotateRight_mod_eq_rotateRight

theorem ShiftOp.result_zero (op : ShiftOp) (x : BitVec n) (cf : Bool) : op.result x cf 0 = x := by
  cases op with
  | shl => rw [result_shl, BitVec.shiftLeft_zero]
  | shr => rw [result_shr, BitVec.ushiftRight_zero]
  | sar => rw [result_sar, BitVec.sshiftRight_zero]
  | rol => rw [result_rol, rotateLeft_zero]
  | ror => rw [result_ror, rotateRight_zero]
  | rcl => rw [result_rcl, rotateLeft_zero, BitVec.setWidth_cons]
  | rcr => rw [result_rcr, rotateRight_zero, extractLsb'_concat_one]

/-! ### The repeated step is the closed form -/

theorem shiftTimes_succ (op : ShiftOp) (x : BitVec n) (cf : Bool) (c : Nat) :
    shiftTimes op (c + 1) x cf = shiftStep op (shiftTimes op c x cf).1 (shiftTimes op c x cf).2 := by
  induction c generalizing x cf with
  | zero => rfl
  | succ c ih => exact ih _ _

theorem ShiftOp.carry_shl_succ (x : BitVec n) (cf : Bool) (c : Nat) : (x <<< c).msb = ShiftOp.shl.carry x cf (c + 1) := by
  rw [BitVec.msb_shiftLeft, BitVec.getMsbD, ShiftOp.carry, Nat.sub_sub, Nat.add_comm 1 c]
  rfl

theorem ShiftOp.carry_shr_succ (x : BitVec n) (cf : Bool) (c : Nat) :
    (x >>> c).getLsbD 0 = ShiftOp.shr.carry x cf (c + 1) := by
  rw [BitVec.getLsbD_ushiftRight, ShiftOp.carry, Nat.add_zero, Nat.add_sub_cancel]
  by_cases h : c + 1 ≤ n
  · simp [h]
  · simp [h, BitVec.getLsbD_of_ge x c (by omega)]

theorem ShiftOp.carry_sar_succ (hn : 1 < n) (x : BitVec n) (cf : Bool) (c : Nat) :
    (x.sshiftRight c).getLsbD 0 = ShiftOp.sar.carry x cf (c + 1) := by
  rw [BitVec.getLsbD_sshiftRight, ShiftOp.carry, Nat.add_zero, Nat.add_sub_cancel]
  simp [show n ≠ 0 by omega]

/-- RCL takes in CF: the top bit of the longer operand, before the first step as after. -/
theorem ShiftOp.carryIn_rcl {x : BitVec n} {cf b : Bool} {c : Nat} (hb : b = if c = 0 then cf else ShiftOp.rcl.carry x cf c) :
    b = ((BitVec.cons cf x).rotateLeft c).msb := by
  cases c with
  | zero => rw [hb, rotateLeft_zero, BitVec.msb_cons, if_pos rfl]
  | succ c => exact hb.trans (carry_rcl x cf (c + 1))

theorem ShiftOp.carryIn_rcr {x : BitVec n} {cf b : Bool} {c : Nat} (hb : b = if c = 0 then cf else ShiftOp.rcr.carry x cf c) :
    b = ((x.concat cf).rotateRight c).getLsbD 0 := by
  cases c with
  | zero => rw [hb, rotateRight_zero, BitVec.getLsbD_concat_zero, if_pos rfl]
  | succ c => exact hb.trans (carry_rcr x cf (c + 1))

/-- One more step takes the closed form of `c` steps to that of `c + 1` (R389 to R396). -/
theorem shiftStep_result (hn : 1 < n) (op : ShiftOp) (x : BitVec n) {cf b : Bool} {c : Nat}
    (hb : b = if c = 0 then cf else op.carry x cf c) :
    shiftStep op (op.result x cf c) b = (op.result x cf (c + 1), op.carry x cf (c + 1)) := by
  cases op with
  | shl => rw [ShiftOp.result_shl, ShiftOp.result_shl, BitVec.shiftLeft_add, ← ShiftOp.carry_shl_succ]; rfl
  | shr => rw [ShiftOp.result_shr, ShiftOp.result_shr, BitVec.shiftRight_add, ← ShiftOp.carry_shr_succ]; rfl
  | sar => rw [ShiftOp.result_sar, ShiftOp.result_sar, BitVec.sshiftRight_add, ← ShiftOp.carry_sar_succ hn]; rfl
  | rol =>
    rw [ShiftOp.result_rol, ShiftOp.result_rol, ShiftOp.carry_rol, rotateLeft_add, getLsbD_rotateLeft_one hn _ (by omega),
      if_pos rfl, shiftStep, rotateLeft_one hn]
  | ror =>
    rw [ShiftOp.result_ror, ShiftOp.result_ror, ShiftOp.carry_ror, rotateRight_add, BitVec.msb_eq_getLsbD_last,
      getLsbD_rotateRight_one hn _ (by omega), if_pos rfl, shiftStep, rotateRight_one hn]
  | rcl =>
    rw [ShiftOp.result_rcl, ShiftOp.result_rcl, ShiftOp.carry_rcl, rotateLeft_add, ShiftOp.carryIn_rcl hb, shiftStep,
      setWidth_rotateLeft_one hn, msb_setWidth_rotateLeft_one hn]
  | rcr =>
    rw [ShiftOp.result_rcr, ShiftOp.result_rcr, ShiftOp.carry_rcr, rotateRight_add, ShiftOp.carryIn_rcr hb, shiftStep,
      extractLsb'_rotateRight_one hn, getLsbD_zero_rotateRight_one hn]

theorem shiftTimes_eq (hn : 1 < n) (op : ShiftOp) (x : BitVec n) (cf : Bool) (c : Nat) :
    shiftTimes op c x cf = (op.result x cf c, if c = 0 then cf else op.carry x cf c) := by
  induction c with
  | zero => rw [op.result_zero, if_pos rfl, shiftTimes]
  | succ c ih => rw [shiftTimes_succ, ih, shiftStep_result hn op x rfl, if_neg (Nat.succ_ne_zero c)]

/-! ### The overflow flag -/

theorem getLsbD_shiftIn_high_second (hn : 1 < n) (x : BitVec n) (b : Bool) :
    ((x >>> 1) ||| (bit n b <<< (n - 1))).getLsbD (n - 2) = x.msb := by
  rw [getLsbD_shiftIn_high hn _ _ (by omega), if_neg (by omega), show n - 2 + 1 = n - 1 by omega, BitVec.msb_eq_getLsbD_last]

/-- Below the top bit of an operand shifted right by one place stands its sign. -/
theorem shiftStep_right_second (hn : 1 < n) {op : ShiftOp} (ho : op.left = false) (x : BitVec n) (cf : Bool) :
    (shiftStep op x cf).1.getLsbD (n - 2) = x.msb := by
  have hs : n - 2 + 1 = n - 1 := by omega
  cases op with
  | rol | rcl | shl => exact nomatch ho
  | ror | rcr => exact getLsbD_shiftIn_high_second hn x _
  | shr => rw [shiftStep, BitVec.getLsbD_ushiftRight, Nat.add_comm, hs, BitVec.msb_eq_getLsbD_last]
  | sar =>
    rw [shiftStep, BitVec.getLsbD_sshiftRight, Nat.add_comm, hs, BitVec.msb_eq_getLsbD_last]
    simp [show n - 1 < n by omega, show ¬ n ≤ n - 2 by omega]

/-- The carry of a step to the left is the sign shifted out. -/
theorem shiftStep_left_carry {op : ShiftOp} (ho : op.left = true) (x : BitVec n) (cf : Bool) : (shiftStep op x cf).2 = x.msb := by
  cases op with
  | rol | rcl | shl => rfl
  | ror | rcr | shr | sar => exact nomatch ho

/-- OF after one step says whether the sign has changed (R388). -/
theorem shiftOverflow_shiftStep (hn : 1 < n) (op : ShiftOp) (x : BitVec n) (cf : Bool) :
    shiftOverflow op (shiftStep op x cf).1 (shiftStep op x cf).2 = ((shiftStep op x cf).1.msb != x.msb) := by
  cases ho : op.left with
  | true => simp only [shiftOverflow, ho, if_true, shiftStep_left_carry ho, Bool.bne_eq_xor]
  | false =>
    simp only [shiftOverflow, ho, Bool.false_eq_true, if_false, shiftStep_right_second hn ho, ← BitVec.msb_eq_getLsbD_last,
      Bool.bne_eq_xor]

theorem shiftOverflow_result (hn : 1 < n) (op : ShiftOp) (x : BitVec n) (cf : Bool) :
    shiftOverflow op (op.result x cf 1) (op.carry x cf 1) = ((op.result x cf 1).msb != x.msb) := by
  have hstep : shiftStep op x cf = (op.result x cf 1, op.carry x cf 1) := shiftTimes_eq hn op x cf 1
  have hsign := shiftOverflow_shiftStep hn op x cf
  rwa [hstep] at hsign

/-! ### Result and flags -/

/-- The flags left open are taken from `g`, so the flags after an operation, given as `g`, come out unchanged. -/
theorem ShiftOp.flagsAfter_self (op : ShiftOp) (f g : Flags) (x : BitVec n) (c : Nat) :
    op.flagsAfter f (op.flagsAfter f g x c) x c = op.flagsAfter f g x c := by
  by_cases h0 : c = 0
  · simp only [ShiftOp.flagsAfter, h0, if_true]
  · by_cases h1 : c = 1
    · cases op <;> simp [ShiftOp.flagsAfter, h1]
    · cases op <;> simp [ShiftOp.flagsAfter, h0, h1]

/-- The flags of a count that is not 0, a rotate's and a shift's (R387 to R392). -/
theorem ShiftOp.flagsAfter_of_ne_zero (op : ShiftOp) (f g : Flags) (x : BitVec n) {c : Nat} (hc : c ≠ 0) :
    op.flagsAfter f g x c =
      let ov := if c = 1 then (op.result x f.cf c).msb != x.msb else g.ov
      if op.rotates then { f with cf := op.carry x f.cf c, ov := ov }
      else { f.ofResult (op.result x f.cf c) with cf := op.carry x f.cf c, ov := ov, af := g.af } := by
  simp only [ShiftOp.flagsAfter, if_neg hc, Flags.ofResult_eq_resultFlags]
  cases op <;> rfl

/-- A shift or rotate computes the closed form for its count, and its undefined flags are free values. -/
theorem shiftCompute_eq (hn : 1 < n) (op : ShiftOp) (s : State) (x : BitVec n) {raw : Byte} {c : Nat} (hr : raw.toNat % 32 = c) :
    ∃ g k, shiftCompute op s x raw = (op.value s.flags x c, { s with flags := op.flagsAfter s.flags g x c, freeCtr := k }) := by
  by_cases hc : c = 0
  · refine ⟨s.flags, s.freeCtr, ?_⟩
    simp only [shiftCompute, maskCount, ShiftOp.value, ShiftOp.flagsAfter, hr, hc, if_true]
  · refine ⟨{ s.flags with ov := s.freeFlag 0, af := s.freeFlag 1 }, s.freeCtr + 2, ?_⟩
    have hov : (if c = 1 then shiftOverflow op (op.result x s.flags.cf c) (op.carry x s.flags.cf c) else s.freeFlag 0) =
        if c = 1 then (op.result x s.flags.cf c).msb != x.msb else s.freeFlag 0 :=
      ite_congr rfl (fun h1 => by rw [h1, shiftOverflow_result hn]) fun _ => rfl
    rw [ShiftOp.flagsAfter_of_ne_zero op _ _ x hc, ShiftOp.value, if_neg hc]
    simp only [shiftCompute, maskCount, hr, if_neg hc, shiftTimes_eq hn, hov]
    rfl

end

section
variable {s : State}

theorem shiftRm8_of_ok (op : ShiftOp) {e : Rm8} (he : Rm8Ok s e .write) (raw : Byte) :
    ∃ g k, shiftRm8 op e raw s = .ok (storeRm8
      { s with flags := op.flagsAfter s.flags g (rm8Value s e) (raw.toNat % 32), freeCtr := k } e
      (op.value s.flags (rm8Value s e) (raw.toNat % 32))) := by
  obtain ⟨g, k, h⟩ := shiftCompute_eq (show 1 < 8 by omega) op s (rm8Value s e) (raw := raw) rfl
  refine ⟨g, k, ?_⟩
  rw [shiftRm8, loadRm8_of_ok he]
  simp only [bind, Except.bind, h]

theorem shiftRm16_of_ok (op : ShiftOp) {e : Rm16} (he : Rm16Ok s e .write) (raw : Byte) :
    ∃ g k, shiftRm16 op e raw s = .ok (storeRm16
      { s with flags := op.flagsAfter s.flags g (rm16Value s e) (raw.toNat % 32), freeCtr := k } e
      (op.value s.flags (rm16Value s e) (raw.toNat % 32))) := by
  obtain ⟨g, k, h⟩ := shiftCompute_eq (show 1 < 16 by omega) op s (rm16Value s e) (raw := raw) rfl
  refine ⟨g, k, ?_⟩
  rw [shiftRm16, loadRm16_of_ok he]
  simp only [bind, Except.bind, h]

/-- Whatever values the undefined flags were given, they may be read off the flags afterwards. -/
theorem ShiftOp.flagsAfter_later {n : Nat} {op : ShiftOp} {f g t : Flags} {x : BitVec n} {c : Nat} (h : t = op.flagsAfter f g x c) :
    t = op.flagsAfter f t x c := by
  rw [h, op.flagsAfter_self]

end

/-- Settles O19: every form is a store of its closed form in its operand (`shiftTimes_eq`, `shiftCompute_eq`). -/
theorem shifts : Obligations.Shifts := by
  unfold Obligations.Shifts
  constructor
  · intro op f e s hl hm he
    obtain ⟨g, k, h⟩ := shiftRm8_of_ok op he (f.raw s)
    obtain ⟨hend, hflags, hwrote⟩ := storeRm8_drawn hm he _ k _
    exact ⟨_, (op.exec_instr8 f e s).trans (runInstr_of_ok hl h), hend, hwrote, ShiftOp.flagsAfter_later hflags⟩
  · intro op f e s hl hm he
    obtain ⟨g, k, h⟩ := shiftRm16_of_ok op he (f.raw s)
    obtain ⟨hend, hflags, hwrote⟩ := storeRm16_drawn hm he _ k _
    exact ⟨_, (op.exec_instr16 f e s).trans (runInstr_of_ok hl h), hend, hwrote, ShiftOp.flagsAfter_later hflags⟩

end Sys2Proof.Machine
end

section
/-! PROOF of O30 and O31: the string instructions.  One iteration whose references reach plain memory is described once
(`StringKind.once_of_ok`), with the bus locked or not (`StringKind.iteration_of_ok`); a repetition adds the count in CX and the choice
between the next instruction and the first prefix (`State.endIteration_done`, `State.endIteration_goes_on`). -/

namespace Sys2Proof.Machine

section
variable {s t u : State} {w : Elem}

/-! ### Elements in plain memory and at ports -/

theorem loByte_eq_setWidth (v : Word) : loByte v = v.setWidth 8 := BitVec.eq_of_toNat_eq (by simp [loByte])

theorem loByte_zext16 (b : Byte) : loByte (zext16 b) = b := BitVec.eq_of_toNat_eq (by simpa [loByte, zext16] using b.isLt)

/-- A value that an element of this size can hold: a byte comes zero-extended. -/
def Elem.Holds (v : Word) : Elem → Prop
  | .byte => zext16 (loByte v) = v
  | .word => True

theorem elemAt_holds (s : State) (w : Elem) (r : SegReg) (off : Word) : w.Holds (elemAt s w r off) := by
  cases w with
  | byte => exact congrArg zext16 (loByte_zext16 _)
  | word => trivial

theorem accumulator_holds (s : State) (w : Elem) : w.Holds (accumulator s w) := by
  cases w with
  | byte => exact congrArg zext16 (loByte_zext16 _)
  | word => trivial

theorem portRead_holds (s : State) (w : Elem) : w.Holds (w.portRead s).1 := by
  cases w with
  | byte => exact congrArg zext16 (loByte_zext16 _)
  | word => trivial

/-- An element read from plain memory, and nothing changed. -/
theorem Elem.get_of_reachable {r : SegReg} {off : Word} {k : Access} (h : Reachable s r off w.size k) :
    w.get s r off = (elemAt s w r off, s) := by
  cases w with
  | byte =>
    unfold Elem.get
    rw [State.segGet8_memory h.2 (show 0 < 1 by omega)]
    rfl
  | word => exact State.segGet16_memory h.2

theorem srcGet_of_reachable (h : Reachable s (sourceSeg s) s.gpr.si w.size .read) :
    srcGet w s = (elemAt s w (sourceSeg s) s.gpr.si, s) := Elem.get_of_reachable h

theorem dstGet_of_reachable (h : Reachable s .es s.gpr.di w.size .read) : dstGet w s = (elemAt s w .es s.gpr.di, s) :=
  Elem.get_of_reachable h

/-- An element stored in plain memory, when only the ports' side has changed since its address was found. -/
theorem Elem.put_of_reachable (hm : s.mem.wf = true) (h : Reachable s .es s.gpr.di w.size .write)
    (hu : u = { s with portLog := u.portLog, portFeed := u.portFeed, freeCtr := u.freeCtr }) {v : Word} (hv : w.Holds v) :
    ∃ m, w.put u .es s.gpr.di v = { u with mem := m } ∧ Stored s { s with mem := m } w v := by
  obtain ⟨-, hmem⟩ := h
  have hu' : InMemory u .es s.gpr.di w.size .write := by
    rw [hu]
    exact hmem
  have haddr : ∀ j, u.segAddr .es s.gpr.di j = s.segAddr .es s.gpr.di j := fun j => by
    rw [hu]
    rfl
  have hum : u.mem = s.mem := by rw [hu]
  cases w with
  | byte =>
    refine ⟨_, State.segPut8_ram hu' (show 0 < 1 by omega) _, ?_, fun a ha => ?_⟩
    · show zext16 _ = v
      rw [haddr, hum, Memory.read_write_same hm]
      exact hv
    · rw [haddr, hum]
      exact Memory.read_write_other _ _ (by simpa [elemBytes] using ha)
  | word =>
    refine ⟨_, State.segPut16_ram hu' v, ?_, ?_⟩
    · have hs := State.segPut16_after hm hmem v
      rw [State.segPut16_ram hmem] at hs
      rw [haddr, haddr, hum]
      exact hs
    · have hs := State.segPut16_sameBut hmem.1 .es s.gpr.di v
      rw [State.segPut16_ram hmem] at hs
      rw [haddr, haddr, hum]
      exact hs

/-- An element read from the port of DX: all that the read changes. -/
theorem Elem.portRead_rest (h : Unreset s) (w : Elem) : (w.portRead s).2 = { s with
    portLog := (w.portRead s).2.portLog, portFeed := (w.portRead s).2.portFeed, freeCtr := (w.portRead s).2.freeCtr } := by
  cases w with
  | byte => exact (State.portRead8_in h _).2
  | word => exact (State.portRead16_in h _).2

/-- The record of an element written to a port. -/
def Elem.writeEvent (p v : Word) : Elem → PortEvent
  | .byte => .write8 p (loByte v)
  | .word => .write16 p v

theorem Elem.portWrite_of_unreset (h : Unreset s) (w : Elem) (v : Word) :
    w.portWrite s v = { s with portLog := s.portLog ++ [w.writeEvent s.gpr.dx v] } := by
  cases w with
  | byte => exact State.portWrite8_unreset h _ _
  | word => exact State.portWrite16_unreset h _ _

/-! ### Registers and flags of one iteration -/

theorem Elem.delta_added (s : State) (w : Elem) (x : Word) : x + w.delta s = stepped s w x := by
  unfold Elem.delta stepped
  split
  · simp [BitVec.sub_eq_add_neg]
  · rfl

theorem State.stepSi_eq (s : State) (w : Elem) :
    s.stepSi w = { s with gpr := { s.gpr with si := stepped s w s.gpr.si } } := by
  rw [State.stepSi, Elem.delta_added]

theorem State.stepDi_eq (s : State) (w : Elem) :
    s.stepDi w = { s with gpr := { s.gpr with di := stepped s w s.gpr.di } } := by
  rw [State.stepDi, Elem.delta_added]

theorem Elem.compare_eq_compareFlags (w : Elem) (f : Flags) (a b : Word) : w.compare f a b = compareFlags w f a b := by
  cases w with
  | byte =>
    simp only [Elem.compare, compareFlags, loByte_eq_setWidth]
    exact Flags.sub_eq_differenceFlags (by omega) f _ _ false
  | word => exact Flags.sub_eq_differenceFlags (by omega) f a b false

theorem Elem.acc_eq_accumulator (w : Elem) (s : State) : w.acc s = accumulator s w := by cases w <;> rfl

/-- LODS: the element at SI in AL or AX, and SI one element on. -/
theorem Elem.setAcc_elemAt (w : Elem) (s : State) :
    (w.setAcc s (elemAt s w (sourceSeg s) s.gpr.si)).stepSi w = { s with gpr := StringKind.lods.gprAfter s w } := by
  rw [State.stepSi_eq]
  cases w with
  | byte =>
    have hal : loByte (elemAt s .byte (sourceSeg s) s.gpr.si) = s.segByte (sourceSeg s) s.gpr.si := loByte_zext16 _
    simp only [Elem.setAcc, hal, StringKind.gprAfter, ← withLow_eq_pair]
    rfl
  | word => rfl

/-! ### One iteration -/

/-- Between two states one iteration has been made; IP, CX, the prefixes and the bus are as they were. -/
structure StringKind.Iterated (k : StringKind) (s t : State) (w : Elem) : Prop where
  effect : k.Effect s t w
  rest : t = { s with
    gpr := k.gprAfter s w
    flags := k.flagsAfter s w
    portLog := t.portLog
    portFeed := t.portFeed
    mem := t.mem
    freeCtr := t.freeCtr }

/-- The effect is one on memory, the ports and the counter of free values. -/
theorem StringKind.effect_eq (k : StringKind) (s t : State) (w : Elem) : k.Effect s t w = k.Effect s
    { s with mem := t.mem, portFeed := t.portFeed, portLog := t.portLog, freeCtr := t.freeCtr } w := by
  cases k <;> rfl

theorem StringKind.Effect.congr {k : StringKind} (h : k.Effect s t w) (hm : u.mem = t.mem) (hf : u.portFeed = t.portFeed)
    (hl : u.portLog = t.portLog) (hc : u.freeCtr = t.freeCtr) : k.Effect s u w := by
  rw [k.effect_eq s u, hm, hf, hl, hc, ← k.effect_eq s t]
  exact h

theorem movsOnce_iterated (hm : s.mem.wf = true) (h : StringKind.movs.Ok s w) :
    ∃ t, movsOnce w s = .ok t ∧ StringKind.movs.Iterated s t w := by
  obtain ⟨hs, hd⟩ := h
  obtain ⟨m, hput, hstored⟩ := Elem.put_of_reachable (u := s) hm hd rfl (elemAt_holds s w (sourceSeg s) s.gpr.si)
  refine ⟨_, movsOnce_of_accessible hs.1 hd.1, ?_⟩
  rw [srcGet_of_reachable hs, hput, State.stepSi_eq, State.stepDi_eq]
  exact ⟨⟨hstored, rfl, rfl, rfl⟩, rfl⟩

theorem cmpsOnce_iterated (h : StringKind.cmps.Ok s w) : ∃ t, cmpsOnce w s = .ok t ∧ StringKind.cmps.Iterated s t w := by
  obtain ⟨hs, hd⟩ := h
  refine ⟨_, by rw [cmpsOnce, srcCheck_of_accessible w hs.1, dstCheck_of_accessible w hd.1]; rfl, ?_⟩
  rw [srcGet_of_reachable hs, dstGet_of_reachable hd, Elem.compare_eq_compareFlags,
    State.stepSi_eq, State.stepDi_eq]
  exact ⟨⟨fun _ => rfl, rfl, rfl, rfl⟩, by cases w <;> rfl⟩

theorem scasOnce_iterated (h : StringKind.scas.Ok s w) : ∃ t, scasOnce w s = .ok t ∧ StringKind.scas.Iterated s t w := by
  refine ⟨_, by rw [scasOnce, dstCheck_of_accessible w h.1]; rfl, ?_⟩
  rw [dstGet_of_reachable h, Elem.acc_eq_accumulator, Elem.compare_eq_compareFlags,
    State.stepDi_eq]
  exact ⟨⟨fun _ => rfl, rfl, rfl, rfl⟩, by cases w <;> rfl⟩

theorem lodsOnce_iterated (h : StringKind.lods.Ok s w) : ∃ t, lodsOnce w s = .ok t ∧ StringKind.lods.Iterated s t w := by
  refine ⟨_, by rw [lodsOnce, srcCheck_of_accessible w h.1]; rfl, ?_⟩
  rw [srcGet_of_reachable h, Elem.setAcc_elemAt]
  exact ⟨⟨fun _ => rfl, rfl, rfl, rfl⟩, rfl⟩

theorem stosOnce_iterated (hm : s.mem.wf = true) (h : StringKind.stos.Ok s w) :
    ∃ t, stosOnce w s = .ok t ∧ StringKind.stos.Iterated s t w := by
  obtain ⟨m, hput, hstored⟩ := Elem.put_of_reachable (u := s) hm h rfl (accumulator_holds s w)
  refine ⟨_, by rw [stosOnce, dstCheck_of_accessible w h.1]; rfl, ?_⟩
  rw [Elem.acc_eq_accumulator, hput, State.stepDi_eq]
  exact ⟨⟨hstored, rfl, rfl, rfl⟩, rfl⟩

/-- What INS has stored is the port's answer. -/
theorem StringKind.ins_effect_of_stored (h : Unreset s) (hs : Stored s t w (w.portRead s).1)
    (hf : t.portFeed = (w.portRead s).2.portFeed) (hl : t.portLog = (w.portRead s).2.portLog) : StringKind.ins.Effect s t w := by
  cases w with
  | byte =>
    obtain ⟨⟨hfed, hlog⟩, -⟩ := State.portRead8_in h s.gpr.dx
    exact ⟨_, hs, hf ▸ hfed, hl.trans hlog⟩
  | word =>
    obtain ⟨⟨hfed, hlog⟩, -⟩ := State.portRead16_in h s.gpr.dx
    exact ⟨_, hs, hf ▸ hfed, hl.trans hlog⟩

theorem insOnce_iterated (hm : s.mem.wf = true) (h : StringKind.ins.Ok s w) :
    ∃ t, insOnce w s = .ok t ∧ StringKind.ins.Iterated s t w := by
  obtain ⟨hio, hd⟩ := h
  have ⟨hacc, alone, _⟩ := hd
  have hrest := Elem.portRead_rest alone.2 w
  obtain ⟨m, hput, hstored⟩ := Elem.put_of_reachable hm hd hrest (portRead_holds s w)
  refine ⟨_, insOnce_of_allowed hio hacc, ?_⟩
  rw [hput, State.stepDi_eq]
  refine ⟨StringKind.ins_effect_of_stored alone.2 hstored rfl rfl, ?_⟩
  rw [hrest]
  rfl

theorem outsOnce_iterated (h : StringKind.outs.Ok s w) : ∃ t, outsOnce w s = .ok t ∧ StringKind.outs.Iterated s t w := by
  obtain ⟨hio, hs⟩ := h
  have ⟨hacc, alone, _⟩ := hs
  refine ⟨_, outsOnce_of_allowed hio hacc, ?_⟩
  rw [srcGet_of_reachable hs, Elem.portWrite_of_unreset alone.2, State.stepSi_eq]
  refine ⟨⟨fun _ => rfl, rfl, rfl, ?_⟩, rfl⟩
  cases w with
  | byte => exact congrArg (fun b => s.portLog ++ [PortEvent.write8 s.gpr.dx b]) (loByte_zext16 _)
  | word => rfl

/-- One iteration of each of the seven operations (R421 to R427). -/
theorem StringKind.once_of_ok {k : StringKind} (hm : s.mem.wf = true) (h : k.Ok s w) :
    ∃ t, k.once w s = .ok t ∧ k.Iterated s t w := by
  cases k with
  | movs => exact movsOnce_iterated hm h
  | cmps => exact cmpsOnce_iterated h
  | scas => exact scasOnce_iterated h
  | lods => exact lodsOnce_iterated h
  | stos => exact stosOnce_iterated hm h
  | ins => exact insOnce_iterated hm h
  | outs => exact outsOnce_iterated h

/-! ### The lock around an iteration (R444) -/

theorem StringKind.Ok.withLock {k : StringKind} (h : k.Ok s w) (l : BusLock) : k.Ok (s.withLock l) w := by
  cases k <;> exact h

theorem StringKind.Iterated.unlock {k : StringKind} {l : BusLock} (h : k.Iterated (s.withLock l) t w) :
    k.Iterated s (t.withLock s.bus.lock) w := by
  obtain ⟨heffect, hrest⟩ := h
  have hg : k.gprAfter (s.withLock l) w = k.gprAfter s w := by cases k <;> rfl
  have hf : k.flagsAfter (s.withLock l) w = k.flagsAfter s w := by cases k <;> rfl
  rw [hg, hf] at hrest
  constructor
  · have he : k.Effect s t w := by cases k <;> exact heffect
    exact he.congr rfl rfl rfl rfl
  · rw [hrest]
    rfl

theorem StringKind.iteration_of_ok {k : StringKind} (hm : s.mem.wf = true) (h : k.Ok s w) (locks : Bool) :
    ∃ t, (if locks then locked (k.once w) s else k.once w s) = .ok t ∧ k.Iterated s t w := by
  cases locks with
  | false => exact k.once_of_ok hm h
  | true =>
    obtain ⟨t, ht, hit⟩ := k.once_of_ok (s := s.withLock .active) hm (h.withLock .active)
    refine ⟨t.withLock s.bus.lock, ?_, hit.unlock⟩
    rw [if_pos rfl, locked, ht]

/-! ### Repetition (R430, R431) -/

section
variable {once : State → Except Trap State} {compares locks lockable : Bool} {k : RepKind}

theorem runString_of_ok (hl : LockAllowed s) (h : stringOp compares (lockable && s.pfx.lock) once s = .ok t) :
    runString compares lockable once s = .next t := by
  unfold runString
  rw [lockGuard_of_allowed hl, h]
  rfl

theorem stringOp_of_single (hr : s.pfx.rep = none) (ho : (if locks then locked once s else once s) = .ok t) :
    stringOp compares locks once s = .ok t.retire := by
  unfold stringOp
  rw [hr]
  cases locks <;> exact congrArg (· >>= _) ho

theorem stringOp_of_exhausted (hr : s.pfx.rep = some k) (hc : s.gpr.cx = 0) : stringOp compares locks once s = .ok s.retire := by
  unfold stringOp
  rw [hr]
  exact if_pos hc

theorem stringOp_of_repeated (hr : s.pfx.rep = some k) (hc : s.gpr.cx ≠ 0)
    (ho : (if locks then locked once s else once s) = .ok t) :
    stringOp compares locks once s = .ok (t.decCx.endIteration k compares locks) := by
  unfold stringOp
  rw [hr]
  refine (if_neg hc).trans ?_
  cases locks <;> exact congrArg (· >>= _) ho

/-- REPE ends on a comparison that found a difference, REPNE on one that found none. -/
theorem repStops_iff (k : RepKind) (zf : Bool) : repStops k zf = true ↔ (zf = true ↔ k = .repne) := by
  cases k <;> cases zf <;> simp [repStops]

theorem endsRepetition_iff (s : State) (k : RepKind) (compares : Bool) :
    (decide (s.gpr.cx = 0) || (compares && repStops k s.flags.zf)) = true ↔
      s.gpr.cx = 0 ∨ (compares = true ∧ (s.flags.zf = true ↔ k = .repne)) := by
  rw [Bool.or_eq_true, Bool.and_eq_true, decide_eq_true_iff, repStops_iff]

theorem State.endIteration_done (h : s.gpr.cx = 0 ∨ (compares = true ∧ (s.flags.zf = true ↔ k = .repne))) (locks : Bool) :
    s.endIteration k compares locks = s.retire := if_pos ((endsRepetition_iff s k compares).2 h)

theorem State.endIteration_goes_on (h : ¬ (s.gpr.cx = 0 ∨ (compares = true ∧ (s.flags.zf = true ↔ k = .repne)))) (locks : Bool) :
    s.endIteration k compares locks = s.again locks := if_neg (mt (endsRepetition_iff s k compares).1 h)

/-- A repetition that goes on keeps the lock of an operation that makes one, where the prefix asks for it. -/
theorem State.again_eq (s : State) (lockable asked : Bool) : s.again (lockable && asked) = { s with
    bus := if lockable = true ∧ asked = true then { s.bus with lock := .kept } else s.bus
    pfx := {} } := by
  cases lockable <;> cases asked <;> rfl

end

/-- An iteration counted in CX. -/
theorem StringKind.Iterated.counted {k : StringKind} (h : k.Iterated s t w) : t.decCx = { s with
    gpr := { k.gprAfter s w with cx := s.gpr.cx - 1 }
    flags := k.flagsAfter s w
    portLog := t.portLog
    portFeed := t.portFeed
    mem := t.mem
    freeCtr := t.freeCtr } := by
  have hcx : (k.gprAfter s w).cx = s.gpr.cx := by cases k <;> rfl
  rw [State.decCx, h.rest, ← hcx]

/-- Whether an iteration is the last, by the registers and flags before it. -/
theorem StringKind.Iterated.last_iff {k : StringKind} (h : k.Iterated s t w) (rep : RepKind) :
    (t.decCx.gpr.cx = 0 ∨ (k.compares = true ∧ (t.decCx.flags.zf = true ↔ rep = .repne))) ↔
      s.gpr.cx = 1 ∨ (k.compares = true ∧ ((k.flagsAfter s w).zf = true ↔ rep = .repne)) := by
  rw [h.counted]
  dsimp only
  rw [show s.gpr.cx - 1 = 0 ↔ s.gpr.cx = 1 by bv_omega]

end

/-- Settles O30: one iteration (`StringKind.iteration_of_ok`), and IP past the instruction. -/
theorem stringOnce : Obligations.StringOnce := by
  unfold Obligations.StringOnce
  intro k w s hl hm hr hok
  obtain ⟨t, ht, heffect, hrest⟩ := k.iteration_of_ok hm hok (k.lockable && s.pfx.lock)
  refine ⟨t.retire, ?_, heffect.congr rfl rfl rfl rfl, ?_⟩
  · rw [k.exec_instr]
    exact runString_of_ok hl (stringOp_of_single hr ht)
  · rw [hrest]
    rfl

/-- Settles O31: nothing with CX = 0 (`stringOp_of_exhausted`); else one iteration counted in CX, and either the next instruction or
the first prefix again, with the bus locked where the iteration was. -/
theorem stringRepeat : Obligations.StringRepeat := by
  unfold Obligations.StringRepeat
  intro k w rep s hl hr
  rw [k.exec_instr]
  refine ⟨fun hc => runString_of_ok hl (stringOp_of_exhausted hr hc), fun hc hm hok => ?_⟩
  obtain ⟨t, ht, hit⟩ := k.iteration_of_ok hm hok (k.lockable && s.pfx.lock)
  have hnext := runString_of_ok (compares := k.compares) hl (stringOp_of_repeated hr hc ht)
  have hlast := hit.last_iff rep
  by_cases hd : s.gpr.cx = 1 ∨ (k.compares = true ∧ ((k.flagsAfter s w).zf = true ↔ rep = .repne))
  · rw [State.endIteration_done (hlast.2 hd), hit.counted] at hnext
    exact ⟨_, _, Iff.rfl, hnext, hit.effect.congr rfl rfl rfl rfl, fun _ => ⟨rfl, rfl⟩, fun h => absurd hd h, rfl⟩
  · rw [State.endIteration_goes_on (mt hlast.1 hd), State.again_eq, hit.counted] at hnext
    exact ⟨_, _, Iff.rfl, hnext, hit.effect.congr rfl rfl rfl rfl, fun h => absurd h hd, fun _ => ⟨rfl, rfl⟩, rfl⟩

end Sys2Proof.Machine
end

section
/-! PROOF of O32, O33 and O34: the near transfers.  Each ends in the check of its target (`nearTo`), which either sets IP
(`nearTo_of_ok`) or raises #GP(0) (`nearTo_fault`). -/

namespace Sys2Proof.Machine

section
variable {s : State} {t : Word}

/-! ### The check of the target (R451) -/

/-- In Protected Mode a target above the CS limit raises #GP(0); Real Address Mode has no such target. -/
theorem nearTo_fault (h : ¬ NearOk s t) : nearTo s t = .error trapGp0 := by
  unfold NearOk at h
  push Not at h
  obtain ⟨hp, hlim⟩ := h
  rw [nearTo, hp, decide_eq_true hlim]
  rfl

theorem runJump_near (hl : LockAllowed s) (h : NearOk s t) : runJump s (nearTo s t) = .next (arrived s t) :=
  runJump_of_ok hl (nearTo_of_ok h)

theorem runJump_outside (hl : LockAllowed s) (h : ¬ NearOk s t) :
    runJump s (nearTo s t) = .next (raiseAt s { vector := 13, code := 0 }) := runJump_of_error hl (nearTo_fault h)

/-! ### JMP -/

/-- JMP through an operand reads it before its target is checked. -/
theorem exec_jmpEw {e : Rm16} (he : Rm16Ok s e .read) :
    exec (.jmpEw e) s = runJump s (afterReads s (nearTo s (rm16Value s e))) := by
  show runJump s (loadRm16 s e .read >>= _) = _
  rw [loadRm16_of_ok he]
  rfl

theorem jmpEw_near (hl : LockAllowed s) {e : Rm16} (he : Rm16Ok s e .read) (h : NearOk s (rm16Value s e)) :
    exec (.jmpEw e) s = .next (arrived s (rm16Value s e)) := by
  rw [exec_jmpEw he, nearTo_of_ok h]
  exact runJump_of_ok hl rfl

/-- A target found outside the segment: the read of the operand, in a register or plain memory, has left no trace. -/
theorem jmpEw_outside (hl : LockAllowed s) {e : Rm16} (he : Rm16Ok s e .read) (h : ¬ NearOk s (rm16Value s e)) :
    exec (.jmpEw e) s = .next (raiseAt s { vector := 13, code := 0 }) := by
  rw [exec_jmpEw he, nearTo_fault h, ← raiseAt_seen]
  exact runJump_of_error hl rfl

/-! ### Conditional jumps -/

theorem jumpIf_taken (hl : LockAllowed s) {disp : Byte} (h : NearOk s (s.nextIp + disp.signExtend 16)) :
    jumpIf true disp s = .next (arrived s (s.nextIp + disp.signExtend 16)) := runJump_near hl h

theorem jumpIf_outside (hl : LockAllowed s) {disp : Byte} (h : ¬ NearOk s (s.nextIp + disp.signExtend 16)) :
    jumpIf true disp s = .next (raiseAt s { vector := 13, code := 0 }) := runJump_outside hl h

theorem jumpIf_not_taken (hl : LockAllowed s) (disp : Byte) : jumpIf false disp s = .next (past s) := runInstr_of_ok hl rfl

/-- Each conditional jump is `jumpIf` of a test of the flags, or of CX, that its condition names. -/
theorem JumpCond.exec_instr (c : JumpCond) (disp : Byte) (s : State) :
    ∃ b, exec (c.instr disp) s = jumpIf b disp s ∧ (b = true ↔ c.Holds s) := by
  cases c with
  | o | b | e | s | p => exact ⟨_, rfl, Iff.rfl⟩
  | no | ae | ne | ns | np => exact ⟨_, rfl, (Bool.not_eq_true' _).to_iff⟩
  | be => exact ⟨_, rfl, Bool.or_eq_true_iff⟩
  | a => exact ⟨_, rfl, by simp [Flags.condBe, JumpCond.Holds]⟩
  | l => exact ⟨_, rfl, bne_iff_ne⟩
  | ge => exact ⟨_, rfl, by simp [Flags.condL, JumpCond.Holds]⟩
  | le => exact ⟨_, rfl, by simp [Flags.condLe, Flags.condL, JumpCond.Holds]⟩
  | g => exact ⟨_, rfl, by simp [Flags.condLe, Flags.condL, JumpCond.Holds]⟩
  | cxz => exact ⟨_, rfl, decide_eq_true_iff⟩

/-! ### LOOP (R483 to R485) -/

theorem loop_goes_on {c : Bool} (h : s.gpr.cx ≠ 1 ∧ c = true) : (decide (s.gpr.cx - 1 ≠ 0) && c) = true := by
  rw [h.2, Bool.and_true, decide_eq_true_eq]
  have := h.1
  bv_omega

theorem loop_ends {c : Bool} (h : ¬ (s.gpr.cx ≠ 1 ∧ c = true)) : (decide (s.gpr.cx - 1 ≠ 0) && c) = false := by
  refine Bool.eq_false_iff.2 fun e => h ?_
  obtain ⟨hcx, hc⟩ := Bool.and_eq_true_iff.1 e
  refine ⟨fun h1 => of_decide_eq_true hcx ?_, hc⟩
  rw [h1]
  rfl

theorem loopIf_taken (hl : LockAllowed s) {c : Bool} (hc : s.gpr.cx ≠ 1 ∧ c = true) {disp : Byte}
    (h : NearOk s (s.nextIp + disp.signExtend 16)) : loopIf c disp s =
      .next (arrived { s with gpr := { s.gpr with cx := s.gpr.cx - 1 } } (s.nextIp + disp.signExtend 16)) := by
  rw [loopIf, if_pos (loop_goes_on hc)]
  show runJump s (nearTo s (s.nextIp + disp.signExtend 16) >>= _) = _
  rw [nearTo_of_ok h]
  exact runJump_of_ok hl rfl

/-- CX is left as it was (D30). -/
theorem loopIf_outside (hl : LockAllowed s) {c : Bool} (hc : s.gpr.cx ≠ 1 ∧ c = true) {disp : Byte}
    (h : ¬ NearOk s (s.nextIp + disp.signExtend 16)) :
    loopIf c disp s = .next (raiseAt s { vector := 13, code := 0 }) := by
  rw [loopIf, if_pos (loop_goes_on hc)]
  exact runJump_of_error hl (bind_error (nearTo_fault h) _)

theorem loopIf_ends (hl : LockAllowed s) {c : Bool} (hc : ¬ (s.gpr.cx ≠ 1 ∧ c = true)) (disp : Byte) :
    loopIf c disp s = .next (past { s with gpr := { s.gpr with cx := s.gpr.cx - 1 } }) := by
  rw [loopIf, loop_ends hc]
  exact runInstr_of_ok hl rfl

/-! ### CALL and RET -/

/-- The target is set before the return link is pushed, which does not depend on it. -/
theorem nearCall_of_room (hm : s.mem.wf = true) (hr : StackRoom s 1) (h : NearOk s t) :
    ∃ u, nearCall s t = .ok u ∧ HasPushed { s with ip := t } u [s.nextIp] := by
  obtain ⟨u, hu, hp⟩ := push16_of_room (s := { s with ip := t }) hm hr s.nextIp
  refine ⟨u, ?_, hp⟩
  rw [nearCall, hr.canPush, nearTo_of_ok h]
  exact hu

theorem nearCallRm_of_ok {e : Rm16} (he : Rm16Ok s e .read) (hr : StackRoom s 1) {u : State}
    (hu : nearCall s (rm16Value s e) = .ok u) : nearCallRm s e = .ok u := by
  rw [nearCallRm, checkRm16_of_ok he, hr.canPush, State.getRm16_of_ok he]
  show afterReads s (nearCall s (rm16Value s e)) = _
  rw [hu]
  rfl

/-- What a near CALL has pushed when it ends at its target. -/
theorem HasPushed.retireNear {u : State} {ws : List Word} (h : HasPushed { s with ip := t } u ws) : u.retireNear = arrived { s with
    mem := u.mem, gpr := { s.gpr with sp := s.gpr.sp - BitVec.ofNat 16 (2 * ws.length) } } t := congrArg State.retireNear h.rest

theorem nearRet_of_ok (hs : StackHolds s 1) (h : NearOk s (s.segWord .ss s.gpr.sp)) (release : Word) :
    nearRet s release = .ok { s with
      gpr := { s.gpr with sp := s.gpr.sp + 2 + release }, ip := s.segWord .ss s.gpr.sp } := by
  rw [nearRet, pop16_of_ok hs.top]
  show (afterReads _ (nearTo (s.setSp (s.gpr.sp + 2)) _) >>= _) = _
  rw [nearTo_of_ok (s := s.setSp (s.gpr.sp + 2)) h]
  rfl

end

/-- Settles O32: each jump is `nearTo` of its target (`runJump_near`, `runJump_outside`), a conditional one where its condition holds
(`JumpCond.exec_instr`). -/
theorem nearJumps : Obligations.NearJumps := by
  unfold Obligations.NearJumps
  constructor
  · rintro i s t hl (⟨d, rfl, rfl⟩ | ⟨d, rfl, rfl⟩ | ⟨e, rfl, he, rfl⟩)
    · exact ⟨runJump_near hl, runJump_outside hl⟩
    · exact ⟨runJump_near hl, runJump_outside hl⟩
    · exact ⟨jmpEw_near hl he, jmpEw_outside hl he⟩
  · intro c disp s hl
    obtain ⟨b, hexec, hb⟩ := c.exec_instr disp s
    rw [hexec, ← hb]
    cases b with
    | true => exact ⟨fun _ => jumpIf_taken hl, fun _ => jumpIf_outside hl, fun h => absurd rfl h⟩
    | false => exact ⟨fun h => (nomatch h), fun h => (nomatch h), fun _ => jumpIf_not_taken hl disp⟩

/-- Settles O33: each of the three is `loopIf` of its test of ZF. -/
theorem loops : Obligations.Loops := by
  unfold Obligations.Loops
  intro i disp s go hl hi
  have hloop : ∃ c, exec i s = loopIf c disp s ∧ (go ↔ s.gpr.cx ≠ 1 ∧ c = true) := by
    rcases hi with ⟨rfl, hgo⟩ | ⟨rfl, hgo⟩ | ⟨rfl, hgo⟩
    · exact ⟨true, rfl, by simpa using hgo⟩
    · exact ⟨s.flags.zf, rfl, hgo⟩
    · exact ⟨!s.flags.zf, rfl, by simpa using hgo⟩
  obtain ⟨c, hexec, hgo⟩ := hloop
  rw [hexec, hgo]
  exact ⟨fun hc => loopIf_taken hl hc, fun hc => loopIf_outside hl hc, fun hc => loopIf_ends hl hc disp⟩

/-- Settles O34: CALL pushes one word of `HasPushed`, RET pops the word at the top. -/
theorem nearCallRet : Obligations.NearCallRet := by
  unfold Obligations.NearCallRet
  constructor
  · intro i s target hl hm hr hok hi
    obtain ⟨u, hu, hp⟩ := nearCall_of_room hm hr hok
    refine ⟨u.retireNear, ?_, hp.pushed, hp.retireNear⟩
    rcases hi with ⟨d, rfl, rfl⟩ | ⟨e, rfl, he, rfl⟩
    · exact runJump_of_ok hl hu
    · exact runJump_of_ok hl (nearCallRm_of_ok he hr hu)
  · rintro i s release hl hs hok (⟨rfl, rfl⟩ | rfl)
    · exact runJump_of_ok hl (nearRet_of_ok hs hok 0)
    · exact runJump_of_ok hl (nearRet_of_ok hs hok release)

end Sys2Proof.Machine
end

section
/-! PROOF of O35 and O37: far transfers in Real Address Mode, where CS is loaded from a selector alone (`realCache_eq`), and software
interrupts, which are deliveries of their vector. -/

namespace Sys2Proof.Machine

section
variable {s : State} {i : Instr} {sel off : Word}

/-! ### JMP -/

theorem farJump_real (hp : s.msw.pe = false) (sel off : Word) : farJump s sel off = .ok { s with cs := realModeSeg sel, ip := off } := by
  rw [farJump, hp, realCache_eq]
  rfl

/-- A far JMP through a pointer in plain memory is that to the selector and offset it holds, in either mode. -/
theorem FarJump.exec_of_ok (h : FarJump i s sel off) : exec i s = runFar s (farJump s sel off) := by
  rcases h with rfl | ⟨m, rfl, hm, rfl, rfl⟩
  · rfl
  · show runFar s (failIn s (loadPointer s m) >>= _) = _
    rw [loadPointer_of_ok hm]
    rfl

/-! ### CALL -/

/-- In Real Address Mode the room for the return link is checked before the pointer is read; the CALL is then that of what it holds. -/
theorem farCallIndirect_real {m : MemOp} (hr : StackRoom s 2) (hm : PointerOk s m) : farCallIndirect s m =
    farCall s (s.segWord (s.memSeg m) (s.effOffset m + 2)) (s.segWord (s.memSeg m) (s.effOffset m)) := by
  have hg : s.getPointer m = { off := s.segWord (s.memSeg m) (s.effOffset m)
                               sel := s.segWord (s.memSeg m) (s.effOffset m + 2), st := s } := by
    have h := loadPointer_of_ok hm
    rw [loadPointer, (checkPointer_iff s m).2 ⟨hm.1.1, hm.2.1⟩] at h
    exact Except.ok.inj h
  rw [farCallIndirect, (checkPointer_iff s m).2 ⟨hm.1.1, hm.2.1⟩, hr.canPush, Bool.or_true]
  show farCall (s.getPointer m).st (s.getPointer m).sel (s.getPointer m).off = _
  rw [hg]

theorem FarCall.exec_of_room (hr : StackRoom s 2) (h : FarCall i s sel off) : exec i s = runFar s (farCall s sel off) := by
  rcases h with rfl | ⟨m, rfl, hm, rfl, rfl⟩
  · rfl
  · exact congrArg (runFar s) (farCallIndirect_real hr hm)

theorem pushReturn_of_room (hm : s.mem.wf = true) (hr : StackRoom s 2) :
    ∃ t, pushReturn s = .ok t ∧ HasPushed s t [s.cs.sel, s.nextIp] := by
  obtain ⟨t, ht, hp⟩ := pushAll_of_room (ws := [s.cs.sel, s.nextIp]) hm hr (by simp)
  refine ⟨t, ?_, hp⟩
  rw [pushReturn, hr.canPush]
  exact ht

theorem farCall_real (hp : s.msw.pe = false) {t : State} (ht : pushReturn s = .ok t) (sel off : Word) :
    farCall s sel off = .ok { t with cs := realModeSeg sel, ip := off } := by
  rw [farCall, hp, ht, realCache_eq]
  rfl

/-! ### RET -/

theorem StackHolds.canPop {n : Nat} (h : StackHolds s n) : canPop s n = true := (canPop_iff s n).2 fun i hi => (h i hi).1

theorem farReturn_real (hp : s.msw.pe = false) (hs : StackHolds s 2) (release : Word) : farReturn s release = .ok { s with
    gpr := { s.gpr with sp := s.gpr.sp + 4 + release }
    cs := realModeSeg (s.segWord .ss (s.gpr.sp + 2))
    ip := s.segWord .ss s.gpr.sp } := by
  have h2 : s.stackGet 2 = _ := hs.stackGet (i := 1) (by decide)
  rw [farReturn, hp]
  show failIn s (farReturnReal s release) = _
  simp only [farReturnReal, hs.canPop, State.stackGet_top hs.top, h2, realCache_eq]
  rfl

/-! ### INT -/

/-- With the LOCK prefix allowed, a software interrupt is the delivery of its vector from the next instruction's offset. -/
theorem runInt_eq (hl : LockAllowed s) (v : Byte) : runInt v s = .next (deliver s v s.nextIp .software 0) := by
  rw [runInt, lockGuard_of_allowed hl]
  rfl

theorem execInto_overflow (h : s.flags.ov = true) : exec .into s = runInt 4 s := if_pos h

theorem execInto_none (h : s.flags.ov = false) : exec .into s = runInstr s (.ok s) := if_neg (Bool.eq_false_iff.1 h)

end

/-- Settles O35: JMP and CALL load CS:IP from what the pointer holds, RET from the two words at the top of the stack. -/
theorem farTransferReal : Obligations.FarTransferReal := by
  unfold Obligations.FarTransferReal
  refine ⟨?jmp, ?call, ?ret⟩
  case jmp =>
    intro i s sel off hl hp h
    rw [h.exec_of_ok]
    exact runFar_of_ok hl (farJump_real hp sel off)
  case call =>
    intro i s sel off hl hp hm hr h
    obtain ⟨t, ht, hpush⟩ := pushReturn_of_room hm hr
    refine ⟨_, (h.exec_of_room hr).trans (runFar_of_ok hl (farCall_real hp ht sel off)), hpush.pushed, ?_⟩
    exact congrArg (fun u : State => State.retireFar { u with cs := realModeSeg sel, ip := off }) hpush.rest
  case ret =>
    rintro i s release hl hp hs (⟨rfl, rfl⟩ | rfl)
    · exact runFar_of_ok hl (farReturn_real hp hs 0)
    · exact runFar_of_ok hl (farReturn_real hp hs release)

/-- Settles O37: each is the delivery of its vector (`runInt_eq`), and what that delivers enters the handler (`deliver_realEntry`). -/
theorem softwareInterrupts : Obligations.SoftwareInterrupts := by
  unfold Obligations.SoftwareInterrupts
  constructor
  · intro i v s hl hi
    have he : exec i s = .next (deliver s v s.nextIp .software 0) := by
      rcases hi with rfl | ⟨rfl, rfl⟩ | ⟨rfl, hov, rfl⟩
      · exact runInt_eq hl v
      · exact runInt_eq hl 3
      · exact (execInto_overflow hov).trans (runInt_eq hl 4)
    exact ⟨he, fun hm hok => ⟨_, he, deliver_realEntry hm hok s.nextIp .software 0⟩⟩
  · intro s hl hov
    rw [execInto_none hov]
    exact runInstr_of_ok hl rfl

end Sys2Proof.Machine
end

section
/-! PROOF of O38: IRET.  Every read of a return is made before anything is written, so its descriptors and stack words are those of the
state it finds; what it then writes is the Accessed bit of one descriptor or of two (`accessedMem`), and registers. -/

namespace Sys2Proof.Machine

section
variable {s t u : State} {sel off nss : Word} {c d k : Desc}

/-! ### The Accessed bit as a change of memory (R123) -/

/-- Memory once the Accessed bit of a descriptor is set: `s` says what answers there, and only RAM takes the write (R754). -/
def accessedMem (s : State) (m : Memory) (d : Desc) : Memory :=
  if s.kindAt d.accessByte = .ram then m.write d.accessByte (m.read d.accessByte ||| 1) else m

/-- Unlike `State.setAccessed_memory` this asks nothing of the descriptor's other bytes, which an earlier write may have changed. -/
theorem State.setAccessed_eq (h : d.InMemory s) : s.setAccessed d = { s with mem := accessedMem s s.mem d } := by
  obtain ⟨ha, hdev⟩ := h
  unfold State.setAccessed
  rw [State.others_alone ha, accessedMem]
  show s.store d.accessByte (s.look d.accessByte ||| 1) = _
  cases hk : s.kindAt d.accessByte with
  | ram => rw [State.store_ram (State.dead_unreset ha.2) hk, State.look_memory (.inl hk), if_pos rfl]
  | rom => rw [State.store_dropped (.inl hk), if_neg nofun]
  | absent => rw [State.store_dropped (.inr hk), if_neg nofun]
  | device => exact absurd hk hdev

theorem accessedMem_wf {m : Memory} (h : m.wf = true) (s : State) (d : Desc) : (accessedMem s m d).wf = true := by
  unfold accessedMem
  split
  · exact Memory.wf_write h (physAdd_lt d.addr 5) _
  · exact h

theorem accessedMem_read_same {m : Memory} (h : m.wf = true) (hk : s.kindAt d.accessByte = .ram) :
    (accessedMem s m d).read d.accessByte = m.read d.accessByte ||| 1 := by
  rw [accessedMem, if_pos hk]
  exact Memory.read_write_same h _ _

theorem accessedMem_read_other (m : Memory) {a : Nat} (h : a ∉ d.marked s) : (accessedMem s m d).read a = m.read a := by
  unfold accessedMem
  split
  · next hk =>
    rw [Desc.marked, if_pos hk, List.mem_singleton] at h
    exact Memory.read_write_other m _ h
  · rfl

theorem not_mem_marked {a : Nat} (h : a ≠ d.accessByte) (s : State) : a ∉ d.marked s := by
  unfold Desc.marked
  split
  · rwa [List.mem_singleton]
  · exact List.not_mem_nil

/-- In RAM the access byte of a descriptor that is found is the byte that stands there. -/
theorem fetchDesc_ar_ram (h : s.fetchDesc sel = some d) (hk : s.kindAt d.accessByte = .ram) : s.mem.read d.accessByte = d.ar := by
  rw [fetchDesc_ar h, State.look_memory (.inl hk)]

/-- The Accessed bits of two descriptors that do not stand in one place are set one after the other. -/
theorem accessedMem_two (hw : s.mem.wf = true) (hc : s.fetchDesc sel = some c) (hk : s.fetchDesc nss = some k)
    (hne : c.accessByte ≠ k.accessByte) (ht : t.mem = accessedMem s (accessedMem s s.mem c) k) :
    Marked s t c (c.ar ||| 1) ∧ Marked s t k (k.ar ||| 1) ∧ MemSameBut s t (c.marked s ++ k.marked s) := by
  unfold Marked MemSameBut
  rw [ht]
  refine ⟨fun hr => ?_, fun hr => ?_, fun a ha => ?_⟩
  · rw [accessedMem_read_other _ (not_mem_marked hne s), accessedMem_read_same hw hr, fetchDesc_ar_ram hc hr]
  · rw [accessedMem_read_same (accessedMem_wf hw s c) hr, accessedMem_read_other _ (not_mem_marked hne.symm s), fetchDesc_ar_ram hk hr]
  · rw [List.mem_append, not_or] at ha
    rw [accessedMem_read_other _ ha.2, accessedMem_read_other _ ha.1]

/-- A code segment and a stack segment have different access bytes, so these stand in different places. -/
theorem accessByte_ne (hc : s.fetchDesc sel = some c) (hk : s.fetchDesc nss = some k) (hcode : isCode c.ar = true)
    (hdata : writable k.ar = true) : c.accessByte ≠ k.accessByte := by
  intro e
  have har : c.ar = k.ar := by rw [fetchDesc_ar hc, fetchDesc_ar hk, e]
  rw [har] at hcode
  simp only [writable, isData, isCode, Bool.and_eq_true, Bool.not_eq_true'] at hcode hdata
  exact Bool.false_ne_true (hdata.1.2.symm.trans hcode.2)

/-! ### Committing CS and SS -/

theorem commitCs_eq (h : d.InMemory s) (sel off : Word) (l : BitVec 2) : commitCs s sel d off l =
    { s with mem := accessedMem s s.mem d, cs := descriptorSeg (withRpl sel l) d, ip := off } := by
  rw [commitCs, State.setAccessed_eq h, Desc.cache_eq]

theorem commitSs_eq (h : d.InMemory s) (sel sp : Word) : commitSs s sel d sp =
    { s with mem := accessedMem s s.mem d, ss := descriptorSeg sel d, gpr := { s.gpr with sp := sp } } := by
  rw [commitSs, State.setAccessed_eq h, Desc.cache_eq]
  rfl

/-- A return outward writes CS's descriptor first, then that of SS. -/
theorem commitSs_commitCs (hm : d.InMemory s) (hk : k.InMemory s) (sel off nss sp : Word) (l : BitVec 2) (f : Flags) :
    commitSs { commitCs s sel d off l with flags := f } nss k sp = { s with
      mem := accessedMem s (accessedMem s s.mem d) k
      gpr := { s.gpr with sp := sp }
      cs := descriptorSeg (withRpl sel l) d
      ss := descriptorSeg nss k
      flags := f
      ip := off } := by
  rw [commitCs_eq hm, commitSs_eq]
  · rfl
  · exact hk

theorem State.cpl_protected (hp : s.msw.pe = true) : s.cpl = rpl s.cs.sel := if_pos hp

/-- A return leaves the selector's own RPL in CS. -/
theorem withRpl_self (sel : Word) : withRpl sel (rpl sel) = sel := by
  have hmask : ∀ i, i < 16 → (0xFFFC : Word).getLsbD i = decide (2 ≤ i) := by decide
  apply BitVec.eq_of_getLsbD_eq
  intro i hi
  rw [withRpl, rpl, BitVec.getLsbD_or, BitVec.getLsbD_and, hmask i hi]
  by_cases h : 2 ≤ i
  · simp [h]
  · simp [h, hi, Nat.lt_of_not_le h]

/-! ### DS and ES after a return outward (R577) -/

theorem not_conforming_of_data {ar : Byte} (h : isData ar = true) : conforming ar = false := by
  simp only [isData, Bool.and_eq_true, Bool.not_eq_true'] at h
  rw [conforming, isCode, h.2, Bool.and_false, Bool.false_and]

theorem State.setSeg_seg (s : State) (r : SegReg) : s.setSeg r (s.seg r) = s := by cases r <;> rfl

theorem nullIfInaccessible_eq (s : State) (r : SegReg) : nullIfInaccessible s r = s.setSeg r (outward s.cpl (s.seg r)) := by
  have htest : ((isData (s.seg r).ar || !conforming (s.seg r).ar) &&
      (decide (dpl (s.seg r).ar < s.cpl) || decide (dpl (s.seg r).ar < rpl (s.seg r).sel))) = true ↔
      conforming (s.seg r).ar = false ∧ (dpl (s.seg r).ar < s.cpl ∨ dpl (s.seg r).ar < rpl (s.seg r).sel) := by
    simp only [Bool.and_eq_true, Bool.or_eq_true, Bool.not_eq_true', decide_eq_true_eq]
    exact and_congr_left fun _ => or_iff_right_of_imp not_conforming_of_data
  by_cases h0 : (s.seg r).ar = 0
  · have hout : outward s.cpl (s.seg r) = s.seg r := if_neg fun h => h.1 h0
    rw [hout, State.setSeg_seg]
    exact if_pos h0
  · by_cases h : conforming (s.seg r).ar = false ∧ (dpl (s.seg r).ar < s.cpl ∨ dpl (s.seg r).ar < rpl (s.seg r).sel)
    · have hout : outward s.cpl (s.seg r) = { s.seg r with sel := 0, ar := 0 } := if_pos ⟨h0, h⟩
      rw [hout]
      exact (if_neg h0).trans (if_pos (htest.2 h))
    · have hout : outward s.cpl (s.seg r) = s.seg r := if_neg fun e => h e.2
      rw [hout, State.setSeg_seg]
      exact (if_neg h0).trans (if_neg (mt htest.1 h))

theorem nullIfInaccessible_both (s : State) : nullIfInaccessible (nullIfInaccessible s .es) .ds =
    { s with es := outward s.cpl s.es, ds := outward s.cpl s.ds } := by
  rw [nullIfInaccessible_eq, nullIfInaccessible_eq]
  rfl

/-! ### Real Address Mode (R489) -/

theorem iretReal_of_ok (hp : s.msw.pe = false) (hs : StackHolds s 3) : iretReal s = .ok { s with
    gpr := { s.gpr with sp := s.gpr.sp + 6 }
    cs := realModeSeg (s.segWord .ss (s.gpr.sp + 2))
    flags := loadedFlags s (s.segWord .ss (s.gpr.sp + 4))
    ip := s.segWord .ss s.gpr.sp } := by
  have h2 : s.stackGet 2 = _ := hs.stackGet (i := 1) (by decide)
  have h4 : s.stackGet 4 = _ := hs.stackGet (i := 2) (by decide)
  have hf : ∀ w, s.flags.restoreReal w = loadedFlags s w := fun w => by rw [← restored_eq_loadedFlags, hp]; rfl
  simp only [iretReal, hs.canPop, State.stackGet_top hs.top, h2, h4, realCache_eq, hf]
  rfl

theorem interruptReturn_real (hp : s.msw.pe = false) (h : iretReal s = .ok t) :
    interruptReturn s = .ok { t with nmiMasked := false } := by
  rw [interruptReturn, hp, h]
  rfl

/-! ### Protected Mode through the stack (R580) -/

theorem interruptReturn_stack (hp : s.msw.pe = true) (hn : s.flags.nt = false) (h : iretStack s = .ok t) :
    interruptReturn s = .ok { t with nmiMasked := false } := by
  rw [interruptReturn, hp, hn, h]
  rfl

theorem restore_eq_loadedFlags (hp : s.msw.pe = true) (w : Word) : s.flags.restore w s.cpl = loadedFlags s w := by
  rw [← restored_eq_loadedFlags, hp]
  rfl

theorem iretSame_of_ok (hp : s.msw.pe = true) (hs : StackHolds s 3) (hr : rpl sel = s.cpl) (hc : returnCode s sel = .ok (d, s))
    (hm : d.InMemory s) (hlim : (s.segWord .ss s.gpr.sp).toNat ≤ d.w0.toNat) : iretSame s sel = .ok { s with
      mem := accessedMem s s.mem d
      gpr := { s.gpr with sp := s.gpr.sp + 6 }
      cs := descriptorSeg sel d
      flags := loadedFlags s (s.segWord .ss (s.gpr.sp + 4))
      ip := s.segWord .ss s.gpr.sp } := by
  have h4 : s.stackGet 4 = _ := hs.stackGet (i := 2) (by decide)
  have hcs : withRpl sel s.cpl = sel := hr ▸ withRpl_self sel
  simp only [iretSame, hs.canPop, hc, State.stackGet_top hs.top, h4, Desc.limit, decide_eq_true hlim, require_true, commitCs_eq hm, hcs,
    restore_eq_loadedFlags hp, bind, Except.bind]
  rfl

theorem returnStack_of_stackAt (ha : Alone s) {l : BitVec 2} (h : StackAt s nss k l) : returnStack s nss l = .ok (k, s) := by
  obtain ⟨hn, hk, hw, hr, hd, hpr⟩ := h
  simp only [returnStack, nullSel_eq_false hn, fetchOr_alone ha hk, hw, hpr, decide_eq_true hr, decide_eq_true hd, Bool.not_false,
    require_true, bind, Except.bind]
  rfl

/-- DS and ES are looked at last, when CS already has the outer level. -/
theorem iretOuter_of_ok (hp : s.msw.pe = true) (hs : StackHolds s 5) (hc : returnCode s sel = .ok (d, s)) (hm : d.InMemory s)
    (hk : StackAt s (s.segWord .ss (s.gpr.sp + 8)) k (rpl sel)) (hkm : k.InMemory s)
    (hlim : (s.segWord .ss s.gpr.sp).toNat ≤ d.w0.toNat) : iretOuter s sel = .ok { s with
      mem := accessedMem s (accessedMem s s.mem d) k
      gpr := { s.gpr with sp := s.segWord .ss (s.gpr.sp + 6) }
      cs := descriptorSeg sel d
      ss := descriptorSeg (s.segWord .ss (s.gpr.sp + 8)) k
      ds := outward (rpl sel) s.ds
      es := outward (rpl sel) s.es
      flags := loadedFlags s (s.segWord .ss (s.gpr.sp + 4))
      ip := s.segWord .ss s.gpr.sp } := by
  have h4 : s.stackGet 4 = _ := hs.stackGet (i := 2) (by decide)
  have h6 : s.stackGet 6 = _ := hs.stackGet (i := 3) (by decide)
  have h8 : s.stackGet 8 = (s.segWord .ss (s.gpr.sp + 8), s) := hs.stackGet (i := 4) (by decide)
  have hcpl : ∀ u : State, u.msw = s.msw → u.cs = descriptorSeg sel d → u.cpl = rpl sel := fun u hu hcs => by
    rw [State.cpl_protected (hu ▸ hp), hcs]
    rfl
  simp only [iretOuter, hs.canPop, hc, State.stackGet_top hs.top, h4, h6, h8, returnStack_of_stackAt hm.1 hk, Desc.limit,
    decide_eq_true hlim, require_true, commitSs_commitCs hm hkm, withRpl_self, restore_eq_loadedFlags hp,
    nullIfInaccessible_both, hcpl, bind, Except.bind]
  rfl

theorem iretStack_same (hs : StackHolds s 3) (hsel : sel = s.segWord .ss (s.gpr.sp + 2))
    (hr : rpl sel = s.cpl) (h : iretSame s sel = .ok t) : iretStack s = .ok t := by
  rw [iretStack_of_selector (hs 1 (by decide)) hsel (BitVec.le_of_eq hr.symm), if_pos hr, h]
  rfl

theorem iretStack_outer (hs : StackHolds s 3) (hsel : sel = s.segWord .ss (s.gpr.sp + 2))
    (hr : s.cpl < rpl sel) (h : iretOuter s sel = .ok t) : iretStack s = .ok t := by
  rw [iretStack_of_selector (hs 1 (by decide)) hsel (BitVec.le_of_lt hr), if_neg (BitVec.ne_of_lt hr).symm, h]
  rfl

/-! ### Back to the task of the back link (R580) -/

theorem checkNewIp_of_ok (h : s.ip.toNat ≤ s.cs.limit.toNat) (ext : Bool) : checkNewIp s ext = .ok s := by
  rw [checkNewIp, decide_eq_true h]
  rfl

theorem interruptReturn_task (hp : s.msw.pe = true) (hn : s.flags.nt = true) (h : iretTask s = .ok t) :
    interruptReturn s = .ok { t with nmiMasked := false } := by
  rw [interruptReturn, hp, hn, h]
  rfl

/-- The back link is a word of the current TSS, looked at; the switch is checked for the busy TSS it names. -/
theorem iretTask_of_ok (ha : Alone s) (hv : s.tr.valid = true) (hlim : 1 ≤ s.tr.limit.toNat) (hsel : sel = s.peek16 s.tr.base 0)
    (hti : sel.getLsbD 2 = false) (hn : 4 ≤ sel.toNat) (hd : s.fetchDesc sel = some d) (hb : isSys d.ar 3 = true)
    (hpr : present d.ar = true) (hu : switchTasks s sel d .iret s.nextIp false = .ok u) (hip : u.ip.toNat ≤ u.cs.limit.toNat) :
    iretTask s = .ok u := by
  have hhas : s.tssHas 0 = true := by
    rw [State.tssHas, hv, Bool.true_and]
    exact decide_eq_true hlim
  have hword : s.tssWord 0 = (sel, s) := hsel ▸ State.fetch16_alone ha s.tr.base 0
  have hgdt : selTi sel = false := hti
  simp only [iretTask, hhas, hword, hgdt, nullSel_eq_false hn, fetchOr_alone ha hd, hb, hpr, hu, checkNewIp_of_ok hip,
    Bool.not_false, require_true, failIn, bind, Except.bind]

end

/-- Settles O38: the four returns are `iretReal_of_ok`, `iretSame_of_ok`, `iretOuter_of_ok` and `iretTask_of_ok`; each then ends the
NMI mask.  (`interruptReturn` is the model's own operation.) -/
theorem interruptReturns : Obligations.InterruptReturn := by
  unfold Obligations.InterruptReturn
  refine ⟨?real, ?stack, ?task⟩
  case real =>
    intro s hl hp hs
    exact runFar_of_ok hl (interruptReturn_real hp (iretReal_of_ok hp hs))
  case stack =>
    rintro s d _ _ hl hp hnt hm hs rfl rfl hn hd hc hlim hdm
    have hcode := returnCode_of_codeAt hdm.1 hn hd hc
    constructor
    · intro hr
      have ht := iretStack_same hs rfl hr (iretSame_of_ok hp hs hr hcode hdm hlim)
      refine ⟨_, runFar_of_ok hl (interruptReturn_stack hp hnt ht), ?_, rfl⟩
      exact State.setAccessed_accessedSet hd hm hdm (by rw [State.setAccessed_eq hdm]; rfl)
    · rintro _ _ k hr hs5 rfl rfl hk hkm
      have ht := iretStack_outer hs rfl hr (iretOuter_of_ok hp hs5 hcode hdm hk hkm hlim)
      obtain ⟨-, hfetch, hw, -⟩ := hk
      obtain ⟨hmd, hmk, hsame⟩ := accessedMem_two hm hd hfetch (accessByte_ne hd hfetch hc.1 hw)
        (t := { s with mem := accessedMem s (accessedMem s s.mem d) k }) rfl
      exact ⟨_, runFar_of_ok hl (interruptReturn_stack hp hnt ht), hmd, hmk, hsame, rfl⟩
  case task =>
    intro s u sel b hl ha hp hnt hv hlim hsel hti hn hb hbusy hpr hu hip
    exact runFar_of_ok hl (interruptReturn_task hp hnt (iretTask_of_ok ha hv hlim hsel hti hn hb hbusy hpr hu hip))

end Sys2Proof.Machine
end

section
/-! PROOF of O48: where an instruction is not privileged to run, the guard it begins with answers #GP(0). -/

namespace Sys2Proof.Machine

section
variable {s : State}

/-! ### Guards that fail -/

theorem ioplGuard_of_not_allowed (h : ¬ IoAllowed s) : ioplGuard s = .error trapGp0 := by
  rw [← ioplGuard_iff] at h
  unfold ioplGuard require at *
  split
  · next hc => exact absurd (if_pos hc) h
  · rfl

theorem privilegeGuard_of_not_privileged (h : ¬ Privileged s) : privilegeGuard s = .error trapGp0 := by
  rw [privilegeGuard, decide_eq_false (show ¬ s.cpl = 0 from h)]
  rfl

/-! ### Instructions that begin with a guard -/

theorem runInstr_not_privileged (hl : LockAllowed s) (h : ¬ Privileged s) (r : Except Trap State) :
    runInstr s (do privilegeGuard s; r) = .next (raiseAt s trapGp0) :=
  runInstr_fault hl (privilegeGuard_of_not_privileged h) _

theorem runProtected_not_privileged (hl : LockAllowed s) (hp : s.msw.pe = true) (h : ¬ Privileged s) (r : Except Trap State) :
    runProtected s (do privilegeGuard s; r) = .next (raiseAt s trapGp0) :=
  (runProtected_of_pe hp _).trans (runInstr_not_privileged hl h r)

theorem execLmsw_not_privileged (hl : LockAllowed s) (h : ¬ Privileged s) (e : Rm16) :
    execLmsw e s = .next (raiseAt s trapGp0) := by
  rw [execLmsw, lockGuard_of_allowed hl, privilegeGuard_of_not_privileged h]
  rfl

theorem runInstr_not_io (hl : LockAllowed s) (h : ¬ IoAllowed s) (r : Except Trap State) :
    runInstr s (do ioplGuard s; r) = .next (raiseAt s trapGp0) :=
  runInstr_fault hl (ioplGuard_of_not_allowed h) _

/-- INS and OUTS make the check of IOPL in each iteration, before any reference. -/
theorem StringKind.exec_not_io {k : StringKind} (hk : k = .ins ∨ k = .outs) (hl : LockAllowed s) (h : ¬ IoAllowed s)
    (hrep : s.pfx.rep = none ∨ s.gpr.cx ≠ 0) (w : Elem) : exec (k.instr w) s = .next (raiseAt s trapGp0) := by
  have honce : ∀ t : State, ¬ IoAllowed t → k.once w t = .error trapGp0 := fun t ht => by
    rcases hk with rfl | rfl <;> exact bind_error (ioplGuard_of_not_allowed ht) _
  rw [k.exec_instr]
  refine runString_fault hl hrep (fun t ht => ?_) rfl _ _
  rcases ht with rfl | rfl
  · exact honce _ h
  · exact honce (s.withLock .active) h

/-! ### Real Address Mode -/

theorem State.cpl_real (hp : s.msw.pe = false) : s.cpl = 0 := by
  rw [State.cpl, hp]
  rfl

end

/-- Settles O48: each of these instructions begins with the guard of its privilege, or with the check of PE before it. -/
theorem privilegeTraps : Obligations.PrivilegeTraps := by
  unfold Obligations.PrivilegeTraps
  refine ⟨?privileged, ?trusted, fun s hp => ⟨State.cpl_real hp, ?_, ?_⟩⟩
  case privileged =>
    rintro s i hl hp h (rfl | rfl | ⟨m, rfl⟩ | ⟨m, rfl⟩ | ⟨e, rfl⟩ | ⟨e, rfl⟩ | ⟨e, rfl⟩)
    iterate 4 exact runInstr_not_privileged hl h _
    iterate 2 exact runProtected_not_privileged hl hp h _
    · exact execLmsw_not_privileged hl h e
  case trusted =>
    rintro s i hl h (rfl | rfl | ⟨v, rfl⟩ | ⟨v, rfl⟩ | rfl | rfl | ⟨v, rfl⟩ | ⟨v, rfl⟩ | rfl | rfl |
      ⟨hrep, rfl | rfl | rfl | rfl⟩)
    iterate 10 exact runInstr_not_io hl h _
    · exact StringKind.exec_not_io (.inl rfl) hl h hrep .byte
    · exact StringKind.exec_not_io (.inl rfl) hl h hrep .word
    · exact StringKind.exec_not_io (.inr rfl) hl h hrep .byte
    · exact StringKind.exec_not_io (.inr rfl) hl h hrep .word
  · exact fun hpe => absurd (hp.symm.trans hpe) Bool.false_ne_true
  · exact fun _ hpe => absurd (hp.symm.trans hpe) Bool.false_ne_true

end Sys2Proof.Machine
end

section
/-! PROOF of O41: ENTER and LEAVE.  What ENTER pushes is `HasPushed` of its frame's words (`FrameWords`), those of the display read
back from the caller's frame while the pushes go on. -/

namespace Sys2Proof.Machine

section
variable {s t : State} {r : SegReg} {off bp : Word} {ws vs : List Word}

/-! ### Reads between pushes -/

theorem pushedBytes_subset (s : State) {m n : Nat} (h : m ≤ n) : pushedBytes s m ⊆ pushedBytes s n := by
  induction h with
  | refl => exact List.Subset.refl _
  | step _ ih => exact fun a ha => List.mem_append_left _ (ih ha)

theorem HasPushed.word {i : Nat} {w : Word} (h : HasPushed s t ws) (hi : ws[i]? = some w) : pushedWord s t i = w := by
  obtain ⟨hlt, hw⟩ := List.getElem?_eq_some_iff.1 hi
  exact (h.pushed.1 i hlt).trans hw

/-- A byte of plain memory apart from what has been pushed is read as it was before. -/
theorem HasPushed.segByte (h : HasPushed s t ws) (hw : WordOk s r off .read) {j : Nat} (hj : j < 2)
    (hapart : (s.segAddr r off j).toNat ∉ pushedBytes s ws.length) : t.segByte r off j = s.segByte r off j := by
  have hk := hw.2.kind_read hj
  have hkt : t.kindAt (s.segAddr r off j).toNat = s.kindAt (s.segAddr r off j).toNat := by
    rw [h.rest]
    rfl
  rw [State.segByte, State.segByte, h.segAddr, State.look_memory hk, State.look_memory (hkt ▸ hk)]
  exact h.pushed.2 _ hapart

theorem HasPushed.segWord (h : HasPushed s t ws) (hw : WordOk s r off .read)
    (hapart : ∀ a, a ∈ wordBytes s r off → a ∉ pushedBytes s ws.length) : t.segWord r off = s.segWord r off :=
  congrArg₂ mkWord (h.segByte hw (by decide) (hapart _ (by simp [wordBytes])))
    (h.segByte hw (by decide) (hapart _ (by simp [wordBytes])))

/-! ### The display -/

/-- The words below an offset of the stack segment, one after the other, each that is apart from `m` words pushed below SP. -/
def DisplayWords (s : State) (m : Nat) (bp : Word) (vs : List Word) : Prop :=
  ∀ k, k < vs.length →
    (∀ a, a ∈ wordBytes s .ss (bp - BitVec.ofNat 16 (2 * (k + 1))) → a ∉ pushedBytes s m) →
    vs[k]? = some (s.segWord .ss (bp - BitVec.ofNat 16 (2 * (k + 1))))

theorem display_offset (bp : Word) (k : Nat) : bp - 2 - BitVec.ofNat 16 (2 * k) = bp - BitVec.ofNat 16 (2 * (k + 1)) := by
  apply BitVec.eq_of_toNat_eq
  simp only [BitVec.toNat_sub, BitVec.toNat_ofNat, BitVec.ofNat_eq_ofNat]
  omega

theorem DisplayWords.cons {m : Nat} {w : Word} (hvs : DisplayWords s m (bp - 2) vs)
    (hw : (∀ a, a ∈ wordBytes s .ss (bp - 2) → a ∉ pushedBytes s m) → w = s.segWord .ss (bp - 2)) :
    DisplayWords s m bp (w :: vs) := by
  intro k hk hapart
  cases k with
  | zero => exact congrArg some (hw hapart)
  | succ k =>
    rw [← display_offset] at hapart ⊢
    exact hvs k (Nat.lt_of_succ_lt_succ hk) hapart

theorem displayFits_of_accessible {n : Nat} (h : ∀ k, k < n → Accessible s .ss (bp - BitVec.ofNat 16 (2 * (k + 1))) 2 .read) :
    displayFits s bp n = .ok () := by
  induction n generalizing bp with
  | zero => rfl
  | succ n ih =>
    have h0 : Accessible s .ss (bp - 2) 2 .read := h 0 n.succ_pos
    rw [displayFits, segCheck_of_accessible h0]
    exact ih fun k hk => by
      rw [display_offset]
      exact h (k + 1) (Nat.succ_lt_succ hk)

/-- The display is copied below what has been pushed, each word as it then stands. -/
theorem HasPushed.copyDisplay {m n : Nat} (h : HasPushed s t ws) (hr : StackRoom s m) (hm : m ≤ 0x8000) (hn : ws.length + n ≤ m)
    (hd : ∀ k, k < n → WordOk s .ss (bp - BitVec.ofNat 16 (2 * (k + 1))) .read) :
    ∃ u vs, copyDisplay t bp n = .ok u ∧ HasPushed s u (ws ++ vs) ∧ vs.length = n ∧ DisplayWords s m bp vs := by
  induction n generalizing t ws bp with
  | zero => exact ⟨t, [], rfl, by rwa [List.append_nil], rfl, fun k hk => absurd hk k.not_lt_zero⟩
  | succ n ih =>
    have hw : WordOk s .ss (bp - 2) .read := hd 0 n.succ_pos
    obtain ⟨x, hx, hpx⟩ := h.push16 (fun i hi => hr i (by omega)) (by omega) (t.segWord .ss (bp - 2))
    obtain ⟨u, vs, hu, hpu, hlen, hvs⟩ := ih hpx (by rw [List.length_append, List.length_singleton]; omega) fun k hk => by
      rw [display_offset]
      exact hd (k + 1) (Nat.succ_lt_succ hk)
    refine ⟨u, t.segWord .ss (bp - 2) :: vs, ?_, by rwa [List.append_assoc] at hpu, by rw [List.length_cons, hlen],
      hvs.cons fun hapart => h.segWord hw fun a ha hmem => hapart a ha (pushedBytes_subset s (by omega) hmem)⟩
    rw [Machine.copyDisplay, segRead16_of_ok (h.wordOk hw)]
    show (Machine.push16 t _ >>= _) = _
    rw [hx]
    exact hu

/-! ### ENTER -/

/-- The words of the frame that ENTER builds at a level: the old BP, the display, the frame pointer (R525). -/
structure FrameWords (s : State) (l : Nat) (ws : List Word) : Prop where
  length : ws.length = enterWords l
  old : ws[0]? = some s.gpr.bp
  frame : l ≠ 0 → ws[l]? = some (s.gpr.sp - 2)
  display : ∀ k, 1 ≤ k → k < l →
    (∀ a, a ∈ wordBytes s .ss (s.gpr.bp - BitVec.ofNat 16 (2 * k)) → a ∉ pushedBytes s (enterWords l)) →
    ws[k]? = some (s.segWord .ss (s.gpr.bp - BitVec.ofNat 16 (2 * k)))

theorem FrameWords.zero (s : State) : FrameWords s 0 [s.gpr.bp] where
  length := rfl
  old := rfl
  frame := fun h => absurd rfl h
  display := fun k _ hk => absurd hk k.not_lt_zero

theorem FrameWords.succ {n : Nat} (hlen : vs.length = n) (hvs : DisplayWords s (n + 2) s.gpr.bp vs) :
    FrameWords s (n + 1) (s.gpr.bp :: vs ++ [s.gpr.sp - 2]) where
  length := by
    rw [List.length_append, List.length_cons, List.length_singleton, hlen]
    rfl
  old := rfl
  frame := fun _ => by
    rw [← hlen]
    exact List.getElem?_concat_length (l := s.gpr.bp :: vs)
  display := fun k h1 hk hapart => by
    obtain ⟨j, rfl⟩ := Nat.exists_eq_add_of_le' h1
    have hj : j < vs.length := by omega
    rw [List.cons_append, List.getElem?_cons_succ, List.getElem?_append_left hj]
    exact hvs j hj hapart

/-- The old BP has been pushed: the rest of the frame follows it. -/
theorem HasPushed.pushDisplay {l : Nat} (h : HasPushed s t [s.gpr.bp]) (hr : StackRoom s (enterWords l)) (hl : l < 32)
    (hd : ∀ k, 1 ≤ k → k < l → WordOk s .ss (s.gpr.bp - BitVec.ofNat 16 (2 * k)) .read) :
    ∃ u ws, pushDisplay t s.gpr.bp (s.gpr.sp - 2) l = .ok u ∧ HasPushed s u ws ∧ FrameWords s l ws := by
  cases l with
  | zero => exact ⟨t, _, rfl, h, .zero s⟩
  | succ n =>
    obtain ⟨x, vs, hx, hpx, hlen, hvs⟩ := h.copyDisplay (m := n + 2) (n := n) hr (by omega)
      (by rw [List.length_singleton]; omega) fun k hk => hd (k + 1) (by omega) (by omega)
    have hcount : ([s.gpr.bp] ++ vs).length = n + 1 := congrArg Nat.succ hlen
    obtain ⟨u, hu, hpu⟩ := hpx.push16 (by rw [hcount]; exact hr) (by omega) (s.gpr.sp - 2)
    refine ⟨u, _, ?_, hpu, .succ hlen hvs⟩
    rw [Machine.pushDisplay, hx]
    exact hu

theorem enterRoom_of_ok {size sp : Word} (h : s.msw.pe = true → size ≠ 0 → Accessible s .ss sp 2 .write) :
    enterRoom s size sp = .ok () := by
  unfold enterRoom
  split
  · next hc =>
    obtain ⟨hp, hz⟩ := Bool.and_eq_true_iff.1 hc
    rw [(stackFits_iff s sp .write).2 (h hp (of_decide_eq_true hz))]
    rfl
  · rfl

/-- ENTER, its checks passed: the words of the frame are pushed, then BP and SP are set. -/
theorem enterFrame_of_ok {size : Word} {level : Byte} {l : Nat} (hm : s.mem.wf = true) (hlev : l = level.toNat % 32)
    (hr : StackRoom s (enterWords l)) (hd : ∀ k, 1 ≤ k → k < l → WordOk s .ss (s.gpr.bp - BitVec.ofNat 16 (2 * k)) .read)
    (hroom : s.msw.pe = true → size ≠ 0 →
      Accessible s .ss (s.gpr.sp - BitVec.ofNat 16 (2 * enterWords l) - size) 2 .write) :
    ∃ u ws, enterFrame size level s = .ok { u with gpr := { u.gpr with bp := s.gpr.sp - 2, sp := u.gpr.sp - size } } ∧
      HasPushed s u ws ∧ FrameWords s l ws := by
  have hpos : 0 < enterWords l := by
    rw [enterWords]
    split <;> omega
  have hfits : displayFits s s.gpr.bp (l - 1) = .ok () :=
    displayFits_of_accessible fun k hk => (hd (k + 1) (by omega) (by omega)).1
  obtain ⟨t, ht, hpt⟩ := push16_of_room hm (fun i hi => hr i (by omega)) s.gpr.bp
  have hsp : t.gpr.sp = s.gpr.sp - 2 := by
    rw [hpt.rest]
    rfl
  obtain ⟨u, ws, hu, hpu, hws⟩ := hpt.pushDisplay hr (by omega) hd
  refine ⟨u, ws, ?_, hpu, hws⟩
  unfold enterFrame
  dsimp only
  rw [← hlev, hr.canPush, hfits, enterRoom_of_ok hroom, ht]
  show (Machine.pushDisplay t s.gpr.bp t.gpr.sp l >>= _) = _
  rw [hsp, hu]
  rfl

/-- What ENTER leaves beyond memory. -/
theorem HasPushed.enterRetire {u : State} (h : HasPushed s u ws) (fp size : Word) :
    ({ u with gpr := { u.gpr with bp := fp, sp := u.gpr.sp - size } } : State).retire = past { s with
      mem := u.mem
      gpr := { s.gpr with bp := fp, sp := s.gpr.sp - BitVec.ofNat 16 (2 * ws.length) - size } } :=
  congrArg (fun v : State => ({ v with gpr := { v.gpr with bp := fp, sp := v.gpr.sp - size } } : State).retire) h.rest

/-! ### LEAVE -/

theorem leaveFrame_of_ok (h : WordOk s .ss s.gpr.bp .read) : leaveFrame s =
    .ok { s with gpr := { s.gpr with bp := s.segWord .ss s.gpr.bp, sp := s.gpr.bp + 2 } } := by
  rw [leaveFrame, (stackFits_iff s _ _).2 h.1, State.segGet16_memory h.2]
  rfl

end

/-- Settles O41: the words ENTER has pushed are those of `FrameWords`; LEAVE reads one word from plain memory. -/
theorem enterLeave : Obligations.EnterLeave := by
  unfold Obligations.EnterLeave
  refine ⟨?enter, fun s hl hw => runInstr_of_ok hl (leaveFrame_of_ok hw)⟩
  intro size level s l n hl hm hlev hn hr hd hroom
  obtain rfl : n = enterWords l := hn
  obtain ⟨u, ws, hu, hp, hws⟩ := enterFrame_of_ok hm hlev hr hd hroom
  refine ⟨_, runInstr_of_ok hl hu, ?_, ?_, hp.word hws.old, fun h0 => hp.word (hws.frame h0),
    fun k h1 hk hapart => hp.word (hws.display k h1 hk hapart)⟩
  · rw [← hws.length]
    exact hp.enterRetire _ size
  · rw [← hws.length]
    exact hp.pushed.2

end Sys2Proof.Machine
end

section
/-! PROOF of O42: BOUND.  Its two words are one reference of four bytes; in plain memory reading them leaves the machine as it was, so
the exception of the comparison finds nothing changed (`raiseAt_seen`). -/

namespace Sys2Proof.Machine

section
variable {s : State} {r : Reg16} {m : MemOp}

theorem boundCheck_of_not_accessible (h : ¬ Accessible s (s.memSeg m) (s.effOffset m) 4 .read) :
    boundCheck r m s = .error (refTrap s (s.memSeg m) .read) := bind_error (segCheck_of_not_accessible h) _

/-- The bounds in plain memory: what is left of BOUND is the comparison. -/
theorem boundCheck_of_ok (h : Accessible s (s.memSeg m) (s.effOffset m) 4 .read) (hm : PointerOk s m) :
    boundCheck r m s = (do
      afterReads s (require (decide ((s.segWord (s.memSeg m) (s.effOffset m)).toInt ≤ (s.reg16 r).toInt) &&
        decide ((s.reg16 r).toInt ≤ (s.segWord (s.memSeg m) (s.effOffset m + 2)).toInt)) { vector := 5 })
      .ok s) := by
  rw [boundCheck, segCheck_of_accessible h, State.segGet16_memory hm.1.2]
  dsimp only
  rw [State.segGet16_memory hm.2.2]
  rfl

theorem boundCheck_inside (h : Accessible s (s.memSeg m) (s.effOffset m) 4 .read) (hm : PointerOk s m)
    (hlo : (s.segWord (s.memSeg m) (s.effOffset m)).toInt ≤ (s.reg16 r).toInt)
    (hhi : (s.reg16 r).toInt ≤ (s.segWord (s.memSeg m) (s.effOffset m + 2)).toInt) : boundCheck r m s = .ok s := by
  rw [boundCheck_of_ok h hm, decide_eq_true hlo, decide_eq_true hhi]
  rfl

theorem boundCheck_outside (h : Accessible s (s.memSeg m) (s.effOffset m) 4 .read) (hm : PointerOk s m)
    (hout : (s.reg16 r).toInt < (s.segWord (s.memSeg m) (s.effOffset m)).toInt ∨
      (s.segWord (s.memSeg m) (s.effOffset m + 2)).toInt < (s.reg16 r).toInt) :
    boundCheck r m s = .error { vector := 5, bus := some s.bus } := by
  have hc : (decide ((s.segWord (s.memSeg m) (s.effOffset m)).toInt ≤ (s.reg16 r).toInt) &&
      decide ((s.reg16 r).toInt ≤ (s.segWord (s.memSeg m) (s.effOffset m + 2)).toInt)) = false := by
    rcases hout with hlo | hhi
    · rw [decide_eq_false (not_le.2 hlo), Bool.false_and]
    · rw [decide_eq_false (not_le.2 hhi), Bool.and_false]
  rw [boundCheck_of_ok h hm, hc]
  rfl

end

/-- Settles O42: the check of the reference, then `boundCheck_inside` or `boundCheck_outside`. -/
theorem bound : Obligations.Bound := by
  unfold Obligations.Bound
  intro r m s hl
  refine ⟨fun h => runInstr_of_error hl (boundCheck_of_not_accessible h),
    fun h hm => ⟨fun hlo hhi => runInstr_of_ok hl (boundCheck_inside h hm hlo hhi), fun hout => ?_⟩⟩
  rw [← raiseAt_seen]
  exact runInstr_of_error hl (boundCheck_outside h hm hout)

end Sys2Proof.Machine
end

section
/-! PROOF of O43: HLT, WAIT and ESC.  WAIT and ESC come through the tests of BUSY and ERROR (`afterBusy`); the check of an ESC's
operand is that of a reference in the direction its opcode has (`escCheck_eq_segCheck`), whichever that is. -/

namespace Sys2Proof.Machine

section
variable {s : State} {op ext : BitVec 3} {e : RM (BitVec 3)} {waits tests : Bool} {r : Except Trap State}

/-! ### BUSY and ERROR -/

theorem afterBusy_busy (hb : s.pins.busy = true) (hw : waits = true) : afterBusy s waits tests r = .next s.busyWait := by
  rw [afterBusy, hb, hw]
  rfl

theorem afterBusy_not_busy (h : s.pins.busy = false ∨ waits = false) : afterBusy s waits tests r =
    if s.pins.error && tests then .next (raiseAt s trapMf) else runInstr s r := by
  have hc : (s.pins.busy && waits) = false := Bool.and_eq_false_iff.2 h
  rw [afterBusy, hc]
  rfl

theorem afterBusy_error (h : s.pins.busy = false ∨ waits = false) (he : s.pins.error = true) (ht : tests = true) :
    afterBusy s waits tests r = .next (raiseAt s trapMf) := by
  rw [afterBusy_not_busy h, he, ht]
  rfl

theorem afterBusy_clear (h : s.pins.busy = false ∨ waits = false) (he : s.pins.error = false ∨ tests = false) :
    afterBusy s waits tests r = runInstr s r := by
  have hc : (s.pins.error && tests) = false := Bool.and_eq_false_iff.2 he
  rw [afterBusy_not_busy h, hc]
  rfl

/-! ### HLT and WAIT -/

theorem haltMachine_of_privileged (h : Privileged s) : haltMachine s = .ok { s with run := .halted } := by
  rw [haltMachine, privilegeGuard_of_privileged h]
  rfl

theorem exec_wait_switched (hmp : s.msw.mp = true) (hts : s.msw.ts = true) : exec .wait s = .next (raiseAt s trapNm) := by
  show execWait s = _
  rw [execWait, hmp, hts]
  rfl

theorem exec_wait (h : s.msw.mp = false ∨ s.msw.ts = false) : exec .wait s = afterBusy s true (!s.msw.em) (.ok s) := by
  have hc : (s.msw.mp && s.msw.ts) = false := Bool.and_eq_false_iff.2 h
  show execWait s = _
  rw [execWait, hc]
  rfl

/-! ### The operand of an ESC -/

theorem escOpcode_eq_ofNat (op ext : BitVec 3) : escOpcode op ext = BitVec.ofNat 6 (8 * op.toNat + ext.toNat) := by
  revert op ext
  decide

/-- The direction in which an escape opcode's operand goes. -/
def escAccess (opcode : BitVec 6) : Access := if Config.escStores opcode = true then .write else .read

/-- What can be written can be read, so the type check is the one of the opcode's direction. -/
theorem escAllowed_eq_accessAllowed (opcode : BitVec 6) (ar : Byte) :
    escAllowed opcode ar = accessAllowed ar (escAccess opcode) := by
  unfold escAllowed escAccess
  cases Config.escStores opcode with
  | false =>
    show (if readable ar = true then writable ar || true else writable ar && false) = readable ar
    cases readable ar <;> simp
  | true =>
    show (if readable ar = true then writable ar || false else writable ar && true) = writable ar
    rw [Bool.or_false, Bool.and_true, ite_self]

theorem escCheck_eq_segCheck (s : State) (opcode : BitVec 6) (q : SegReg) (off : Word) :
    escCheck s opcode q off = segCheck s q off 2 (escAccess opcode) := by
  rw [escCheck, escAllowed_eq_accessAllowed]
  rfl

/-- Where an ESC's operand stands, if it is in memory. -/
def escOperand (s : State) : RM (BitVec 3) → Option (SegReg × Word)
  | .reg _ => none
  | .mem m => some (s.memSeg m, s.effOffset m)

theorem escBytes_of_encode {b1 b2 : Byte} {more : List Byte} (h : encode (.esc op ext e) = b1 :: b2 :: more) :
    escBytes op ext e = (b1, b2) := by
  rw [escBytes, h]

theorem escSend_of_ok {b1 b2 : Byte} {more : List Byte} (hb : encode (.esc op ext e) = b1 :: b2 :: more)
    (h : ∀ m, e = .mem m → Accessible s (s.memSeg m) (s.effOffset m) 2 (escAccess (escOpcode op ext))) :
    escSend op ext e s = .ok (s.escape (.escape b1 b2 (escOperand s e))) := by
  cases e with
  | reg q =>
    rw [escSend, escBytes_of_encode hb]
    rfl
  | mem m =>
    rw [escSend, escBytes_of_encode hb, escCheck_eq_segCheck, segCheck_of_accessible (h m rfl)]
    rfl

theorem escSend_fault {m : MemOp} (h : ¬ Accessible s (s.memSeg m) (s.effOffset m) 2 (escAccess (escOpcode op ext))) :
    escSend op ext (.mem m) s = .error (refTrap s (s.memSeg m) (escAccess (escOpcode op ext))) :=
  bind_error ((escCheck_eq_segCheck s _ _ _).trans (segCheck_of_not_accessible h)) _

/-! ### ESC -/

theorem exec_esc_switched (h : s.msw.em = true ∨ s.msw.ts = true) : exec (.esc op ext e) s = .next (raiseAt s trapNm) :=
  if_pos ((Bool.or_eq_true _ _).mpr h)

theorem exec_esc (hem : s.msw.em = false) (hts : s.msw.ts = false) : exec (.esc op ext e) s =
    afterBusy s (!Config.escSkipsBusy (escOpcode op ext) (escForm e)) (!Config.escSkipsError (escOpcode op ext) (escForm e))
      (escSend op ext e s) := by
  show execEsc op ext e s = _
  rw [execEsc, hem, hts]
  rfl

/-- A hand-over into which no RESET falls: one record, and the extension's answer if it gives one. -/
theorem State.escape_unreset (h : Unreset s) (ev : EscEvent) : s.escape ev = { s with
    escLog := s.escLog ++ [ev]
    npxReplies := s.npxReplies.tail
    gpr := { s.gpr with ax := (s.npxReplies.head?.join).getD s.gpr.ax } } := by
  rw [State.escape, State.cycle_unreset h, State.dead_unreset h]
  rfl

end

/-- Settles O43: HLT past its guard; WAIT and ESC by the test of the MSW, then `afterBusy`. -/
theorem haltWaitEscape : Obligations.HaltWaitEscape := by
  unfold Obligations.HaltWaitEscape
  refine ⟨fun s hl hp => runInstr_of_ok hl (haltMachine_of_privileged hp), ?wait, fun s => exec_wait_switched, ?esc⟩
  case wait =>
    intro s h hl
    rw [exec_wait h]
    refine ⟨fun hb he => ?_, fun hb hem he => afterBusy_error (.inl hb) he (by rw [hem]; rfl), fun hb => afterBusy_busy hb rfl⟩
    rw [afterBusy_clear (.inl hb) (he.symm.imp_right fun hem => by rw [hem]; rfl)]
    exact runInstr_of_ok hl rfl
  case esc =>
    rintro op ext e s _ b1 b2 more _ _ _ hbytes rfl rfl rfl rfl
    rw [← escOpcode_eq_ofNat]
    refine ⟨exec_esc_switched, fun hem hts => ?_⟩
    rw [exec_esc hem hts]
    refine ⟨afterBusy_busy, fun hb => ⟨afterBusy_error hb, fun he hl => ?_⟩⟩
    rw [afterBusy_clear hb he]
    constructor
    · rintro m rfl h
      exact runInstr_of_error hl (escSend_fault h)
    · intro hu h
      rw [runInstr_of_ok hl (escSend_of_ok hbytes h), State.escape_unreset hu]
      rcases hr : s.npxReplies with _ | ⟨_ | v, rest⟩
      all_goals cases e <;> rfl

end Sys2Proof.Machine
end

section
/-! PROOF of O39 and O40: CLC, STC, CMC, CLD, STD and NOP, which make no check but that of LOCK, and CLI and STI behind the check of
IOPL. -/

namespace Sys2Proof.Machine

section
variable {s t : State}

/-! ### The direction of the strings -/

theorem stepped_up (h : t.flags.df = false) (w : Elem) (x : Word) : stepped t w x = x + BitVec.ofNat 16 w.size :=
  if_neg (Bool.eq_false_iff.1 h)

theorem stepped_down (h : t.flags.df = true) (w : Elem) (x : Word) : stepped t w x = x - BitVec.ofNat 16 w.size := if_pos h

theorem exec_cld (hl : LockAllowed s) : exec .cld s = .next (past { s with flags := { s.flags with df := false } }) :=
  runInstr_of_ok hl rfl

theorem exec_std (hl : LockAllowed s) : exec .std s = .next (past { s with flags := { s.flags with df := true } }) :=
  runInstr_of_ok hl rfl

theorem df_of_cld (hl : LockAllowed s) (h : exec .cld s = .next t) : t.flags.df = false := by
  obtain rfl := Host.Outcome.next.inj (h.symm.trans (exec_cld hl))
  rfl

theorem df_of_std (hl : LockAllowed s) (h : exec .std s = .next t) : t.flags.df = true := by
  obtain rfl := Host.Outcome.next.inj (h.symm.trans (exec_std hl))
  rfl

/-! ### The interrupt flag -/

theorem clearIf_of_allowed (h : IoAllowed s) : clearIf s = .ok { s with flags := { s.flags with ie := false } } := by
  rw [clearIf, ioplGuard_of_allowed h]
  rfl

theorem setIf_of_allowed (h : IoAllowed s) : setIf s = .ok { s with
    flags := { s.flags with ie := true }, stiShadow := s.platform.stiDelay && !s.flags.ie } := by
  rw [setIf, ioplGuard_of_allowed h]
  rfl

end

/-- Settles O39: the exchange of AX with itself is `xchgRm16_of_ok`, and leaves every register as it was. -/
theorem flagControl : Obligations.FlagControl := by
  unfold Obligations.FlagControl
  refine ⟨fun rest => ⟨decode_op rfl, decode_op rfl, decode_op rfl, decode_op rfl, decode_op rfl, decode_op rfl⟩,
    fun s hl => ?_⟩
  exact ⟨runInstr_of_ok hl rfl, runInstr_of_ok hl rfl, runInstr_of_ok hl rfl, exec_cld hl, exec_std hl, runInstr_of_ok hl rfl,
    runInstr_of_ok hl (xchgRm16_of_ok (e := .reg .ax) .ax trivial),
    fun t w x => ⟨fun h => stepped_up (df_of_cld hl h) w x, fun h => stepped_down (df_of_std hl h) w x⟩, rfl⟩

/-- Settles O40: IF changes past the check of IOPL, which is all that CLI and STI ask for. -/
theorem interruptFlag : Obligations.InterruptFlag := by
  unfold Obligations.InterruptFlag
  intro s hl
  exact ⟨fun h => ⟨runInstr_of_ok hl (clearIf_of_allowed h), runInstr_of_ok hl (setIf_of_allowed h)⟩,
    fun h => ⟨runInstr_not_io hl h _, runInstr_not_io hl h _⟩⟩

end Sys2Proof.Machine
end

section
/-! PROOF of O51 and O52: far JMP and CALL in Protected Mode, straight to a code segment or through a call gate.  Every check is made before
anything is written; what is then written is the return link or the inner stack's words (`HasPushed`) and Accessed bits (`accessedMem`). -/

namespace Sys2Proof.Machine

section
variable {s t : State} {i : Instr} {sel off nss nsp : Word} {c d g k : Desc} {l : BitVec 2}

/-! ### What is committed -/

/-- The selector a transfer leaves in CS, as a number (46_protected_transfer.md R554). -/
theorem withRpl_eq_ofNat (sel : Word) (l : BitVec 2) : withRpl sel l = BitVec.ofNat 16 (sel.toNat / 4 * 4 + l.toNat) := by
  have hmask : sel >>> 2 <<< 2 = sel &&& 0xFFFC := BitVec.shiftLeft_ushiftRight
  have hs := sel.isLt
  have hl := l.isLt
  have hnum : (sel >>> 2 <<< 2).toNat = (sel.toNat / 4) <<< 2 := by
    simp only [BitVec.toNat_shiftLeft, BitVec.toNat_ushiftRight, Nat.shiftLeft_eq, Nat.shiftRight_eq_div_pow]
    omega
  have hlow : (l.zeroExtend 16).toNat = l.toNat := by
    simp only [BitVec.truncate_eq_setWidth, BitVec.toNat_setWidth]
    omega
  apply BitVec.eq_of_toNat_eq
  rw [withRpl, ← hmask, BitVec.toNat_or, hnum, hlow, ← Nat.shiftLeft_add_eq_or_of_lt hl, Nat.shiftLeft_eq, BitVec.toNat_ofNat]
  omega

theorem commitCs_codeSeg (h : d.InMemory s) (sel off : Word) (l : BitVec 2) :
    commitCs s sel d off l = { s with mem := accessedMem s s.mem d, cs := codeSeg sel l d, ip := off } := by
  rw [commitCs_eq h, withRpl_eq_ofNat]
  rfl

/-- Memory with one more Accessed bit set, after writes that left the descriptor's access byte alone. -/
theorem marked_of_accessedMem {m : Memory} (hw : m.wf = true) (hd : s.fetchDesc sel = some d)
    (hm : m.read d.accessByte = s.mem.read d.accessByte) (ht : t.mem = accessedMem s m d) : Marked s t d (d.ar ||| 1) := by
  intro hk
  rw [ht, accessedMem_read_same hw hk, hm, fetchDesc_ar_ram hd hk]

theorem accessedSet_of_mem (hw : s.mem.wf = true) (hd : s.fetchDesc sel = some d) (ht : t.mem = accessedMem s s.mem d) :
    AccessedSet s t d := by
  refine ⟨marked_of_accessedMem hw hd rfl ht, fun a ha => ?_⟩
  rw [ht, accessedMem_read_other _ ha]

/-! ### Privilege and presence -/

theorem gateAccess_of_allowed (hc : s.cpl ≤ dpl d.ar) (hr : rpl sel ≤ dpl d.ar) (hp : present d.ar = true) :
    gateAccess s sel d.ar = .ok () := by
  rw [gateAccess, decide_eq_true hc, decide_eq_true hr, hp]
  rfl

theorem isCode_of_isSys {ar : Byte} {n : BitVec 4} (h : isSys ar n = true) : isCode ar = false := by
  simp only [isSys, isSeg, Bool.and_eq_true, Bool.not_eq_true'] at h
  rw [isCode, h.1, Bool.false_and]

theorem isSys_other {ar : Byte} {n m : BitVec 4} (h : isSys ar n = true) (hne : n ≠ m) : isSys ar m = false := by
  simp only [isSys, Bool.and_eq_true, decide_eq_true_eq] at h
  rw [isSys, h.2, decide_eq_false hne, Bool.and_false]

/-- The two level checks that a gate's and a task's code segment go through, as one (R553). -/
theorem codeLevel_iff (ar : Byte) (l : BitVec 2) :
    ((conforming ar || decide (dpl ar = l)) = true ∧ (!conforming ar || decide (dpl ar ≤ l)) = true) ↔
      if conforming ar = true then dpl ar ≤ l else dpl ar = l := by
  cases conforming ar with
  | true => simp
  | false => simp

/-! ### What the selector names (R570, R572) -/

/-- The choice that far JMP and far CALL make alike by the descriptor that the selector names. -/
def farTo (s : State) (sel : Word) (d : Desc) (code gate : Except Trap State) (kind : SwitchKind) : Except Failure State :=
  if isCode d.ar then failIn s code
  else if isSys d.ar 4 then failIn s gate
  else if isSys d.ar 5 then do
    let (b, v) ← failIn s (taskGateTarget s sel d)
    switchTo v d.gateSel b kind
  else if isSys d.ar 1 || isSys d.ar 3 then do
    failIn s (tssTarget s sel d)
    switchTo s sel d kind
  else failIn s (.error (trapGp sel))

theorem farJump_eq_farTo (hp : s.msw.pe = true) (ha : Alone s) (hn : 4 ≤ sel.toNat) (hd : s.fetchDesc sel = some d) (off : Word) :
    farJump s sel off = farTo s sel d (jumpCode s sel d off) (jumpGate s sel d) .jump := by
  rw [farJump, hp, nullSel_eq_false hn, fetchOr_alone ha hd]
  rfl

theorem farCall_eq_farTo (hp : s.msw.pe = true) (ha : Alone s) (hn : 4 ≤ sel.toNat) (hd : s.fetchDesc sel = some d) (off : Word) :
    farCall s sel off = farTo s sel d (callCode s sel d off) (callGate s sel d) .nest := by
  rw [farCall, hp, nullSel_eq_false hn, fetchOr_alone ha hd]
  rfl

theorem farTo_code {gate : Except Trap State} {kind : SwitchKind} (h : isCode d.ar = true) :
    farTo s sel d (.ok t) gate kind = .ok t := if_pos h

theorem farTo_gate {code : Except Trap State} {kind : SwitchKind} (h : isSys d.ar 4 = true) :
    farTo s sel d code (.ok t) kind = .ok t :=
  (if_neg (Bool.eq_false_iff.1 (isCode_of_isSys h))).trans (if_pos h)

/-! ### To a code segment (R553) -/

/-- A JMP has loaded CS and IP. -/
def jumped (s : State) (sel off : Word) (d : Desc) : State :=
  { s with mem := accessedMem s s.mem d, cs := codeSeg sel s.cpl d, ip := off }

theorem jumpCode_of_codeAt (hc : CodeAt d s.cpl) (hr : conforming d.ar = false → rpl sel ≤ s.cpl) (hlim : off.toNat ≤ d.w0.toNat)
    (hm : d.InMemory s) : jumpCode s sel d off = .ok (jumped s sel off d) := by
  rw [jumpCode, checkCodeTarget_of_codeAt hc hr, Desc.limit, decide_eq_true hlim, commitCs_codeSeg hm]
  rfl

/-- The level check of a gate's code segment, which takes no account of the selector's RPL. -/
theorem jumpGate_of_codeAt (ha : Alone s) (hg : gateAccess s sel g.ar = .ok ()) (hn : 4 ≤ g.w1.toNat)
    (hd : s.fetchDesc g.w1 = some c) (hc : CodeAt c s.cpl) (hlim : g.gateOff.toNat ≤ c.limit.toNat) (hm : c.InMemory s) :
    jumpGate s sel g = .ok (jumped s g.w1 g.w0 c) := by
  obtain ⟨hcode, hlevel, hpr⟩ := hc
  have hup := (codeLevel_iff c.ar s.cpl).2 hlevel
  simp only [jumpGate, hg, Desc.gateSel, nullSel_eq_false hn, fetchOr_alone ha hd, hcode, hup, hpr,
    decide_eq_true hlim, commitCs_codeSeg hm, Bool.not_false, require_true, bind, Except.bind]
  rfl

/-! ### CALL at the same level (R572, R573) -/

/-- CS loaded once words have been pushed. -/
theorem HasPushed.commitCs {ws : List Word} (h : HasPushed s t ws) (hm : d.InMemory s) (sel off : Word) (l : BitVec 2) :
    commitCs t sel d off l = { s with
      mem := accessedMem s t.mem d
      gpr := { s.gpr with sp := s.gpr.sp - BitVec.ofNat 16 (2 * ws.length) }
      cs := codeSeg sel l d
      ip := off } := by
  have hrest := h.rest
  generalize t.mem = m at hrest ⊢
  subst hrest
  refine (commitCs_codeSeg ?_ sel off l).trans rfl
  exact hm

/-- The words pushed stand as long as their bytes do. -/
theorem pushedWord_congr {u : State} {n j : Nat} (hj : j < n) (h : ∀ a, a ∈ pushedBytes s n → u.mem.read a = t.mem.read a) :
    pushedWord s u j = pushedWord s t j := by
  have hbyte : ∀ a, a ∈ wordBytes s .ss (s.gpr.sp - BitVec.ofNat 16 (2 * (j + 1))) → u.mem.read a = t.mem.read a :=
    fun a ha => h a (pushedBytes_subset s hj (List.mem_append_right _ ha))
  exact congrArg₂ mkWord (hbyte _ List.mem_cons_self) (hbyte _ (List.mem_cons_of_mem _ List.mem_cons_self))

/-- Where words are pushed depends on SP and on where SS stands alone. -/
theorem pushedBytes_congr {n : Nat} (hsp : t.gpr.sp = s.gpr.sp) (haddr : ∀ o j, t.segAddr .ss o j = s.segAddr .ss o j) :
    pushedBytes t n = pushedBytes s n := by
  induction n with
  | zero => rfl
  | succ n ih => rw [pushedBytes, pushedBytes, ih, hsp, wordBytes, wordBytes, haddr, haddr]

/-- An Accessed bit set after pushes, elsewhere: it and the words stand, and nothing else has changed. -/
theorem HasPushed.accessed {u : State} {ws : List Word} (h : HasPushed s t ws) (hd : s.fetchDesc sel = some d)
    (hfar : d.accessByte ∉ pushedBytes s ws.length) (hu : u.mem = accessedMem s t.mem d) :
    PushedWords s u ws ∧ Marked s u d (d.ar ||| 1) ∧ MemSameBut s u (d.marked s ++ pushedBytes s ws.length) := by
  obtain ⟨hwords, hsame⟩ := h.pushed
  refine ⟨fun j hj => ?_, marked_of_accessedMem h.wf hd (hsame _ hfar) hu, fun a ha => ?_⟩
  · rw [← hwords j hj]
    refine pushedWord_congr hj fun a ha => ?_
    rw [hu, accessedMem_read_other _ (not_mem_marked (fun e => hfar (e ▸ ha)) s)]
  · rw [List.mem_append, not_or] at ha
    rw [hu, accessedMem_read_other _ ha.1, hsame a ha.2]

/-- What a far CALL to the same level leaves: the link pushed, CS and IP loaded, nothing else changed. -/
def CalledSame (s t : State) (sel off : Word) (d : Desc) : Prop :=
  PushedWords s t [s.cs.sel, s.nextIp] ∧ Marked s t d (d.ar ||| 1) ∧ MemSameBut s t (d.marked s ++ pushedBytes s 2) ∧
    t = { s with mem := t.mem, gpr := { s.gpr with sp := s.gpr.sp - 4 }, cs := codeSeg sel s.cpl d, ip := off }

/-- The return link is pushed, then CS is loaded. -/
theorem callSame_of_room (hw : s.mem.wf = true) (hr : StackRoom s 2) (hd : s.fetchDesc sel = some d)
    (hlim : off.toNat ≤ d.limit.toNat) (hm : d.InMemory s) (hfar : d.accessByte ∉ pushedBytes s 2) :
    ∃ t, callSame s sel d off = .ok t ∧ CalledSame s t sel off d := by
  obtain ⟨u, hu, hp⟩ := pushReturn_of_room hw hr
  obtain ⟨hwords, hmark, hsame⟩ := hp.accessed (u := commitCs u sel d off s.cpl) hd hfar (by rw [hp.commitCs hm])
  refine ⟨commitCs u sel d off s.cpl, ?_, hwords, hmark, hsame, ?_⟩
  · rw [callSame, hr.canPush, decide_eq_true hlim, hu]
    rfl
  · rw [hp.commitCs hm]
    rfl

theorem callCode_of_codeAt (hc : CodeAt d s.cpl) (hr : conforming d.ar = false → rpl sel ≤ s.cpl) (off : Word) :
    callCode s sel d off = callSame s sel d off := by
  rw [callCode, checkCodeTarget_of_codeAt hc hr]
  rfl

/-- The checks of a gate's code segment: CALL goes inward to a segment that does not conform and has a lower DPL, else it stays. -/
theorem callGate_of_desc (ha : Alone s) (hg : gateAccess s sel g.ar = .ok ()) (hn : 4 ≤ g.w1.toNat)
    (hd : s.fetchDesc g.w1 = some c) (hcode : isCode c.ar = true) (hlevel : dpl c.ar ≤ s.cpl) (hpr : present c.ar = true) :
    callGate s sel g = afterReads s (if (!conforming c.ar && decide (dpl c.ar < s.cpl)) = true
      then callGateInner s g.w1 c g.w0 (g.b4.toNat % 32) else callSame s g.w1 c g.w0) := by
  simp only [callGate, hg, Desc.gateSel, nullSel_eq_false hn, fetchOr_alone ha hd, hcode, hpr, decide_eq_true hlevel,
    Bool.not_false, require_true, bind, Except.bind]
  rfl

theorem callGate_same (ha : Alone s) (hg : gateAccess s sel g.ar = .ok ()) (hn : 4 ≤ g.w1.toNat)
    (hd : s.fetchDesc g.w1 = some c) (hc : CodeAt c s.cpl) (ht : callSame s g.w1 c g.w0 = .ok t) : callGate s sel g = .ok t := by
  obtain ⟨hcode, hlevel, hpr⟩ := hc
  have hstay : (!conforming c.ar && decide (dpl c.ar < s.cpl)) = false ∧ dpl c.ar ≤ s.cpl := by
    cases hcf : conforming c.ar with
    | true => exact ⟨rfl, by rwa [if_pos hcf] at hlevel⟩
    | false =>
      rw [if_neg (Bool.eq_false_iff.1 hcf)] at hlevel
      exact ⟨decide_eq_false (hlevel ▸ BitVec.lt_irrefl _), BitVec.le_of_eq hlevel⟩
  rw [callGate_of_desc ha hg hn hd hcode hstay.2 hpr, hstay.1, if_neg Bool.false_ne_true, ht]
  rfl

theorem callGate_inner (ha : Alone s) (hg : gateAccess s sel g.ar = .ok ()) (hn : 4 ≤ g.w1.toNat)
    (hd : s.fetchDesc g.w1 = some c) (hcode : isCode c.ar = true) (hcf : conforming c.ar = false) (hlevel : dpl c.ar < s.cpl)
    (hpr : present c.ar = true) (ht : callGateInner s g.w1 c g.w0 (g.b4.toNat % 32) = .ok t) : callGate s sel g = .ok t := by
  rw [callGate_of_desc ha hg hn hd hcode (BitVec.le_of_lt hlevel) hpr, hcf, decide_eq_true hlevel]
  exact (congrArg (afterReads s) (if_pos rfl)).trans (congrArg (afterReads s) ht)

/-! ### CALL to an inner level (R560, R573) -/

/-- The parameter words are the words from SP up. -/
theorem paramWords_of_holds {m n : Nat} (h : StackHolds s (m + n)) : paramWords s (2 * m) n =
    ((List.range n).map fun j => s.segWord .ss (s.gpr.sp + BitVec.ofNat 16 (2 * (m + j))), s) := by
  induction n generalizing m with
  | zero => rfl
  | succ n ih =>
    have hrest := ih (m := m + 1) (by rwa [Nat.add_assoc, Nat.add_comm 1 n])
    rw [paramWords, h.stackGet (i := m) (by omega)]
    dsimp only
    rw [show 2 * m + 2 = 2 * (m + 1) from rfl, hrest, List.range_succ_eq_map, List.map_cons, List.map_map]
    refine congrArg (fun ws => (_ :: ws, s)) (List.map_congr_left fun j _ => ?_)
    rw [Function.comp, show m + 1 + j = m + j.succ by omega]

/-- The stack that the TSS holds for an inner level passes its checks. -/
theorem innerStack_of_stackAt (ha : Alone s) (hv : s.tr.valid = true) (hlim : 4 * l.toNat + 5 ≤ s.tr.limit.toNat)
    (hsp : nsp = s.peek16 s.tr.base (4 * l.toNat + 2)) (hss : nss = s.peek16 s.tr.base (4 * l.toNat + 4)) (hk : StackAt s nss k l)
    (ext : Bool) : innerStack s l ext = .ok { sel := nss, sp := nsp, desc := k, st := s } := by
  obtain ⟨hn, hd, hw, hr, hdpl, hpr⟩ := hk
  have hhas : s.tssHas (4 + 4 * l.toNat) = true := by
    rw [State.tssHas, hv, Bool.true_and]
    exact decide_eq_true (by omega)
  have hspw : s.tssWord (2 + 4 * l.toNat) = (nsp, s) := by
    rw [State.tssWord, State.fetch16_alone ha, Nat.add_comm, hsp]
  have hssw : s.tssWord (4 + 4 * l.toNat) = (nss, s) := by
    rw [State.tssWord, State.fetch16_alone ha, Nat.add_comm, hss]
  simp only [innerStack, hhas, hspw, hssw, nullSel_eq_false hn, fetchOr_alone ha hd, hw, hpr, decide_eq_true hr, decide_eq_true hdpl,
    Bool.not_false, require_true, bind, Except.bind]
  rfl

/-- The Accessed bit plays no part in the direction of a segment. -/
theorem expandDown_accessed (ar : Byte) : expandDown (ar ||| 1) = expandDown ar := by
  simp [expandDown, isData]

/-- Words that the new stack takes without wrap of SP are room for their bytes. -/
theorem hasRoom_of_stackRoom {n : Nat} (hp : s.msw.pe = true) (hn : 2 * (n + 1) ≤ nsp.toNat)
    (hr : StackRoom (withStack s nss nsp k) (n + 1)) (u : State) :
    InnerStack.hasRoom { sel := nss, sp := nsp, desc := k, st := u } (2 * (n + 1)) = true := by
  have hoff : ∀ j, j ≤ n → (nsp - BitVec.ofNat 16 (2 * (j + 1))).toNat = nsp.toNat - 2 * (j + 1) := fun j hj => by
    have := nsp.isLt
    rw [BitVec.toNat_sub, BitVec.toNat_ofNat]
    omega
  have hfits : ∀ j, j ≤ n → withinLimit (descriptorSeg nss k) (nsp - BitVec.ofNat 16 (2 * (j + 1))) 2 = true := fun j hj => by
    obtain ⟨haccess, -⟩ := hr j (by omega)
    rw [Accessible, if_pos (show (withStack s nss nsp k).msw.pe = true from hp)] at haccess
    exact haccess.2.2
  have hfirst := hfits 0 (Nat.zero_le n)
  have hlast := hfits n (Nat.le_refl n)
  rw [withinLimit, hoff 0 (Nat.zero_le n), show (descriptorSeg nss k).ar = k.ar ||| 1 from rfl, expandDown_accessed] at hfirst
  rw [withinLimit, hoff n (Nat.le_refl n), show (descriptorSeg nss k).ar = k.ar ||| 1 from rfl, expandDown_accessed] at hlast
  rw [InnerStack.hasRoom, decide_eq_true hn, Bool.true_and]
  split
  · next hdown =>
    rw [if_pos hdown] at hlast
    exact (Bool.and_eq_true_iff.1 hlast).1
  · next hup =>
    rw [if_neg hup, decide_eq_true_eq] at hfirst
    refine decide_eq_true ?_
    have : k.limit.toNat = (descriptorSeg nss k).limit.toNat := rfl
    dsimp only
    omega

/-- SS and CS loaded for an inner level, before anything is pushed. -/
def innerEntered (s : State) (sel off nss nsp : Word) (c k : Desc) : State :=
  { withStack s nss nsp k with
    mem := accessedMem s (accessedMem s s.mem k) c, cs := codeSeg sel (dpl c.ar) c, ip := off }

theorem commitCs_commitSs (hm : c.InMemory s) (hk : k.InMemory s) (nss nsp sel off : Word) :
    commitCs (commitSs s nss k nsp) sel c off (dpl c.ar) = innerEntered s sel off nss nsp c k := by
  rw [commitSs_eq hk, commitCs_codeSeg]
  · rfl
  · exact hm

theorem pushedBytes_innerEntered (s : State) (sel off nss nsp : Word) (c k : Desc) (n : Nat) :
    pushedBytes (innerEntered s sel off nss nsp c k) n = pushedBytes (withStack s nss nsp k) n :=
  pushedBytes_congr rfl fun _ _ => rfl

/-- The words that a CALL to an inner level pushes on the new stack. -/
def innerLink (s : State) (n : Nat) : List Word :=
  [s.ss.sel, s.gpr.sp] ++ ((List.range n).map fun j => s.segWord .ss (s.gpr.sp + BitVec.ofNat 16 (2 * j))).reverse ++
    [s.cs.sel, s.nextIp]

theorem innerLink_length (s : State) (n : Nat) : (innerLink s n).length = n + 4 := by
  simp only [innerLink, List.length_append, List.length_reverse, List.length_map, List.length_range, List.length_cons, List.length_nil]
  omega

/-- What a CALL to an inner level leaves: the words on the new stack, SS, SP, CS and IP loaded, nothing else changed. -/
def CalledInner (s t : State) (sel off nss nsp : Word) (c k : Desc) (n : Nat) : Prop :=
  PushedWords (withStack s nss nsp k) t (innerLink s n) ∧ Marked s t c (c.ar ||| 1) ∧ Marked s t k (k.ar ||| 1) ∧
    MemSameBut s t (c.marked s ++ k.marked s ++ pushedBytes (withStack s nss nsp k) (n + 4)) ∧
    t = { s with
      mem := t.mem
      gpr := { s.gpr with sp := nsp - BitVec.ofNat 16 (2 * (n + 4)) }
      cs := codeSeg sel (dpl c.ar) c
      ss := descriptorSeg nss k
      ip := off }

/-- Both segments are loaded before anything is pushed. -/
theorem pushInner_of_room {n : Nat} (hw : s.mem.wf = true) (hd : s.fetchDesc sel = some c) (hcode : isCode c.ar = true)
    (hm : c.InMemory s) (hn : n < 32) (hr : InnerRoom s (dpl c.ar) nss nsp c k (n + 4)) (off : Word) :
    ∃ t, pushAll (commitCs (commitSs s nss k nsp) sel c off (dpl c.ar)) (innerLink s n) = .ok t ∧
      CalledInner s t sel off nss nsp c k n := by
  obtain ⟨-, -, -, -, ⟨-, hk, hdata, -⟩, -, hroom, hkm, hapart⟩ := hr
  have hlen := innerLink_length s n
  rw [commitCs_commitSs hm hkm]
  obtain ⟨t, ht, hp⟩ := pushAll_of_room (s := innerEntered s sel off nss nsp c k) (ws := innerLink s n)
    (accessedMem_wf (accessedMem_wf hw s k) s c) (hlen ▸ hroom) (by omega)
  obtain ⟨hwords, hsame⟩ := hp.pushed
  obtain ⟨hmk, hmc, hbefore⟩ := accessedMem_two (t := { s with mem := accessedMem s (accessedMem s s.mem k) c }) hw hk hd
    (accessByte_ne hd hk hcode hdata).symm rfl
  rw [hlen, pushedBytes_innerEntered] at hsame
  have hfarc : c.accessByte ∉ pushedBytes (withStack s nss nsp k) (n + 4) := fun h => (hapart _ h).1 rfl
  have hfark : k.accessByte ∉ pushedBytes (withStack s nss nsp k) (n + 4) := fun h => (hapart _ h).2 rfl
  refine ⟨t, ht, hwords, fun hr => ?_, fun hr => ?_, fun a ha => ?_, ?_⟩
  · rw [hsame _ hfarc]
    exact hmc hr
  · rw [hsame _ hfark]
    exact hmk hr
  · rw [List.mem_append, List.mem_append, not_or, not_or] at ha
    rw [hsame a ha.2]
    exact hbefore a (by rw [List.mem_append, not_or]; exact ha.1.symm)
  · have hrest := hp.rest
    rwa [hlen] at hrest

theorem callGateInner_of_room {n : Nat} (hp : s.msw.pe = true) (ha : Alone s) (hlim : off.toNat ≤ c.limit.toNat) (hs : StackHolds s n)
    (hr : InnerRoom s (dpl c.ar) nss nsp c k (n + 4))
    (ht : pushAll (commitCs (commitSs s nss k nsp) sel c off (dpl c.ar)) (innerLink s n) = .ok t) :
    callGateInner s sel c off n = .ok t := by
  obtain ⟨hv, hl, hsp, hss, hk, hroom, hfits, -, -⟩ := hr
  have hparams : paramWords s 0 n =
      ((List.range n).map fun j => s.segWord .ss (s.gpr.sp + BitVec.ofNat 16 (2 * j)), s) := by
    have h := paramWords_of_holds (m := 0) (n := n) (by rwa [Nat.zero_add])
    simpa only [Nat.zero_add] using h
  rw [innerLink] at ht
  simp only [callGateInner, innerStack_of_stackAt ha hv hl hsp hss hk, hasRoom_of_stackRoom hp hroom hfits,
    show 2 * n + 8 = 2 * (n + 3 + 1) from rfl, decide_eq_true hlim, hs.canPop, hparams, require_true, ht, bind, Except.bind]
  rfl

end

/-! ### The obligations -/

/-- Settles O51: the descriptor is that of a code segment, so JMP is `jumpCode` and CALL is `callSame`. -/
theorem farTransferProtected : Obligations.FarTransferProtected := by
  unfold Obligations.FarTransferProtected
  intro i s sel off d hl hp hw hn hd hc hrpl hlim hm
  constructor
  · intro hj
    refine ⟨(jumped s sel off d).retireFar, ?_, accessedSet_of_mem hw hd rfl, rfl⟩
    rw [hj.exec_of_ok]
    refine runFar_of_ok hl ?_
    rw [farJump_eq_farTo hp hm.1 hn hd, jumpCode_of_codeAt hc hrpl hlim hm, farTo_code hc.1]
  · intro hcall hr hfar
    obtain ⟨t, ht, hwords, hmark, hsame, hrest⟩ := callSame_of_room hw hr hd hlim hm hfar
    refine ⟨t.retireFar, ?_, hwords, hmark, hsame, congrArg State.retireFar hrest⟩
    rw [hcall.exec_of_ok hp]
    refine runFar_of_ok hl ?_
    rw [farCall_eq_farTo hp hm.1 hn hd, callCode_of_codeAt hc hrpl, ht, farTo_code hc.1]

/-- Settles O52: the descriptor is that of a gate, so JMP is `jumpGate` and CALL is `callGate`, which stays at the level or goes inward
by the gate's code segment. -/
theorem callGates : Obligations.CallGates := by
  unfold Obligations.CallGates
  intro i s sel off g c hl hp hw hn hg hsys hcpl hrpl hpr hgn hd hcode hcpr hlim hm
  have hopen : gateAccess s sel g.ar = .ok () := gateAccess_of_allowed hcpl hrpl hpr
  refine ⟨?jump, ?same, ?inner⟩
  case jump =>
    intro hj hc
    refine ⟨(jumped s g.w1 g.w0 c).retireFar, ?_, accessedSet_of_mem hw hd rfl, rfl⟩
    rw [hj.exec_of_ok]
    refine runFar_of_ok hl ?_
    rw [farJump_eq_farTo hp hm.1 hn hg, jumpGate_of_codeAt hm.1 hopen hgn hd hc hlim hm, farTo_gate hsys]
  case same =>
    intro hcall hc hr hfar
    obtain ⟨t, ht, hwords, hmark, hsame, hrest⟩ := callSame_of_room hw hr hd hlim hm hfar
    refine ⟨t.retireFar, ?_, hwords, hmark, hsame, congrArg State.retireFar hrest⟩
    rw [hcall.exec_of_ok hp]
    refine runFar_of_ok hl ?_
    rw [farCall_eq_farTo hp hm.1 hn hg, callGate_same hm.1 hopen hgn hd hc ht, farTo_gate hsys]
  case inner =>
    rintro k nsp nss _ hcall hcf hlevel rfl hs hr
    obtain ⟨t, ht, hwords, hmc, hmk, hsame, hrest⟩ :=
      pushInner_of_room hw hd hcode hm (Nat.mod_lt _ (by decide)) hr g.w0
    have hgate := callGate_inner hm.1 hopen hgn hd hcode hcf hlevel hcpr (callGateInner_of_room hp hm.1 hlim hs hr ht)
    refine ⟨t.retireFar, ?_, hwords, hmc, hmk, hsame, congrArg State.retireFar hrest⟩
    rw [hcall.exec_of_ok hp]
    refine runFar_of_ok hl ?_
    rw [farCall_eq_farTo hp hm.1 hn hg, hgate, farTo_gate hsys]

end Sys2Proof.Machine
end

section
/-! PROOF of O53: a far RET in Protected Mode.  As for IRET, every read of the return is made before anything is written; what is then
written is Accessed bits (`accessedMem`) and registers. -/

namespace Sys2Proof.Machine

section
variable {s t : State} {sel nss nsp release : Word} {d k : Desc}

/-! ### The same level (R576) -/

theorem retSame_of_ok (hs : StackHolds s 2) (hr : rpl sel = s.cpl) (hc : returnCode s sel = .ok (d, s)) (hm : d.InMemory s)
    (hlim : (s.segWord .ss s.gpr.sp).toNat ≤ d.limit.toNat) (release : Word) : retSame s sel release = .ok { s with
      mem := accessedMem s s.mem d
      gpr := { s.gpr with sp := s.gpr.sp + 4 + release }
      cs := descriptorSeg sel d
      ip := s.segWord .ss s.gpr.sp } := by
  have htop : StackHolds s 1 := fun j hj => hs j (by omega)
  have hcs : withRpl sel s.cpl = sel := hr ▸ withRpl_self sel
  simp only [retSame, htop.canPop, hc, State.stackGet_top hs.top, decide_eq_true hlim, require_true, commitCs_eq hm, hcs,
    bind, Except.bind]
  rfl

theorem farReturn_same (hp : s.msw.pe = true) (hs : StackHolds s 2) (hsel : sel = s.segWord .ss (s.gpr.sp + 2))
    (hr : rpl sel = s.cpl) (h : retSame s sel release = .ok t) : farReturn s release = .ok t := by
  rw [farReturn_protected hp, farReturnProtected_of_selector (hs 1 (by decide)) hsel (BitVec.le_of_eq hr.symm), if_pos hr, h]
  rfl

/-! ### To an outer level (R576, R577) -/

theorem farReturn_outer (hp : s.msw.pe = true) (hs : StackHolds s 2) (hsel : sel = s.segWord .ss (s.gpr.sp + 2))
    (hr : s.cpl < rpl sel) (h : retOuter s sel release = .ok t) : farReturn s release = .ok t := by
  rw [farReturn_protected hp, farReturnProtected_of_selector (hs 1 (by decide)) hsel (BitVec.le_of_lt hr),
    if_neg (BitVec.ne_of_lt hr).symm, h]
  rfl

/-- A word above the released bytes. -/
theorem stackGet_released {n : Nat} (h : InMemory s .ss (s.gpr.sp + BitVec.ofNat 16 n + release) 2 .read) :
    s.stackGet (n + release.toNat) = (s.segWord .ss (s.gpr.sp + BitVec.ofNat 16 n + release), s) := by
  have hoff : s.gpr.sp + BitVec.ofNat 16 (n + release.toNat) = s.gpr.sp + BitVec.ofNat 16 n + release := by
    rw [BitVec.ofNat_add, BitVec.ofNat_toNat, BitVec.setWidth_eq, BitVec.add_assoc]
  rw [← hoff] at h ⊢
  exact State.stackGet_memory h

/-- As `commitSs_commitCs`, where FLAGS do not come from the stack. -/
theorem commitSs_commitCs_flags (hm : d.InMemory s) (hk : k.InMemory s) (sel off nss sp : Word) (l : BitVec 2) :
    commitSs (commitCs s sel d off l) nss k sp = { s with
      mem := accessedMem s (accessedMem s s.mem d) k
      gpr := { s.gpr with sp := sp }
      cs := descriptorSeg (withRpl sel l) d
      ss := descriptorSeg nss k
      ip := off } := by
  rw [commitCs_eq hm, commitSs_eq]
  · rfl
  · exact hk

/-- DS and ES are looked at last, when CS already has the outer level. -/
theorem retOuter_of_ok (hp : s.msw.pe = true) (hs : StackHolds s 2) (hblock : Accessible s .ss s.gpr.sp (8 + release.toNat) .read)
    (hspm : InMemory s .ss (s.gpr.sp + 4 + release) 2 .read) (hssm : InMemory s .ss (s.gpr.sp + 6 + release) 2 .read)
    (hc : returnCode s sel = .ok (d, s)) (hm : d.InMemory s)
    (hk : StackAt s (s.segWord .ss (s.gpr.sp + 6 + release)) k (rpl sel)) (hkm : k.InMemory s)
    (hlim : (s.segWord .ss s.gpr.sp).toNat ≤ d.limit.toNat) : retOuter s sel release = .ok { s with
      mem := accessedMem s (accessedMem s s.mem d) k
      gpr := { s.gpr with sp := s.segWord .ss (s.gpr.sp + 4 + release) + release }
      cs := descriptorSeg sel d
      ss := descriptorSeg (s.segWord .ss (s.gpr.sp + 6 + release)) k
      ds := outward (rpl sel) s.ds
      es := outward (rpl sel) s.es
      ip := s.segWord .ss s.gpr.sp } := by
  have hsp : s.stackGet (4 + release.toNat) = _ := stackGet_released hspm
  have hss : s.stackGet (6 + release.toNat) = (s.segWord .ss (s.gpr.sp + 6 + release), s) := stackGet_released hssm
  have hcpl : ∀ u : State, u.msw = s.msw → u.cs = descriptorSeg sel d → u.cpl = rpl sel := fun u hu hcs => by
    rw [State.cpl_protected (hu ▸ hp), hcs]
    rfl
  simp only [retOuter, segCheck_of_accessible hblock, hc, hsp, hss, State.stackGet_top hs.top, returnStack_of_stackAt hm.1 hk,
    decide_eq_true hlim, require_true, commitSs_commitCs_flags hm hkm,
    withRpl_self, nullIfInaccessible_both, hcpl, bind, Except.bind]
  rfl

end

/-- Settles O53: the two returns are `retSame_of_ok` and `retOuter_of_ok`.  (`farReturnProtected` is the model's own operation.) -/
theorem farReturnsProtected : Obligations.FarReturnProtected := by
  unfold Obligations.FarReturnProtected
  rintro i s release _ _ d hi hl hp hm hs rfl rfl hn hd hc hlim hdm
  have hexec : exec i s = runFar s (farReturn s release) := by
    rcases hi with ⟨rfl, rfl⟩ | rfl
    all_goals rfl
  have hcode := returnCode_of_codeAt hdm.1 hn hd hc
  rw [hexec]
  constructor
  · intro hr
    have ht := farReturn_same hp hs rfl hr (retSame_of_ok hs hr hcode hdm hlim release)
    exact ⟨_, runFar_of_ok hl ht, accessedSet_of_mem hm hd rfl, rfl⟩
  · rintro _ _ k hr hblock hspm hssm rfl rfl hk hkm
    have ht := farReturn_outer hp hs rfl hr (retOuter_of_ok hp hs hblock hspm hssm hcode hdm hk hkm hlim)
    obtain ⟨-, hfetch, hw, -⟩ := hk
    obtain ⟨hmd, hmk, hsame⟩ := accessedMem_two hm hd hfetch (accessByte_ne hd hfetch hc.1 hw)
      (t := { s with mem := accessedMem s (accessedMem s s.mem d) k }) rfl
    exact ⟨_, runFar_of_ok hl ht, hmd, hmk, hsame, rfl⟩

end Sys2Proof.Machine
end

section
/-! PROOF of O54: the task switch.  Up to the outgoing task's end it is a row of stores (`Written`); from then on every step loads one
register over a state that only the Accessed bits change (`Loads`).  JMP and CALL make the switch once the descriptor has passed its
checks (`farTo`). -/

namespace Sys2Proof.Machine

section
variable {s t u v w m n : State} {as bs : List Nat} {a : Nat} {sel outIp : Word} {b d k : Desc} {kind : SwitchKind} {ext : Bool}

/-! ### Stores in a row -/

/-- Stores have led from `s` to `t`, with no other agent between: nothing but bytes at the addresses listed, and what devices record,
has changed. -/
structure Written (s t : State) (as : List Nat) : Prop where
  rest : t = { s with mem := t.mem, bus := t.bus }
  map : t.bus.map = s.bus.map
  alone : Alone t
  wf : t.mem.wf = true
  same : MemSameBut s t as

theorem Written.refl (ha : Alone s) (hw : s.mem.wf = true) : Written s s [] := ⟨rfl, rfl, ha, hw, fun _ _ => rfl⟩

theorem Written.trans (h : Written s t as) (k : Written t u bs) : Written s u (as ++ bs) where
  rest := by rw [k.rest, h.rest]
  map := k.map.trans h.map
  alone := k.alone
  wf := k.wf
  same a hn := by
    rw [List.mem_append, not_or] at hn
    rw [k.same a hn.2, h.same a hn.1]

theorem Written.kindAt (h : Written s t as) (a : Nat) : t.kindAt a = s.kindAt a := congrArg (kindIn · a) h.map

theorem Written.look (h : Written s t as) (hk : s.kindAt a = .ram) (hn : a ∉ as) : t.look a = s.look a := by
  rw [State.look_memory (.inl hk), State.look_memory (.inl ((h.kindAt a).trans hk)), h.same a hn]

theorem Written.peek16 (h : Written s t as) {p : Addr} {j : Nat} (h0 : s.kindAt (physAdd p j) = .ram)
    (h1 : s.kindAt (physAdd p (j + 1)) = .ram) (n0 : physAdd p j ∉ as) (n1 : physAdd p (j + 1) ∉ as) :
    t.peek16 p j = s.peek16 p j := congrArg₂ mkWord (h.look h0 n0) (h.look h1 n1)

theorem written_store (ha : Alone s) (hw : s.mem.wf = true) (hlt : a < 2 ^ 24) (x : Byte) : Written s (s.store a x) [a] where
  rest := State.store_rest s a x
  map := State.store_map s a x
  alone := ha.store a x
  wf := State.store_wf hw hlt x
  same _ hn := State.store_other s x (mt List.mem_singleton.2 hn)

theorem State.store_look_same (ha : Alone s) (hw : s.mem.wf = true) (hk : s.kindAt a = .ram) (x : Byte) : (s.store a x).look a = x := by
  rw [State.look_memory (.inl ((State.store_kindAt s a x a).trans hk)), State.store_ram (State.dead_unreset ha.2) hk]
  exact Memory.read_write_same hw a x

theorem State.poke16_alone (ha : Alone s) (p : Addr) (j : Nat) (x : Word) :
    s.poke16 p j x = (s.store (physAdd p j) (loByte x)).store (physAdd p (j + 1)) (hiByte x) := State.storeWord_alone ha _ _ x

theorem written_poke16 (ha : Alone s) (hw : s.mem.wf = true) (p : Addr) (j : Nat) (x : Word) :
    Written s (s.poke16 p j x) [physAdd p j, physAdd p (j + 1)] := by
  rw [State.poke16_alone ha]
  have h := written_store ha hw (physAdd_lt p j) (loByte x)
  exact h.trans (written_store h.alone h.wf (physAdd_lt p (j + 1)) (hiByte x))

/-- Different displacements of fewer than 24 bits are different addresses (R93). -/
theorem physAdd_ne (p : Addr) {i j : Nat} (hi : i < 2 ^ 24) (hj : j < 2 ^ 24) (h : i ≠ j) : physAdd p i ≠ physAdd p j := by
  have := p.isLt
  simp only [physAdd, BitVec.toNat_add, BitVec.toNat_ofNat]
  omega

theorem State.poke16_peek16 (ha : Alone s) (hw : s.mem.wf = true) {p : Addr} {j : Nat} (hj : j + 1 < 2 ^ 24)
    (h0 : s.kindAt (physAdd p j) = .ram) (h1 : s.kindAt (physAdd p (j + 1)) = .ram) (x : Word) : (s.poke16 p j x).peek16 p j = x := by
  have h := written_store ha hw (physAdd_lt p j) (loByte x)
  have h' := written_store h.alone h.wf (physAdd_lt p (j + 1)) (hiByte x)
  have hne : physAdd p j ∉ [physAdd p (j + 1)] := fun e => physAdd_ne p (by omega) hj (by omega) (List.mem_singleton.1 e)
  rw [State.poke16_alone ha]
  refine (congrArg₂ mkWord ?_ ?_).trans (mkWord_lo_hi x)
  · exact (h'.look ((h.kindAt _).trans h0) hne).trans (State.store_look_same ha hw h0 _)
  · exact State.store_look_same h.alone h.wf ((h.kindAt _).trans h1) _

/-- The bytes of `l` words from `p + j` up. -/
def wordsAt (p : Addr) (j l : Nat) : List Nat := (List.range (2 * l)).map fun i => physAdd p (j + i)

theorem mem_wordsAt {p : Addr} {j l q : Nat} : q ∈ wordsAt p j l ↔ ∃ i, i < 2 * l ∧ physAdd p (j + i) = q := by
  simp only [wordsAt, List.mem_map, List.mem_range]

theorem written_pokeWords (ha : Alone s) (hw : s.mem.wf = true) (p : Addr) (j : Nat) (ws : List Word) :
    Written s (pokeWords s p j ws) (wordsAt p j ws.length) := by
  induction ws generalizing s j with
  | nil => exact .refl ha hw
  | cons x ws ih =>
    have h := written_poke16 ha hw p j x
    have hall := h.trans (ih h.alone h.wf (j + 2))
    refine ⟨hall.rest, hall.map, hall.alone, hall.wf, fun q hq => hall.same q fun hmem => hq ?_⟩
    rw [List.length_cons, mem_wordsAt]
    simp only [List.mem_append, List.mem_cons, List.not_mem_nil, or_false, mem_wordsAt] at hmem
    rcases hmem with (rfl | rfl) | ⟨i, hi, rfl⟩
    · exact ⟨0, by omega, rfl⟩
    · exact ⟨1, by omega, rfl⟩
    · exact ⟨i + 2, by omega, by rw [Nat.add_assoc, Nat.add_comm 2 i]⟩

/-- Words written to RAM stand there. -/
theorem pokeWords_peek16 (ha : Alone s) (hw : s.mem.wf = true) {p : Addr} {j : Nat} {ws : List Word}
    (hj : j + 2 * ws.length < 2 ^ 24) (hram : ∀ i, i < 2 * ws.length → s.kindAt (physAdd p (j + i)) = .ram) (l : Nat)
    (hl : l < ws.length) : (pokeWords s p j ws).peek16 p (j + 2 * l) = ws[l] := by
  induction ws generalizing s j l with
  | nil => exact absurd hl (Nat.not_lt_zero l)
  | cons x ws ih =>
    rw [List.length_cons] at hj hram
    have h := written_poke16 ha hw p j x
    cases l with
    | zero =>
      have hrest := written_pokeWords h.alone h.wf p (j + 2) ws
      have hfar : ∀ i, i < 2 → physAdd p (j + i) ∉ wordsAt p (j + 2) ws.length := fun i hi hmem => by
        obtain ⟨i', hi', e⟩ := mem_wordsAt.1 hmem
        exact physAdd_ne p (by omega) (by omega) (by omega) e
      have h0 : s.kindAt (physAdd p j) = .ram := hram 0 (by omega)
      have h1 : s.kindAt (physAdd p (j + 1)) = .ram := hram 1 (by omega)
      have hkept : (pokeWords (s.poke16 p j x) p (j + 2) ws).peek16 p j = (s.poke16 p j x).peek16 p j :=
        hrest.peek16 ((h.kindAt _).trans h0) ((h.kindAt _).trans h1) (hfar 0 (by omega)) (hfar 1 (by omega))
      exact hkept.trans (State.poke16_peek16 ha hw (by omega) h0 h1 x)
    | succ l =>
      have hstep := ih h.alone h.wf (j := j + 2) (by omega)
        (fun i hi => by rw [h.kindAt, Nat.add_assoc, Nat.add_comm 2 i]; exact hram (i + 2) (by omega)) l (Nat.lt_of_succ_lt_succ hl)
      rw [List.getElem_cons_succ, ← hstep, show j + 2 * (l + 1) = j + 2 + 2 * l by omega]
      rfl

/-! ### Leaving the outgoing task (R590, steps 1 to 5) -/

theorem Written.mono (h : Written s t as) (hsub : as ⊆ bs) : Written s t bs :=
  ⟨h.rest, h.map, h.alone, h.wf, fun q hq => h.same q (mt (@hsub q) hq)⟩

theorem Written.gdtEntry (h : Written s t as) (sel : Word) : t.gdtEntry sel = s.gdtEntry sel := by
  rw [h.rest]
  rfl

/-- Step 1: the incoming TSS's descriptor is marked busy, unless IRET returns to a task that is. -/
def busied (s : State) (sel : Word) (kind : SwitchKind) : State := if kind = .iret then s else s.setBusy sel

/-- Steps 2 and 3: the outgoing task saved. -/
def saved (s : State) (sel outIp : Word) (kind : SwitchKind) : State :=
  pokeWords (busied s sel kind) s.tr.base 14 (tssImage s outIp kind)

/-- Step 4: the back link written, or the outgoing task made available. -/
def unlinked (s : State) (sel outIp : Word) (b : Desc) (kind : SwitchKind) : State :=
  if kind = .nest then (saved s sel outIp kind).poke16 b.base 0 s.tr.sel else (saved s sel outIp kind).clearBusy s.tr.sel

theorem leaveTask_ok (h : leaveTask s sel b kind outIp ext = .ok m) : s.tr.valid = true ∧ 41 ≤ s.tr.limit.toNat ∧
    m = { unlinked s sel outIp b kind with tr := { sel := sel, base := b.base, limit := b.limit, valid := true } } := by
  unfold leaveTask at h
  dsimp only at h
  split at h
  · exact nomatch h
  · next hfits =>
    rw [Bool.not_eq_true', Bool.not_eq_false, Bool.and_eq_true, decide_eq_true_eq] at hfits
    exact ⟨hfits.1, hfits.2, (Except.ok.inj h).symm⟩

theorem tssImage_eq_outgoingImage (s : State) (outIp : Word) (kind : SwitchKind) : tssImage s outIp kind = outgoingImage s outIp kind := by
  have hflags : (if kind = .iret then { s.flags with nt := false } else s.flags) =
      { s.flags with nt := s.flags.nt && decide (kind ≠ .iret) } := by
    cases kind <;> simp
  rw [tssImage, hflags, Flags.toWord_eq_flagWord]
  rfl

section
variable (ha : Alone s) (hw : s.mem.wf = true)
include ha hw

theorem written_busied (sel : Word) (kind : SwitchKind) : Written s (busied s sel kind) [physAdd (s.gdtEntry sel) 5] := by
  unfold busied
  split
  · exact (Written.refl ha hw).mono (List.nil_subset _)
  · exact written_store ha hw (physAdd_lt _ 5) _

theorem written_saved (sel outIp : Word) (kind : SwitchKind) :
    Written (busied s sel kind) (saved s sel outIp kind) (wordsAt s.tr.base 14 14) :=
  have h := written_busied ha hw sel kind
  written_pokeWords h.alone h.wf s.tr.base 14 (tssImage s outIp kind)

theorem written_unlinked (sel outIp : Word) (b : Desc) (kind : SwitchKind) :
    Written (saved s sel outIp kind) (unlinked s sel outIp b kind)
      (if kind = .nest then [physAdd b.base 0, physAdd b.base 1] else [physAdd (s.gdtEntry s.tr.sel) 5]) := by
  have h1 := written_busied ha hw sel kind
  have h2 := written_saved ha hw sel outIp kind
  unfold unlinked
  split
  · exact written_poke16 h2.alone h2.wf b.base 0 s.tr.sel
  · rw [State.clearBusy, State.others_alone h2.alone, h2.gdtEntry, h1.gdtEntry]
    exact written_store h2.alone h2.wf (physAdd_lt _ 5) _

end

/-- What the outgoing task's end leaves in memory. -/
structure Left (s m : State) (sel outIp : Word) (b : Desc) (kind : SwitchKind) : Prop where
  image : ∀ j, (h : j < (outgoingImage s outIp kind).length) →
    m.peek16 s.tr.base (14 + 2 * j) = (outgoingImage s outIp kind)[j]
  incoming : m.peek8 (s.gdtEntry sel) 5 = (if kind = .iret then s.peek8 (s.gdtEntry sel) 5 else s.peek8 (s.gdtEntry sel) 5 ||| 2)
  outgoing : m.peek8 (s.gdtEntry s.tr.sel) 5 =
    (if kind = .nest then s.peek8 (s.gdtEntry s.tr.sel) 5 else s.peek8 (s.gdtEntry s.tr.sel) 5 &&& 0xFD)
  link : kind = .nest → m.peek16 b.base 0 = s.tr.sel
  same : MemSameBut s m (switchBytes s sel b)

theorem switchBytes_eq (s : State) (sel : Word) (b : Desc) : switchBytes s sel b =
    physAdd (s.gdtEntry sel) 5 :: physAdd (s.gdtEntry s.tr.sel) 5 :: physAdd b.base 0 :: physAdd b.base 1 :: wordsAt s.tr.base 14 14 :=
  rfl

/-- Step 1 as its byte reads. -/
theorem busied_look (ha : Alone s) (hw : s.mem.wf = true) (hk : s.kindAt (physAdd (s.gdtEntry sel) 5) = .ram) (kind : SwitchKind) :
    (busied s sel kind).look (physAdd (s.gdtEntry sel) 5) =
      (if kind = .iret then s.peek8 (s.gdtEntry sel) 5 else s.peek8 (s.gdtEntry sel) 5 ||| 2) := by
  unfold busied
  split
  · rfl
  · exact State.store_look_same ha hw hk _

/-- The back link as its word reads. -/
theorem unlinked_link (ha : Alone s) (hw : s.mem.wf = true) (h0 : s.kindAt (physAdd b.base 0) = .ram)
    (h1 : s.kindAt (physAdd b.base 1) = .ram) (sel outIp : Word) :
    (unlinked s sel outIp b .nest).peek16 b.base 0 = s.tr.sel := by
  have hb := written_busied ha hw sel .nest
  have hs := written_saved ha hw sel outIp .nest
  have hkind : ∀ q, (saved s sel outIp .nest).kindAt q = s.kindAt q := fun q => (hs.kindAt q).trans (hb.kindAt q)
  exact State.poke16_peek16 hs.alone hs.wf (by decide) ((hkind _).trans h0) ((hkind _).trans h1) _

/-- The outgoing descriptor's byte, which no earlier store has changed, as step 4 leaves it. -/
theorem unlinked_look_outgoing (ha : Alone s) (hw : s.mem.wf = true) (hk : s.kindAt (physAdd (s.gdtEntry s.tr.sel) 5) = .ram)
    (hkept : (saved s sel outIp kind).look (physAdd (s.gdtEntry s.tr.sel) 5) = s.peek8 (s.gdtEntry s.tr.sel) 5)
    (hl0 : physAdd (s.gdtEntry s.tr.sel) 5 ≠ physAdd b.base 0) (hl1 : physAdd (s.gdtEntry s.tr.sel) 5 ≠ physAdd b.base 1) :
    (unlinked s sel outIp b kind).look (physAdd (s.gdtEntry s.tr.sel) 5) =
      (if kind = .nest then s.peek8 (s.gdtEntry s.tr.sel) 5 else s.peek8 (s.gdtEntry s.tr.sel) 5 &&& 0xFD) := by
  have hb := written_busied ha hw sel kind
  have hs := written_saved ha hw sel outIp kind
  have hk' := (hs.kindAt _).trans ((hb.kindAt _).trans hk)
  unfold unlinked
  split
  · have hlink := written_poke16 hs.alone hs.wf b.base 0 s.tr.sel
    exact (hlink.look hk' (by simp [hl0, hl1])).trans hkept
  · rw [State.clearBusy, State.others_alone hs.alone, hs.gdtEntry, hb.gdtEntry]
    refine (State.store_look_same hs.alone hs.wf hk' _).trans ?_
    exact congrArg (· &&& 0xFD) hkept

/-- The bytes being RAM and apart, each of the stores is seen through the others. -/
theorem left_unlinked (ha : Alone s) (hw : s.mem.wf = true) (hram : ∀ a, a ∈ switchBytes s sel b → s.kindAt a = .ram)
    (hnd : (switchBytes s sel b).Nodup) (outIp : Word) (kind : SwitchKind) : Left s (unlinked s sel outIp b kind) sel outIp b kind := by
  have hb := written_busied ha hw sel kind
  have hs := written_saved ha hw sel outIp kind
  have hl := written_unlinked ha hw sel outIp b kind
  have hbs := hb.trans hs
  rw [switchBytes_eq] at hram hnd
  simp only [List.nodup_cons, List.mem_cons, not_or] at hnd
  obtain ⟨⟨heo, hel, hel', hew⟩, ⟨hol, hol', how⟩, ⟨-, hlw⟩, hlw', -⟩ := hnd
  simp only [List.forall_mem_cons] at hram
  obtain ⟨hke, hko, hkl, hkl', hkw⟩ := hram
  have hlast : ∀ q, q ≠ physAdd (s.gdtEntry s.tr.sel) 5 → q ≠ physAdd b.base 0 → q ≠ physAdd b.base 1 →
      q ∉ if kind = .nest then [physAdd b.base 0, physAdd b.base 1] else [physAdd (s.gdtEntry s.tr.sel) 5] := by
    intro q hqo hql hql'
    split <;> simp [hqo, hql, hql']
  have himage : ∀ i, i < 28 → physAdd s.tr.base (14 + i) ∈ wordsAt s.tr.base 14 14 := fun i hi => mem_wordsAt.2 ⟨i, hi, rfl⟩
  constructor
  case image =>
    intro j hj
    have hj14 : j < 14 := hj
    have hin : ∀ i, i < 2 → physAdd s.tr.base (14 + 2 * j + i) ∈ wordsAt s.tr.base 14 14 := fun i hi => by
      rw [Nat.add_assoc]
      exact himage _ (by omega)
    have hout : ∀ i, i < 2 → physAdd s.tr.base (14 + 2 * j + i) ∉ _ := fun i hi =>
      hlast _ (fun e => how (e ▸ hin i hi)) (fun e => hlw (e ▸ hin i hi)) (fun e => hlw' (e ▸ hin i hi))
    have hkind : ∀ i, i < 2 → (saved s sel outIp kind).kindAt (physAdd s.tr.base (14 + 2 * j + i)) = .ram := fun i hi =>
      (hbs.kindAt _).trans (hkw _ (hin i hi))
    have hkept := hl.peek16 (hkind 0 (by decide)) (hkind 1 (by decide)) (hout 0 (by decide)) (hout 1 (by decide))
    refine hkept.trans ?_
    simp only [← tssImage_eq_outgoingImage]
    exact pokeWords_peek16 (ws := tssImage s outIp kind) hb.alone hb.wf (show 14 + 2 * 14 < 2 ^ 24 by decide)
      (fun i hi => (hb.kindAt _).trans (hkw _ (himage i hi))) j hj14
  case incoming =>
    have h1 := hl.look ((hbs.kindAt _).trans hke) (hlast _ heo hel hel')
    have h2 := hs.look ((hb.kindAt _).trans hke) hew
    exact h1.trans (h2.trans (busied_look ha hw hke kind))
  case outgoing =>
    have h2 := hs.look ((hb.kindAt _).trans hko) how
    have h1 := hb.look hko (by simp [Ne.symm heo])
    exact unlinked_look_outgoing ha hw hko (h2.trans h1) hol hol'
  case link =>
    rintro rfl
    exact unlinked_link ha hw hkl hkl' sel outIp
  case same =>
    refine ((hbs.trans hl).mono fun q hq => ?_).same
    simp only [List.mem_append, List.mem_singleton] at hq
    rw [switchBytes_eq]
    simp only [List.mem_cons]
    rcases hq with (rfl | hq) | hq
    · exact .inl rfl
    · exact .inr (.inr (.inr (.inr hq)))
    · split at hq <;> simp only [List.mem_cons, List.not_mem_nil, or_false] at hq
      · exact .inr (.inr (hq.imp_right .inl))
      · exact .inr (.inl hq)

section
variable (ha : Alone s) (hw : s.mem.wf = true) (h : leaveTask s sel b kind outIp ext = .ok m)
include ha hw h

/-- Steps 1 to 5 change TR, memory and what devices record only. -/
theorem leaveTask_rest : m = { s with tr := m.tr, mem := m.mem, bus := m.bus } ∧ Alone m := by
  obtain ⟨-, -, rfl⟩ := leaveTask_ok h
  have hsaved := (written_busied ha hw sel kind).trans (written_saved ha hw sel outIp kind)
  have hwritten := hsaved.trans (written_unlinked ha hw sel outIp b kind)
  exact ⟨congrArg (fun x : State => { x with tr := { sel := sel, base := b.base, limit := b.limit, valid := true } }) hwritten.rest,
    hwritten.alone⟩

theorem leaveTask_left (hram : ∀ a, a ∈ switchBytes s sel b → s.kindAt a = .ram) (hnd : (switchBytes s sel b).Nodup) :
    Left s m sel outIp b kind := by
  obtain ⟨-, -, rfl⟩ := leaveTask_ok h
  have hleft := left_unlinked ha hw hram hnd outIp kind
  exact ⟨hleft.image, hleft.incoming, hleft.outgoing, hleft.link, hleft.same⟩

end

end
end Sys2Proof.Machine
end

section
/-! PROOF of O54, concluded: what a task switch loads, step by step, and the JMP and CALL that make it. -/

namespace Sys2Proof.Machine

section
variable {s t u v w m n : State} {a : Nat} {sel outIp : Word} {b c d k : Desc} {kind : SwitchKind} {ext : Bool} {r : SegReg}
  {ks : List Desc} {old : SegCache}

/-! ### Loads over a state that only the Accessed bits change -/

/-- `v` is `n` but for the registers that a task switch loads. -/
def LoadedOver (n v : State) : Prop :=
  v = { n with ip := v.ip, flags := v.flags, gpr := v.gpr, es := v.es, cs := v.cs, ss := v.ss, ds := v.ds, msw := v.msw }

theorem LoadedOver.mem (h : LoadedOver n v) : v.mem = n.mem := (congrArg State.mem h :)

theorem LoadedOver.bus (h : LoadedOver n v) : v.bus = n.bus := (congrArg State.bus h :)

theorem LoadedOver.fetchDesc (h : LoadedOver n v) (sel : Word) : v.fetchDesc sel = n.fetchDesc sel := by
  rw [h]
  rfl

theorem LoadedOver.setSeg (h : LoadedOver n v) (r : SegReg) (c : SegCache) : LoadedOver n (v.setSeg r c) := by
  unfold LoadedOver at h
  generalize v.ip = ip, v.flags = flags, v.gpr = gpr, v.es = es, v.cs = cs, v.ss = ss, v.ds = ds, v.msw = msw at h
  subst h
  cases r <;> rfl

theorem LoadedOver.store (h : LoadedOver n v) (a : Nat) (x : Byte) : LoadedOver (n.store a x) (v.store a x) := by
  have hdead : v.dead = n.dead := congrArg (fun b : Bus => decide (b.reset = .come)) h.bus
  have hkind : v.kindAt a = n.kindAt a := congrArg (fun b : Bus => kindIn b.map a) h.bus
  unfold State.store
  rw [hdead, hkind]
  split
  · exact h
  · split
    · rw [h.mem]
      have hw := congrArg (fun y : State => { y with mem := n.mem.write a x }) h
      exact hw
    · rw [h.bus]
      have hw := congrArg (fun y : State => { y with bus := { n.bus with log := n.bus.log ++ [BusEvent.write a x] } }) h
      exact hw
    · exact h
    · exact h

theorem LoadedOver.accessedIn (h : LoadedOver n v) (d : Desc) : LoadedOver (accessedIn n d) (accessedIn v d) := by
  have hlook : v.look d.accessByte = n.look d.accessByte := by rw [h]; rfl
  unfold Machine.accessedIn
  rw [hlook]
  exact h.store _ _

theorem accessedIn_rest (s : State) (d : Desc) : accessedIn s d = { s with mem := (accessedIn s d).mem, bus := (accessedIn s d).bus } :=
  State.store_rest s _ _

theorem accessedIn_sameBut (s : State) (d : Desc) : MemSameBut s (accessedIn s d) (d.marked s) := by
  intro q hq
  by_cases h : q = d.accessByte
  · subst h
    refine State.store_rom s _ _ fun hk => hq ?_
    rw [Desc.marked, if_pos hk]
    exact List.mem_singleton_self _
  · exact State.store_other s _ h

theorem State.setAccessed_eq_accessedIn (ha : Alone s) (d : Desc) : s.setAccessed d = accessedIn s d := by
  rw [State.setAccessed, State.others_alone ha]
  rfl

/-- One segment register has been loaded, from `v` to `w`, and with it the descriptors' Accessed bits set, from `n` to `t`. -/
structure Loads (r : SegReg) (n t v w : State) (ks : List Desc) : Prop where
  base : LoadedOver t w
  rest : w = ({ v with mem := w.mem, bus := w.bus } : State).setSeg r (w.seg r)
  alone : Alone w
  map : t.bus.map = n.bus.map
  same : MemSameBut n t (ks.flatMap fun d => d.marked n)

theorem loads_none (hv : LoadedOver n v) (ha : Alone v) (r : SegReg) : Loads r n n v v [] :=
  ⟨hv, (State.setSeg_seg v r).symm, ha, rfl, fun _ _ => rfl⟩

theorem loads_accessed (hv : LoadedOver n v) (ha : Alone v) (r : SegReg) (c : SegCache) (d : Desc) :
    Loads r n (accessedIn n d) v ((accessedIn v d).setSeg r c) [d] where
  base := (hv.accessedIn d).setSeg r c
  rest := by
    rw [accessedIn_rest v d]
    cases r <;> rfl
  alone := by
    have h := ha.store d.accessByte (v.look d.accessByte ||| 1)
    cases r <;> exact h
  map := State.store_map _ _ _
  same := by
    rw [List.flatMap_singleton]
    exact accessedIn_sameBut n d

theorem State.seg_setSeg (s : State) (r : SegReg) (c : SegCache) : (s.setSeg r c).seg r = c := by cases r <;> rfl

theorem State.seg_setSeg_other (s : State) {r q : SegReg} (h : q ≠ r) (c : SegCache) : (s.setSeg r c).seg q = s.seg q := by
  cases r <;> cases q <;> simp_all [State.setSeg, State.seg]

theorem Loads.seg_other (h : Loads r n t v w ks) (q : SegReg) (hq : q ≠ r := by decide) : w.seg q = v.seg q := by
  rw [h.rest, State.seg_setSeg_other _ hq]
  cases q <;> rfl

/-- Nothing but segment registers, memory and the bus tells `w` from `v`. -/
def SegmentsOnly (v w : State) : Prop := w = { v with mem := w.mem, bus := w.bus, ss := w.ss, cs := w.cs, ds := w.ds, es := w.es }

theorem SegmentsOnly.trans (h : SegmentsOnly u v) (k : SegmentsOnly v w) : SegmentsOnly u w := by
  unfold SegmentsOnly at *
  rw [k, h]

theorem SegmentsOnly.gpr (h : SegmentsOnly v w) : w.gpr = v.gpr := (congrArg State.gpr h :)

theorem SegmentsOnly.ip (h : SegmentsOnly v w) : w.ip = v.ip := (congrArg State.ip h :)

theorem SegmentsOnly.flags (h : SegmentsOnly v w) : w.flags = v.flags := (congrArg State.flags h :)

theorem SegmentsOnly.tr (h : SegmentsOnly v w) : w.tr = v.tr := (congrArg State.tr h :)

theorem SegmentsOnly.msw (h : SegmentsOnly v w) : w.msw = v.msw := (congrArg State.msw h :)

theorem SegmentsOnly.ldtr (h : SegmentsOnly v w) : w.ldtr = v.ldtr := (congrArg State.ldtr h :)

theorem Loads.segmentsOnly (h : Loads r n t v w ks) : SegmentsOnly v w := by
  unfold SegmentsOnly
  rw [h.rest]
  cases r <;> rfl

/-- The privilege level changes with CS alone. -/
theorem Loads.cpl (h : Loads r n t v w ks) (hr : r ≠ .cs) : w.cpl = v.cpl := by
  have hcs : w.cs = v.cs := h.seg_other .cs hr.symm
  rw [State.cpl, State.cpl, hcs, h.segmentsOnly.msw]

theorem Desc.marked_congr (h : t.bus.map = s.bus.map) (d : Desc) : d.marked t = d.marked s := by
  rw [Desc.marked, Desc.marked, State.kindAt, State.kindAt, h]

/-- Loads one after the other change memory where each does. -/
theorem MemSameBut.loads (h : MemSameBut s n (ks.flatMap fun d => d.marked s)) (hmap : n.bus.map = s.bus.map) {ks' : List Desc}
    (h' : MemSameBut n t (ks'.flatMap fun d => d.marked n)) : MemSameBut s t ((ks ++ ks').flatMap fun d => d.marked s) := by
  intro a ha
  rw [List.flatMap_append, List.mem_append, not_or] at ha
  simp only [Desc.marked_congr hmap] at h'
  rw [h' a ha.2, h a ha.1]

/-! ### The steps (R590, steps 10 to 14) -/

theorem fetchOr_ok (ha : Alone s) {x : Trap} (h : fetchOr s sel x = .ok (d, t)) : s.fetchDesc sel = some d ∧ t = s := by
  refine ⟨?_, (fetchOr_state h).trans (State.others_alone ha)⟩
  cases hd : s.fetchDesc sel with
  | none => rw [fetchOr_none hd] at h; exact nomatch h
  | some e =>
    rw [fetchOr_alone ha hd] at h
    cases h
    rfl

theorem not_null_of_require {x : Trap} (h : require (!nullSel sel) x = .ok ()) : 4 ≤ sel.toNat := by
  have hn := require_ok h
  rw [Bool.not_eq_true', nullSel, decide_eq_false_iff_not] at hn
  exact Nat.le_of_not_lt hn

/-- Step 10. -/
theorem switchLdt_ok (ha : Alone v) (hfetch : ∀ sel, selTi sel = false → v.fetchDesc sel = n.fetchDesc sel) {old : SysReg}
    (hold : v.ldtr = { old with sel := v.ldtr.sel, valid := false }) (h : switchLdt v ext = .ok w) :
    w = { v with ldtr := w.ldtr } ∧ w.ldtr.sel = v.ldtr.sel ∧ LdtSwitched n w.ldtr.sel old w.ldtr := by
  unfold switchLdt at h
  dsimp only at h
  split at h
  · next hnull =>
    cases h
    exact ⟨rfl, rfl, .inl ⟨of_decide_eq_true hnull, hold⟩⟩
  · next hnull =>
    obtain ⟨_, hti, h⟩ := bind_ok h
    obtain ⟨⟨d, v'⟩, hd, h⟩ := bind_ok h
    obtain ⟨_, hsys, h⟩ := bind_ok ((afterReads_ok_iff _ _ _).1 h)
    obtain ⟨_, hpr, h⟩ := bind_ok h
    obtain ⟨hd, rfl⟩ := fetchOr_ok ha hd
    have hgdt : selTi v'.ldtr.sel = false := Bool.not_eq_true' _ ▸ require_ok hti
    rw [hfetch _ hgdt] at hd
    cases h
    rw [nullSel, decide_eq_true_eq] at hnull
    refine ⟨rfl, rfl, .inr ⟨Nat.le_of_not_lt hnull, hgdt, d, hd, require_ok hsys, require_ok hpr, ?_⟩⟩
    rw [Desc.base_eq]
    rfl

/-- Step 12. -/
theorem switchSs_ok (hv : LoadedOver n v) (ha : Alone v) (h : switchSs v ext = .ok w) :
    ∃ k, StackAt n v.ss.sel k v.cpl ∧ w.ss = descriptorSeg v.ss.sel k ∧ Loads .ss n (accessedIn n k) v w [k] := by
  unfold switchSs at h
  dsimp only at h
  obtain ⟨_, hn, h⟩ := bind_ok h
  obtain ⟨⟨k, v'⟩, hk, h⟩ := bind_ok h
  obtain ⟨_, hrpl, h⟩ := bind_ok ((afterReads_ok_iff _ _ _).1 h)
  obtain ⟨_, hdpl, h⟩ := bind_ok h
  obtain ⟨_, hw, h⟩ := bind_ok h
  obtain ⟨_, hpr, h⟩ := bind_ok h
  obtain ⟨hk, rfl⟩ := fetchOr_ok ha hk
  rw [hv.fetchDesc] at hk
  cases h
  rw [State.setAccessed_eq_accessedIn ha]
  exact ⟨k, ⟨not_null_of_require hn, hk, require_ok hw, of_decide_eq_true (require_ok hrpl), of_decide_eq_true (require_ok hdpl),
    require_ok hpr⟩, Desc.cache_eq k _, loads_accessed hv ha .ss (k.cache v'.ss.sel) k⟩

/-- Step 13. -/
theorem switchCs_ok (hv : LoadedOver n v) (ha : Alone v) (h : switchCs v ext = .ok w) :
    ∃ c, 4 ≤ v.cs.sel.toNat ∧ n.fetchDesc v.cs.sel = some c ∧ CodeAt c v.cpl ∧ w.cs = descriptorSeg v.cs.sel c ∧
      Loads .cs n (accessedIn n c) v w [c] := by
  unfold switchCs at h
  dsimp only at h
  obtain ⟨_, hn, h⟩ := bind_ok h
  obtain ⟨⟨c, v'⟩, hc, h⟩ := bind_ok h
  obtain ⟨_, hcode, h⟩ := bind_ok ((afterReads_ok_iff _ _ _).1 h)
  obtain ⟨_, hsame, h⟩ := bind_ok h
  obtain ⟨_, hup, h⟩ := bind_ok h
  obtain ⟨_, hpr, h⟩ := bind_ok h
  obtain ⟨hc, rfl⟩ := fetchOr_ok ha hc
  rw [hv.fetchDesc] at hc
  have hlevel := (codeLevel_iff c.ar v'.cpl).1 ⟨require_ok hsame, require_ok hup⟩
  cases h
  rw [State.setAccessed_eq_accessedIn ha]
  exact ⟨c, not_null_of_require hn, hc, ⟨require_ok hcode, hlevel, require_ok hpr⟩, Desc.cache_eq c _,
    loads_accessed hv ha .cs (c.cache v'.cs.sel) c⟩

/-- Step 14, for DS and for ES. -/
theorem switchData_ok (hv : LoadedOver n v) (ha : Alone v) (hold : v.seg r = { old with sel := (v.seg r).sel, ar := 0 })
    (h : switchData v r ext = .ok w) :
    (w.seg r).sel = (v.seg r).sel ∧ ∃ t ks, DataSwitched v n t old (w.seg r) ks ∧ Loads r n t v w ks := by
  unfold switchData at h
  dsimp only at h
  split at h
  · next hnull =>
    cases h
    exact ⟨rfl, n, [], .inl ⟨of_decide_eq_true hnull, hold, rfl, rfl⟩, loads_none hv ha r⟩
  · next hnull =>
    obtain ⟨⟨k, v'⟩, hk, h⟩ := bind_ok h
    obtain ⟨_, hread, h⟩ := bind_ok ((afterReads_ok_iff _ _ _).1 h)
    obtain ⟨_, hpriv, h⟩ := bind_ok h
    obtain ⟨_, hpr, h⟩ := bind_ok h
    obtain ⟨hk, rfl⟩ := fetchOr_ok ha hk
    rw [hv.fetchDesc] at hk
    cases h
    rw [nullSel, decide_eq_true_eq] at hnull
    rw [State.setAccessed_eq_accessedIn ha, State.seg_setSeg]
    exact ⟨rfl, accessedIn n k, [k], .inr ⟨Nat.le_of_not_lt hnull, k, hk,
      ⟨require_ok hread, (dataPrivilege_iff _ _ _).1 (require_ok hpriv), require_ok hpr⟩, Desc.cache_eq k _, rfl, rfl⟩,
      loads_accessed hv ha r _ k⟩

/-! ### The incoming task (R590, steps 6 to 14) -/

/-- Steps 7 to 9: the words of the incoming TSS, with nobody coming between. -/
theorem loadTss_alone (ha : Alone m) (kind : SwitchKind) :
    loadTss m kind = m.withTss kind fun j => m.peek16 m.tr.base (14 + 2 * j) := by
  rw [loadTss, readWords_alone ha]
  rfl

theorem fetchDesc_withTss (hti : selTi sel = false) (f : Nat → Word) : (m.withTss kind f).fetchDesc sel = m.fetchDesc sel := by
  unfold State.fetchDesc
  rw [hti]
  rfl

/-- The segment registers that steps 12 to 14 load, each found in memory as the step before leaves it. -/
def SegmentsSwitched (m u : State) (ds es : SegCache) : Prop :=
  ∃ (k c : Desc) (kd ke : List Desc) (n1 n2 n3 n4 : State),
    StackAt { m with ldtr := u.ldtr } u.ss.sel k (rpl u.cs.sel) ∧ u.ss = descriptorSeg u.ss.sel k ∧
    n1 = accessedIn { m with ldtr := u.ldtr } k ∧
    4 ≤ u.cs.sel.toNat ∧ n1.fetchDesc u.cs.sel = some c ∧ CodeAt c (rpl u.cs.sel) ∧ u.cs = descriptorSeg u.cs.sel c ∧
    n2 = accessedIn n1 c ∧
    DataSwitched u n2 n3 ds u.ds kd ∧ DataSwitched u n3 n4 es u.es ke ∧
    u = { n4 with
      ip := u.ip, flags := u.flags, gpr := u.gpr, es := u.es, cs := u.cs, ss := u.ss, ds := u.ds, msw := u.msw } ∧
    MemSameBut m u ((k :: c :: (kd ++ ke)).flatMap fun d => d.marked m)

/-- The state `u` is `v` with its segment registers loaded, from the selectors they have in `v`. -/
structure SegmentsFrom (v u : State) : Prop where
  rest : SegmentsOnly v u
  ss : u.ss.sel = v.ss.sel
  cs : u.cs.sel = v.cs.sel
  ds : u.ds.sel = v.ds.sel
  es : u.es.sel = v.es.sel

theorem DataSwitched.congr {u' : State} {new : SegCache} (h : DataSwitched v n t old new ks) (hcpl : u'.cpl = v.cpl) :
    DataSwitched u' n t old new ks := by
  unfold DataSwitched DataLoadable at *
  rwa [hcpl]

/-- Steps 12 to 14. -/
theorem switchSegments_ok {v2 v3 v4 : State} (hv : LoadedOver { m with ldtr := v.ldtr } v) (ha : Alone v) (hp : v.msw.pe = true)
    {ds es : SegCache} (hds : v.ds = { ds with sel := v.ds.sel, ar := 0 }) (hes : v.es = { es with sel := v.es.sel, ar := 0 })
    (h2 : switchSs v ext = .ok v2) (h3 : switchCs v2 ext = .ok v3) (h4 : switchData v3 .ds ext = .ok v4)
    (h5 : switchData v4 .es ext = .ok u) : SegmentsFrom v u ∧ SegmentsSwitched m u ds es := by
  obtain ⟨k, hk, hss, l2⟩ := switchSs_ok hv ha h2
  obtain ⟨c, hn, hc, hcode, hcs, l3⟩ := switchCs_ok l2.base l2.alone h3
  have hds3 : v3.ds = v.ds := (l3.seg_other .ds).trans (l2.seg_other .ds)
  obtain ⟨hdsel, n3, kd, hd, l4⟩ := switchData_ok (r := .ds) l3.base l3.alone (hds3.symm ▸ hds) h4
  have hes4 : v4.es = v.es := (l4.seg_other .es).trans ((l3.seg_other .es).trans (l2.seg_other .es))
  obtain ⟨hesel, n4, ke, he, l5⟩ := switchData_ok (r := .es) l4.base l4.alone (hes4.symm ▸ hes) h5
  have hrest : SegmentsOnly v u := l2.segmentsOnly.trans (l3.segmentsOnly.trans (l4.segmentsOnly.trans l5.segmentsOnly))
  have hssu : u.ss = v2.ss := (l5.seg_other .ss).trans ((l4.seg_other .ss).trans (l3.seg_other .ss))
  have hcsu : u.cs = v3.cs := (l5.seg_other .cs).trans (l4.seg_other .cs)
  have hdsu : u.ds = v4.ds := l5.seg_other .ds
  have hcs2 : v2.cs = v.cs := l2.seg_other .cs
  have hsel : u.cs.sel = v2.cs.sel := by rw [hcsu, hcs]; rfl
  have hssel : u.ss.sel = v.ss.sel := by rw [hssu, hss]; rfl
  have hcplv : v.cpl = rpl u.cs.sel := by rw [State.cpl_protected hp, hsel, hcs2]
  have hcpl4 : u.cpl = v4.cpl := l5.cpl nofun
  have hcpl3 : u.cpl = v3.cpl := hcpl4.trans (l4.cpl nofun)
  have hmap1 : (accessedIn { m with ldtr := v.ldtr } k).bus.map = m.bus.map := l2.map
  have hmap2 := l3.map.trans hmap1
  have hsame1 : MemSameBut m _ ([k].flatMap fun d => d.marked m) := l2.same
  have hsame := ((hsame1.loads hmap1 l3.same).loads hmap2 l4.same).loads (l4.map.trans hmap2) l5.same
  refine ⟨⟨hrest, hssel, by rw [hsel, hcs2], ?_, ?_⟩,
    k, c, kd, ke, _, _, n3, n4, ?_, ?_, rfl, ?_, ?_, ?_, ?_, rfl, ?_, ?_, l5.base, ?_⟩
  · rw [hdsu, ← hds3]; exact hdsel
  · rw [← hes4]; exact hesel
  · rw [hrest.ldtr, hssel, ← hcplv]; exact hk
  · rw [hssel, hssu, hss]
  · rw [hsel]; exact hn
  · rw [hsel, hrest.ldtr]; exact hc
  · rw [← hcplv, ← l2.cpl nofun]; exact hcode
  · rw [hsel, hcsu, hcs]
  · rw [hdsu, hrest.ldtr]; exact hd.congr hcpl3
  · exact he.congr hcpl4
  · intro a ha
    rw [l5.base.mem]
    refine hsame a ?_
    simpa [List.append_assoc] using ha

/-- What the steps in the incoming task's context leave in `u`, `m` being the state the outgoing task's end leaves. -/
structure Entered (m u : State) (kind : SwitchKind) : Prop where
  limit : 43 ≤ m.tr.limit.toNat
  tr : u.tr = m.tr
  msw : u.msw = { m.msw with ts := true }
  ip : u.ip = m.peek16 m.tr.base 14
  flags : u.flags = imageFlags (m.peek16 m.tr.base 16) (switchNt kind ((m.peek16 m.tr.base 16).getLsbD 14))
  gpr : u.gpr = { ax := m.peek16 m.tr.base 18, cx := m.peek16 m.tr.base 20, dx := m.peek16 m.tr.base 22
                  bx := m.peek16 m.tr.base 24, sp := m.peek16 m.tr.base 26, bp := m.peek16 m.tr.base 28
                  si := m.peek16 m.tr.base 30, di := m.peek16 m.tr.base 32 }
  es : u.es.sel = m.peek16 m.tr.base 34
  cs : u.cs.sel = m.peek16 m.tr.base 36
  ss : u.ss.sel = m.peek16 m.tr.base 38
  ds : u.ds.sel = m.peek16 m.tr.base 40
  ldtr : u.ldtr.sel = m.peek16 m.tr.base 42
  ldt : LdtSwitched m u.ldtr.sel m.ldtr u.ldtr
  segments : SegmentsSwitched m u m.ds m.es

theorem enterTask_ok (ha : Alone m) (hp : m.msw.pe = true) (h : enterTask m kind ext = .ok u) : Entered m u kind := by
  unfold enterTask at h
  obtain ⟨_, hlim, h⟩ := bind_ok h
  obtain ⟨v, h1, h⟩ := bind_ok h
  obtain ⟨v2, h2, h⟩ := bind_ok h
  obtain ⟨v3, h3, h⟩ := bind_ok h
  obtain ⟨v4, h4, h5⟩ := bind_ok h
  replace h1 := failIn_ok h1
  rw [loadTss_alone ha] at h1
  obtain ⟨hv, hsel, hldt⟩ := switchLdt_ok (n := m) (old := m.ldtr) (v := m.withTss kind fun j => m.peek16 m.tr.base (14 + 2 * j))
    ha (fun _ hti => fetchDesc_withTss hti _) rfl h1
  have hover : LoadedOver { m with ldtr := v.ldtr } v := by
    generalize v.ldtr = l at hv ⊢
    subst hv
    rfl
  have hav : Alone v := by rw [hv]; exact ha
  have hpv : v.msw.pe = true := by rw [hv]; exact hp
  have hds : v.ds = { m.ds with sel := v.ds.sel, ar := 0 } := by rw [hv]; rfl
  have hes : v.es = { m.es with sel := v.es.sel, ar := 0 } := by rw [hv]; rfl
  obtain ⟨hseg, hswitched⟩ := switchSegments_ok hover hav hpv hds hes (failIn_ok h2) (failIn_ok h3) (failIn_ok h4) (failIn_ok h5)
  have hrest := hseg.rest
  exact {
    limit := of_decide_eq_true (require_ok (failIn_ok hlim))
    tr := hrest.tr.trans (congrArg State.tr hv :)
    msw := hrest.msw.trans (congrArg State.msw hv :)
    ip := hrest.ip.trans (congrArg State.ip hv :)
    flags := hrest.flags.trans (congrArg State.flags hv :)
    gpr := hrest.gpr.trans (congrArg State.gpr hv :)
    es := hseg.es.trans (congrArg (fun x : State => x.es.sel) hv :)
    cs := hseg.cs.trans (congrArg (fun x : State => x.cs.sel) hv :)
    ss := hseg.ss.trans (congrArg (fun x : State => x.ss.sel) hv :)
    ds := hseg.ds.trans (congrArg (fun x : State => x.ds.sel) hv :)
    ldtr := (congrArg (·.sel) hrest.ldtr).trans hsel
    ldt := hrest.ldtr.symm ▸ hldt
    segments := hswitched }

/-! ### JMP and CALL to a task (R570, R572, R587, R588) -/

theorem switchTo_of_ok (hu : switchTasks s sel b kind s.nextIp false = .ok u) (hip : u.ip.toNat ≤ u.cs.limit.toNat) :
    switchTo s sel b kind = .ok u := by
  rw [switchTo, hu]
  exact checkNewIp_of_ok hip false

/-- A TSS named directly. -/
theorem farTo_tss {code gate : Except Trap State} (hsys : isSys d.ar 1 = true) (hti : sel.getLsbD 2 = false)
    (hc : s.cpl ≤ dpl d.ar) (hr : rpl sel ≤ dpl d.ar) (hpr : present d.ar = true) (hu : switchTo s sel d kind = .ok u) :
    farTo s sel d code gate kind = .ok u := by
  have hgdt : selTi sel = false := hti
  have hcheck : tssTarget s sel d = .ok () := by
    rw [tssTarget, decide_eq_true hc, decide_eq_true hr, hsys, hgdt, hpr]
    rfl
  rw [farTo, isCode_of_isSys hsys, isSys_other hsys (by decide), isSys_other hsys (by decide), hsys, hcheck]
  exact hu

/-- A task gate, which names a TSS. -/
theorem farTo_taskGate {code gate : Except Trap State} (ha : Alone s) (hsys : isSys d.ar 5 = true)
    (hg : gateAccess s sel d.ar = .ok ()) (hti : d.w1.getLsbD 2 = false) (hn : 4 ≤ d.w1.toNat) (hb : s.fetchDesc d.w1 = some b)
    (hbs : isSys b.ar 1 = true) (hbp : present b.ar = true) (hu : switchTo s d.w1 b kind = .ok u) :
    farTo s sel d code gate kind = .ok u := by
  have hgdt : selTi d.w1 = false := hti
  have htarget : taskGateTarget s sel d = .ok (b, s) := by
    simp only [taskGateTarget, hg, Desc.gateSel, hgdt, nullSel_eq_false hn, fetchOr_alone ha hb, hbs, hbp, Bool.not_false,
      require_true, bind, Except.bind]
    rfl
  rw [farTo, isCode_of_isSys hsys, isSys_other hsys (by decide), hsys, htarget]
  exact hu

end

/-- Settles O54: a switch that completes has left one task (`leaveTask_rest`, `leaveTask_left`) and entered the other (`enterTask_ok`); a
far transfer to a TSS or a task gate is the switch (`farTo_tss`, `farTo_taskGate`). -/
theorem taskSwitch : Obligations.TaskSwitch := by
  unfold Obligations.TaskSwitch
  constructor
  · intro s u sel outIp b kind ext hw hp ha h
    obtain ⟨m, hleave, henter⟩ := bind_ok h
    obtain ⟨hv, hlim, hm⟩ := leaveTask_ok hleave
    obtain ⟨hrest, halone⟩ := leaveTask_rest ha hw hleave
    have hmsw : m.msw = s.msw := (congrArg State.msw hrest :)
    have e := enterTask_ok halone (hmsw ▸ hp) henter
    have htr : m.tr = { sel := sel, base := b.base, limit := b.w0, valid := true } := (congrArg State.tr hm :)
    have hbase : m.tr.base = b.base := (congrArg (·.base) htr :)
    have hip := e.ip
    have hgpr := e.gpr
    rw [hbase] at hip hgpr
    refine ⟨hv, hlim, ?limit, ?tr, ?msw, m, hleave, hrest, hip, ?flags, hgpr,
      hbase ▸ e.es, hbase ▸ e.cs, hbase ▸ e.ss, hbase ▸ e.ds, hbase ▸ e.ldtr, ?memory, ?ldt, ?segments⟩
    case limit => exact (congrArg (fun r : SysReg => 43 ≤ r.limit.toNat) htr).mp e.limit
    case tr => rw [e.tr, htr, Desc.base_eq]
    case msw => rw [e.msw, hmsw]
    case flags =>
      rw [e.flags, hbase]
      cases kind <;> rfl
    case memory =>
      intro hram hnd
      have hleft := leaveTask_left ha hw hleave hram hnd
      exact ⟨hleft.image, hleft.incoming, hleft.outgoing, hleft.link, hleft.same⟩
    case ldt =>
      have hldtr : m.ldtr = s.ldtr := (congrArg State.ldtr hrest :)
      exact hldtr ▸ e.ldt
    case segments =>
      have hds : m.ds = s.ds := (congrArg State.ds hrest :)
      have hes : m.es = s.es := (congrArg State.es hrest :)
      exact hds ▸ hes ▸ e.segments
  · intro i s u sel off t d b kind hl ha hp hn hd hc hr hpr htask hi hu hip
    have hto := switchTo_of_ok hu hip
    have hfar : ∀ code gate, farTo s sel d code gate kind = .ok u := fun code gate => by
      rcases htask with ⟨hsys, hti, rfl, rfl⟩ | ⟨hsys, rfl, hti, htn, hb, hbs, hbp⟩
      · exact farTo_tss hsys hti hc hr hpr hto
      · exact farTo_taskGate ha hsys (gateAccess_of_allowed hc hr hpr) hti htn hb hbs hbp hto
    rcases hi with ⟨hj, rfl⟩ | ⟨hcall, rfl⟩
    · rw [hj.exec_of_ok]
      exact runFar_of_ok hl ((farJump_eq_farTo hp ha hn hd off).trans (hfar _ _))
    · rw [hcall.exec_of_ok hp]
      exact runFar_of_ok hl ((farCall_eq_farTo hp ha hn hd off).trans (hfar _ _))

end Sys2Proof.Machine
end

section
/-! PROOF of O36: delivery in Real Address Mode. -/

namespace Sys2Proof.Machine

/-- Settles O36: `deliver_realEntry` says it of every event. -/
theorem realDelivery : Obligations.RealDelivery := by
  unfold Obligations.RealDelivery
  exact fun s v retIp code kind hm h => deliver_realEntry hm h retIp kind code

end Sys2Proof.Machine
end

section
/-! PROOF of O44 and O46: LGDT, LIDT, SGDT and SIDT, LMSW and CLTS.  The three words of a table register in memory are each a reference
of its own, and no two of them share a byte (`wordBytes_apart`), so each stands as it was written. -/

namespace Sys2Proof.Machine

section
variable {s u : State} {r : SegReg} {off off' : Word} {m : MemOp}

/-! ### A table register in memory (R611, R613) -/

/-- Words of a segment at offsets two apart, each inside the segment, share no byte. -/
theorem wordBytes_apart {k k' : Access} (h : Accessible s r off 2 k) (h' : Accessible s r off' 2 k')
    (hlt : 2 ≤ (off - off').toNat) (hlt' : 2 ≤ (off' - off).toNat) {a : Nat} (ha : a ∈ wordBytes s r off) :
    a ∉ wordBytes s r off' := by
  have hb := h.bound
  have hb' := h'.bound
  have hsub := BitVec.toNat_sub off off'
  have hsub' := BitVec.toNat_sub off' off
  have hne : ∀ j j', j < 2 → j' < 2 → (s.segAddr r off j).toNat ≠ (s.segAddr r off' j').toNat := fun j j' hj hj' =>
    State.segAddr_ne (by omega) (by omega) (by omega)
  simp only [wordBytes, List.mem_cons, List.not_mem_nil, or_false] at ha ⊢
  rcases ha with rfl | rfl
  · exact not_or.2 ⟨hne 0 0 (by decide) (by decide), hne 0 1 (by decide) (by decide)⟩
  · exact not_or.2 ⟨hne 1 0 (by decide) (by decide), hne 1 1 (by decide) (by decide)⟩

/-- The three words of a table register, each checked on its own. -/
structure TableOk (s : State) (m : MemOp) (k : Access) : Prop where
  limit : WordOk s (s.memSeg m) (s.effOffset m) k
  low : WordOk s (s.memSeg m) (s.effOffset m + 2) k
  high : WordOk s (s.memSeg m) (s.effOffset m + 4) k

theorem TableOk.checkTable {k : Access} (h : TableOk s m k) : checkTable s m k = .ok () :=
  (checkTable_iff s m k).2 ⟨h.limit.1, h.low.1, h.high.1⟩

/-- The base that two words hold: the second byte of the high word is ignored (R613). -/
theorem tableBase_eq (lo hi : Word) :
    (loByte hi ++ lo : BitVec (8 + 16)) = BitVec.ofNat 24 (65536 * (hi.toNat % 256) + lo.toNat) := by
  have hl := lo.isLt
  have e : (loByte hi ++ lo : BitVec (8 + 16)).toNat = 65536 * (hi.toNat % 256) + lo.toNat := by
    rw [BitVec.toNat_append, ← Nat.shiftLeft_add_eq_or_of_lt hl, Nat.shiftLeft_eq, loByte, BitVec.extractLsb'_toNat]
    simp only [Nat.shiftRight_zero]
    omega
  apply BitVec.eq_of_toNat_eq
  rw [e, BitVec.toNat_ofNat]
  omega

theorem loadTable_of_ok (h : TableOk s m .read) : loadTable m s = .ok ({
    limit := s.segWord (s.memSeg m) (s.effOffset m)
    base := BitVec.ofNat 24 (65536 * ((s.segWord (s.memSeg m) (s.effOffset m + 4)).toNat % 256) +
      (s.segWord (s.memSeg m) (s.effOffset m + 2)).toNat) }, s) := by
  have e : s.effOffset m + 0 = s.effOffset m := BitVec.add_zero _
  simp only [loadTable, h.checkTable, State.memWord, e, State.segGet16_memory h.limit.2, State.segGet16_memory h.low.2,
    State.segGet16_memory h.high.2, tableBase_eq, bind, Except.bind]

/-- `t` is `s` with another memory, in its canonical form. -/
structure MemoryOnly (s t : State) : Prop where
  rest : t = { s with mem := t.mem }
  wf : t.mem.wf = true

theorem MemoryOnly.with_mem (h : MemoryOnly s u) (m : Memory) : { u with mem := m } = { s with mem := m } :=
  congrArg (fun x : State => { x with mem := m }) h.rest

/-- One more word stored in plain memory: it stands there, and no byte but its two has changed. -/
theorem MemoryOnly.segPut16 (h : MemoryOnly s u) (hm : InMemory s r off 2 .write) (v : Word) :
    MemoryOnly s (u.segPut16 r off v) ∧ wordAfter s (u.segPut16 r off v) r off = v ∧
      MemSameBut u (u.segPut16 r off v) (wordBytes s r off) := by
  have hrest := h.rest
  have hwf := h.wf
  have hmu : InMemory u r off 2 .write := by rw [hrest]; exact hm
  have haddr : ∀ j, u.segAddr r off j = s.segAddr r off j := fun j => by rw [hrest]; rfl
  have hafter := State.segPut16_after hwf hmu v
  have hsame := State.segPut16_sameBut hmu.1 r off v
  simp only [wordAfter, wordBytes, haddr] at hafter hsame
  refine ⟨⟨?_, State.segPut16_wf hwf r off v⟩, hafter, hsame⟩
  rw [State.segPut16_ram hmu]
  exact h.with_mem _

theorem wordAfter_of_same {t : State} {as : List Nat} (h : MemSameBut u t as) (hn : ∀ a, a ∈ wordBytes s r off → a ∉ as) :
    wordAfter s t r off = wordAfter s u r off :=
  congrArg₂ mkWord (h _ (hn _ List.mem_cons_self)) (h _ (hn _ (List.mem_cons_of_mem _ List.mem_cons_self)))

/-- Three words stored in turn at a memory operand. -/
def tableStored (s : State) (m : MemOp) (w0 w1 w2 : Word) : State :=
  ((s.segPut16 (s.memSeg m) (s.effOffset m) w0).segPut16 (s.memSeg m) (s.effOffset m + 2) w1).segPut16 (s.memSeg m)
    (s.effOffset m + 4) w2

/-- The six bytes of a table register in memory. -/
def tableBytes (s : State) (m : MemOp) : List Nat :=
  wordBytes s (s.memSeg m) (s.effOffset m) ++ wordBytes s (s.memSeg m) (s.effOffset m + 2) ++
    wordBytes s (s.memSeg m) (s.effOffset m + 4)

/-- All three words stand, and no other byte has changed. -/
structure TableStored (s t : State) (m : MemOp) (w0 w1 w2 : Word) : Prop where
  only : MemoryOnly s t
  limit : wordAfter s t (s.memSeg m) (s.effOffset m) = w0
  low : wordAfter s t (s.memSeg m) (s.effOffset m + 2) = w1
  high : wordAfter s t (s.memSeg m) (s.effOffset m + 4) = w2
  same : MemSameBut s t (tableBytes s m)

theorem tableStored_of_ok (hw : s.mem.wf = true) (h : TableOk s m .write) (w0 w1 w2 : Word) :
    TableStored s (tableStored s m w0 w1 w2) m w0 w1 w2 := by
  have hself : MemoryOnly s s := ⟨rfl, hw⟩
  obtain ⟨ho1, ha1, hs1⟩ := hself.segPut16 h.limit.2 w0
  obtain ⟨ho2, ha2, hs2⟩ := ho1.segPut16 h.low.2 w1
  obtain ⟨ho3, ha3, hs3⟩ := ho2.segPut16 h.high.2 w2
  have h02 : ∀ a, a ∈ wordBytes s (s.memSeg m) (s.effOffset m) → a ∉ wordBytes s (s.memSeg m) (s.effOffset m + 2) :=
    fun _ => wordBytes_apart h.limit.1 h.low.1 (by bv_omega) (by bv_omega)
  have h04 : ∀ a, a ∈ wordBytes s (s.memSeg m) (s.effOffset m) → a ∉ wordBytes s (s.memSeg m) (s.effOffset m + 4) :=
    fun _ => wordBytes_apart h.limit.1 h.high.1 (by bv_omega) (by bv_omega)
  have h24 : ∀ a, a ∈ wordBytes s (s.memSeg m) (s.effOffset m + 2) → a ∉ wordBytes s (s.memSeg m) (s.effOffset m + 4) :=
    fun _ => wordBytes_apart h.low.1 h.high.1 (by bv_omega) (by bv_omega)
  refine ⟨ho3, ?_, ?_, ha3, fun a ha => ?_⟩
  · exact (wordAfter_of_same hs3 h04).trans ((wordAfter_of_same hs2 h02).trans ha1)
  · exact (wordAfter_of_same hs3 h24).trans ha2
  · simp only [tableBytes, List.mem_append, not_or] at ha
    obtain ⟨⟨h0, h2⟩, h4⟩ := ha
    exact (hs3 a h4).trans ((hs2 a h2).trans (hs1 a h0))

theorem storeTable_of_ok (h : TableOk s m .write) (t : TableReg) : storeTable m t s =
    .ok ((tableStored s m t.limit (t.base.setWidth 16) (mkWord (t.base.extractLsb' 16 8) (Config.freeByte s.freeCtr))).drew 1) := by
  rw [storeTable, h.checkTable]
  rfl

/-- The low byte of a word that two bytes make. -/
theorem mkWord_toNat_mod (lo hi : Byte) : (mkWord lo hi).toNat % 256 = lo.toNat := by
  have h := congrArg BitVec.toNat (loByte_mkWord lo hi)
  rw [loByte, BitVec.extractLsb'_toNat] at h
  simpa using h

theorem MemoryOnly.drew_retire (h : MemoryOnly s u) (n : Nat) :
    (u.drew n).retire = past { s with mem := u.mem, freeCtr := u.freeCtr + n } :=
  (congrArg (fun x : State => past { x with mem := u.mem, freeCtr := u.freeCtr + n }) h.rest :)

/-! ### The machine status word (R621) -/

theorem execLmsw_of_ok {e : Rm16} (hl : LockAllowed s) (hp : Privileged s) (he : Rm16Ok s e .read) :
    exec (.lmsw e) s = finishLmsw s (.ok (rm16Value s e, s)) := by
  show finishLmsw s (do lockGuard s; privilegeGuard s; loadRm16 s e .read) = _
  rw [lockGuard_of_allowed hl, privilegeGuard_of_privileged hp, loadRm16_of_ok he]
  rfl

/-- The switch to Protected Mode that U13 puts outside the specification. -/
def RefusedEntry (s : State) (v : Word) : Prop :=
  s.msw.pe = false ∧ v.getLsbD 0 = true ∧ s.cs.sel.extractLsb' 0 2 ≠ 0

theorem refusedEntry_iff (s : State) (v : Word) :
    (!s.msw.pe && v.getLsbD 0 && decide (rpl s.cs.sel ≠ 0)) = true ↔ RefusedEntry s v := by
  rw [Bool.and_eq_true, Bool.and_eq_true, Bool.not_eq_true', decide_eq_true_eq, and_assoc]
  rfl

theorem finishLmsw_of_allowed {v : Word} (h : ¬ RefusedEntry s v) : finishLmsw s (.ok (v, s)) = .next (s.loadMsw v).retire :=
  if_neg (mt (refusedEntry_iff s v).1 h)

theorem finishLmsw_of_refused {v : Word} (h : RefusedEntry s v) : finishLmsw s (.ok (v, s)) =
    if s.bus.reset = .quiet then .refused .protectedEntryWithNonzeroRpl else .next s.resetNow.retire :=
  if_pos ((refusedEntry_iff s v).2 h)

theorem State.loadMsw_eq (s : State) (v : Word) : s.loadMsw v = { s with
    msw := { pe := s.msw.pe || v.getLsbD 0, mp := v.getLsbD 1, em := v.getLsbD 2, ts := v.getLsbD 3 }
    lmsw := if s.msw.pe = false ∧ v.getLsbD 0 = true then .justSet else s.lmsw } := by
  have h : (!s.msw.pe && v.getLsbD 0) = true ↔ s.msw.pe = false ∧ v.getLsbD 0 = true := by
    rw [Bool.and_eq_true, Bool.not_eq_true']
  simp only [State.loadMsw, Msw.load, h]

end

/-- Settles O44: the words are `loadTable_of_ok` and `tableStored_of_ok`. -/
theorem descriptorTables : Obligations.DescriptorTables := by
  unfold Obligations.DescriptorTables
  constructor
  · rintro m s _ hl hp ⟨h0, h2⟩ h4 rfl
    have ht := loadTable_of_ok ⟨h0, h2, h4⟩
    constructor
    · refine runInstr_of_ok hl ?_
      rw [loadGdtr, privilegeGuard_of_privileged hp, ht]
      rfl
    · refine runInstr_of_ok hl ?_
      rw [loadIdtr, privilegeGuard_of_privileged hp, ht]
      rfl
  · intro i m s r hl hw h0 h2 h4 hi
    have hok : TableOk s m .write := ⟨h0, h2, h4⟩
    have hexec : exec i s = runInstr s (storeTable m r s) := by
      rcases hi with ⟨rfl, rfl⟩ | ⟨rfl, rfl⟩ <;> rfl
    have ht := tableStored_of_ok hw hok r.limit (r.base.setWidth 16) (mkWord (r.base.extractLsb' 16 8) (Config.freeByte s.freeCtr))
    have hnext := hexec.trans (runInstr_of_ok hl (storeTable_of_ok hok r))
    generalize tableStored s m _ _ _ = t at ht hnext
    refine ⟨_, hnext, ?_, ht.limit, ?_, ?_, ht.same⟩
    · exact ht.only.drew_retire 1
    · exact (congrArg BitVec.toNat ht.low).trans (BitVec.toNat_setWidth 16 r.base)
    · refine (congrArg (fun x : Word => x.toNat % 256) ht.high).trans ?_
      have := r.base.isLt
      rw [mkWord_toNat_mod, BitVec.extractLsb'_toNat, Nat.shiftRight_eq_div_pow]
      omega

/-- Settles O46: LMSW ends in `finishLmsw`, by whether the switch is one that U13 refuses. -/
theorem machineStatus : Obligations.MachineStatus := by
  unfold Obligations.MachineStatus
  constructor
  · rintro e s _ hl hp he rfl
    rw [execLmsw_of_ok hl hp he]
    refine ⟨fun h => ?_, fun hpe hv hcs => ?_⟩
    · have hallowed : ¬ RefusedEntry s (rm16Value s e) := by
        rintro ⟨hpe, hv, hcs⟩
        rcases h with h | h | h
        · exact Bool.false_ne_true (hpe.symm.trans h)
        · exact Bool.false_ne_true (h.symm.trans hv)
        · exact hcs h
      rw [finishLmsw_of_allowed hallowed, State.loadMsw_eq]
      rfl
    · rw [finishLmsw_of_refused ⟨hpe, hv, hcs⟩]
      exact ⟨fun hq => if_pos hq, fun hq => if_neg hq⟩
  · intro s hl hp
    refine runInstr_of_ok hl ?_
    rw [clearTs, privilegeGuard_of_privileged hp]
    rfl

end Sys2Proof.Machine
end

section
/-! PROOF of O45: SLDT and STR are stores of a selector; LLDT and LTR read one, which must name a present descriptor of one type in the
GDT (`gdtSystem`), and load what it says. -/

namespace Sys2Proof.Machine

section
variable {s t u : State} {e : Rm16} {i : Instr} {sel : Word} {d : Desc} {type : BitVec 4} {x : Trap}

/-! ### A system descriptor of the GDT (R616, R618) -/

/-- The checks that LLDT and LTR make alike of a selector that is not null, and what is loaded of a descriptor that passes them. -/
def gdtSystem (s : State) (sel : Word) (type : BitVec 4) (load : Desc → State → State) : Except Trap State := do
  require (!selTi sel) (trapGp sel)
  let (d, u) ← fetchOr s sel (trapGp sel)
  afterReads u do
    require (isSys d.ar type) (trapGp sel)
    require (present d.ar) (trapNp sel)
    .ok (load d u)

/-- LDTR or TR as a descriptor gives it. -/
def systemReg (sel : Word) (d : Desc) : SysReg := { sel := sel, base := d.base, limit := d.limit, valid := true }

theorem systemReg_eq (sel : Word) (d : Desc) : systemReg sel d =
    { sel := sel, base := BitVec.ofNat 24 (65536 * d.b4.toNat + d.w1.toNat), limit := d.w0, valid := true } := by
  rw [systemReg, Desc.base_eq]
  rfl

section
variable {load : Desc → State → State}

theorem gdtSystem_outside (h : sel.getLsbD 2 = true ∨ s.fetchDesc sel = none) :
    gdtSystem s sel type load = .error (trapGp sel) := by
  by_cases hti : selTi sel = true
  · rw [gdtSystem, hti]
    rfl
  · rw [gdtSystem, Bool.eq_false_iff.2 hti, fetchOr_none (h.resolve_left hti)]
    rfl

/-- A descriptor of the GDT is read, and its type and presence are looked at. -/
theorem gdtSystem_of_desc (ha : Alone s) (hti : sel.getLsbD 2 = false) (hd : s.fetchDesc sel = some d) :
    gdtSystem s sel type load = afterReads s (do
      require (isSys d.ar type) (trapGp sel)
      require (present d.ar) (trapNp sel)
      .ok (load d s)) := by
  have hgdt : selTi sel = false := hti
  rw [gdtSystem, hgdt, fetchOr_alone ha hd]
  rfl

theorem gdtSystem_misfit (ha : Alone s) (hti : sel.getLsbD 2 = false) (hd : s.fetchDesc sel = some d)
    (h : isSys d.ar type = false) : gdtSystem s sel type load = .error { trapGp sel with bus := some s.bus } := by
  rw [gdtSystem_of_desc ha hti hd, h]
  rfl

theorem gdtSystem_absent (ha : Alone s) (hti : sel.getLsbD 2 = false) (hd : s.fetchDesc sel = some d)
    (h : isSys d.ar type = true) (hp : present d.ar = false) :
    gdtSystem s sel type load = .error { trapNp sel with bus := some s.bus } := by
  rw [gdtSystem_of_desc ha hti hd, h, hp]
  rfl

theorem gdtSystem_of_ok (ha : Alone s) (hti : sel.getLsbD 2 = false) (hd : s.fetchDesc sel = some d)
    (h : isSys d.ar type = true) (hp : present d.ar = true) : gdtSystem s sel type load = .ok (load d s) := by
  rw [gdtSystem_of_desc ha hti hd, h, hp]
  rfl

end

/-- An exception after a read of plain memory is raised with nothing changed. -/
theorem runInstr_afterReads_error (hl : LockAllowed s) {r : Except Trap State} (hr : r = .error x)
    (hx : x.bus = none ∨ x.bus = some s.bus) :
    runInstr s (afterReads s r) = .next (raiseAt s { vector := x.vector, code := x.code }) := by
  rw [hr, ← raiseAt_getD_bus hx]
  exact runInstr_of_error hl rfl

/-! ### LLDT and LTR -/

theorem execLldt_of_ok (hp : s.msw.pe = true) (hpriv : Privileged s) (he : Rm16Ok s e .read) :
    exec (.lldt e) s = runInstr s (if nullSel (rm16Value s e) then
        .ok { s with ldtr := { s.ldtr with sel := rm16Value s e, valid := false } }
      else afterReads s (gdtSystem s (rm16Value s e) 2 fun d u => { u with ldtr := systemReg (rm16Value s e) d })) := by
  refine (runProtected_of_pe hp _).trans (congrArg (runInstr s) ?_)
  rw [loadLdtr, privilegeGuard_of_privileged hpriv, loadRm16_of_ok he]
  rfl

theorem execLtr_of_ok (hp : s.msw.pe = true) (hpriv : Privileged s) (he : Rm16Ok s e .read) :
    exec (.ltr e) s = runInstr s (afterReads s (do
      require (!nullSel (rm16Value s e)) trapGp0
      gdtSystem s (rm16Value s e) 1 fun d u => { u.setBusy (rm16Value s e) with tr := systemReg (rm16Value s e) d })) := by
  refine (runProtected_of_pe hp _).trans (congrArg (runInstr s) ?_)
  rw [loadTr, privilegeGuard_of_privileged hpriv, loadRm16_of_ok he]
  rfl

/-- What LLDT and LTR make of a descriptor of their type. -/
def systemLoad (sel : Word) (type : BitVec 4) (d : Desc) (u : State) : State :=
  if type = 2 then { u with ldtr := systemReg sel d } else { u.setBusy sel with tr := systemReg sel d }

/-- For a selector that is not null the two are one, but for the type they ask for. -/
theorem exec_gdtSystem (hp : s.msw.pe = true) (hpriv : Privileged s) (he : Rm16Ok s e .read)
    (hn : 4 ≤ (rm16Value s e).toNat) (hi : (i = .lldt e ∧ type = 2) ∨ (i = .ltr e ∧ type = 1)) :
    exec i s = runInstr s (afterReads s (gdtSystem s (rm16Value s e) type (systemLoad (rm16Value s e) type))) := by
  rcases hi with ⟨rfl, rfl⟩ | ⟨rfl, rfl⟩
  · rw [execLldt_of_ok hp hpriv he, nullSel_eq_false hn]
    rfl
  · rw [execLtr_of_ok hp hpriv he, nullSel_eq_false hn]
    rfl

/-! ### The Busy bit of a descriptor of the GDT (R618) -/

/-- A descriptor of the GDT stands where its selector says. -/
theorem fetchDesc_gdt_addr (hti : sel.getLsbD 2 = false) (hd : s.fetchDesc sel = some d) : d.addr = s.gdtEntry sel := by
  have hgdt : selTi sel = false := hti
  unfold State.fetchDesc at hd
  rw [hgdt] at hd
  dsimp only at hd
  rw [if_neg Bool.false_ne_true] at hd
  rw [Bool.false_and, if_neg Bool.false_ne_true] at hd
  by_cases hlim : s.gdtr.limit.toNat < 8 * selIndex sel + 7
  · rw [if_pos hlim] at hd
    exact nomatch hd
  · rw [if_neg hlim] at hd
    rw [← Option.some.inj hd]
    rfl

theorem State.setBusy_eq_store (hti : sel.getLsbD 2 = false) (hd : s.fetchDesc sel = some d) :
    s.setBusy sel = s.store d.accessByte (d.ar ||| 2) := by
  rw [fetchDesc_ar hd, Desc.accessByte, fetchDesc_gdt_addr hti hd]
  rfl

/-- A store to the access byte of a descriptor changes that byte of RAM, and nothing where there is no RAM (R754). -/
theorem store_marked (hw : s.mem.wf = true) (hm : d.InMemory s) (v : Byte) (ht : t.mem = (s.store d.accessByte v).mem) :
    Marked s t d v ∧ MemSameBut s t (d.marked s) := by
  obtain ⟨ha, hdev⟩ := hm
  unfold Marked MemSameBut Desc.marked
  rw [ht]
  refine ⟨fun hk => ?_, fun a hn => ?_⟩
  · rw [State.store_ram (State.dead_unreset ha.2) hk]
    exact Memory.read_write_same hw _ _
  · by_cases hk : s.kindAt d.accessByte = .ram
    · rw [if_pos hk, List.mem_singleton] at hn
      exact State.store_other s v hn
    · rw [State.store_dropped (by cases h : s.kindAt d.accessByte <;> simp_all)]

/-- LLDT loads what the descriptor says. -/
theorem execLldt_loads (hl : LockAllowed s) (hp : s.msw.pe = true) (hpriv : Privileged s) (he : Rm16Ok s e .read)
    (hn : 4 ≤ (rm16Value s e).toNat) (ha : Alone s) (hti : (rm16Value s e).getLsbD 2 = false)
    (hd : s.fetchDesc (rm16Value s e) = some d) (h : isSys d.ar 2 = true) (hpr : present d.ar = true) :
    exec (.lldt e) s = .next (past { s with ldtr := systemReg (rm16Value s e) d }) := by
  rw [exec_gdtSystem hp hpriv he hn (.inl ⟨rfl, rfl⟩), gdtSystem_of_ok ha hti hd h hpr]
  exact runInstr_of_ok hl rfl

/-- LTR loads what the descriptor says, and marks the TSS busy. -/
theorem execLtr_loads (hl : LockAllowed s) (hp : s.msw.pe = true) (hpriv : Privileged s) (he : Rm16Ok s e .read)
    (hn : 4 ≤ (rm16Value s e).toNat) (hw : s.mem.wf = true) (hm : d.InMemory s) (hti : (rm16Value s e).getLsbD 2 = false)
    (hd : s.fetchDesc (rm16Value s e) = some d) (h : isSys d.ar 1 = true) (hpr : present d.ar = true) :
    ∃ t, exec (.ltr e) s = .next t ∧ Marked s t d (d.ar ||| 2) ∧ MemSameBut s t (d.marked s) ∧
      t = past { s with mem := t.mem, tr := systemReg (rm16Value s e) d } := by
  rw [exec_gdtSystem hp hpriv he hn (.inr ⟨rfl, rfl⟩), gdtSystem_of_ok hm.1 hti hd h hpr]
  generalize rm16Value s e = sel at *
  have hbusy := State.setBusy_eq_store hti hd
  have hrest := State.store_of_not_device hm.2 (d.ar ||| 2)
  have hmem (t : State) (ht : t.mem = (s.setBusy sel).mem) := store_marked hw hm (d.ar ||| 2) (hbusy ▸ ht)
  rw [← hbusy] at hrest
  generalize (s.setBusy sel).mem = m at hrest hmem
  obtain ⟨hmark, hsame⟩ := hmem (past { s with mem := m, tr := systemReg sel d }) rfl
  refine ⟨_, runInstr_of_ok hl ?_, hmark, hsame, rfl⟩
  exact (congrArg (fun x : State => Except.ok (ε := Trap) { x with tr := systemReg sel d }) hrest :)

end

/-- Settles O45: SLDT and STR by `movToRm16_of_ok`, LLDT and LTR by the outcomes of `gdtSystem`. -/
theorem systemSegments : Obligations.SystemSegments := by
  unfold Obligations.SystemSegments
  refine ⟨?stores, fun e s hl hp hpriv he => ⟨fun hn => ?null, fun hn h => ?outside, ?fails, fun hn hti d hd => ?loads⟩⟩
  case stores =>
    intro i e v s hl hp hw he hi
    have hexec : exec i s = runInstr s (movToRm16 e v s) := by
      rcases hi with ⟨rfl, rfl⟩ | ⟨rfl, rfl⟩ <;> exact runProtected_of_pe hp _
    refine ⟨_, hexec.trans (runInstr_of_ok hl (movToRm16_of_ok he v)), ?_, ?_, ?_, storeRm16_wrote hw rfl he v⟩
    all_goals
      rw [storeRm16_plain he]
      rfl
  case null =>
    rw [execLldt_of_ok hp hpriv he, execLtr_of_ok hp hpriv he, nullSel_eq_true hn]
    exact ⟨runInstr_of_ok hl rfl, runInstr_afterReads_error (x := trapGp0) hl rfl (.inl rfl)⟩
  case outside =>
    rw [exec_gdtSystem hp hpriv he hn (.inl ⟨rfl, rfl⟩), exec_gdtSystem hp hpriv he hn (.inr ⟨rfl, rfl⟩), ← selCode_noExt]
    have fails (type : BitVec 4) (load : Desc → State → State) :=
      runInstr_afterReads_error hl (gdtSystem_outside (type := type) (load := load) h) (.inl rfl)
    exact ⟨fails 2 _, fails 1 _⟩
  case fails =>
    intro i d type hn hti hd ha hi
    rw [exec_gdtSystem hp hpriv he hn hi, ← selCode_noExt]
    refine ⟨fun h => ?_, fun h hpr => ?_⟩
    · have misfit := runInstr_afterReads_error (x := { trapGp (rm16Value s e) with bus := some s.bus }) hl
        (gdtSystem_misfit (load := systemLoad (rm16Value s e) type) ha hti hd h) (.inr rfl)
      exact misfit
    · have absent := runInstr_afterReads_error (x := { trapNp (rm16Value s e) with bus := some s.bus }) hl
        (gdtSystem_absent (load := systemLoad (rm16Value s e) type) ha hti hd h hpr) (.inr rfl)
      exact absent
  case loads =>
    rw [← systemReg_eq]
    exact ⟨fun ha h hpr => execLldt_loads hl hp hpriv he hn ha hti hd h hpr, fun h hpr hw hm =>
      execLtr_loads hl hp hpriv he hn hw hm hti hd h hpr⟩

end Sys2Proof.Machine
end

section
/-! PROOF of O47: ARPL, and the four selector tests, each of which is `selectorTest` with a condition on the descriptor and a result. -/

namespace Sys2Proof.Machine

section
variable {s t u : State} {e : Rm16} {i : Instr} {sel : Word} {d : Desc} {r : Reg16}

/-! ### ARPL (R625) -/

theorem rpl_toNat (sel : Word) : (rpl sel).toNat = sel.toNat % 4 := by
  rw [rpl, BitVec.extractLsb'_toNat, Nat.shiftRight_zero]

theorem adjustRpl_of_ok (he : Rm16Ok s e .write) (r : Reg16) : adjustRpl e r s =
    if (rm16Value s e).toNat % 4 < (s.reg16 r).toNat % 4 then
      .ok ((storeRm16 s e (BitVec.ofNat 16 ((rm16Value s e).toNat / 4 * 4 + (s.reg16 r).toNat % 4))).setZf true)
    else .ok (s.setZf false) := by
  simp only [adjustRpl, loadRm16_of_ok he, BitVec.lt_def, rpl_toNat, withRpl_eq_ofNat, decide_eq_true_eq, bind, Except.bind]

/-! ### Selector tests (R624, R626 to R629) -/

/-- A byte over 00H, as LAR loads it (R626). -/
theorem mkWord_zero (b : Byte) : mkWord 0 b = BitVec.ofNat 16 (256 * b.toNat) := by
  rw [← pair_eq_mkWord, pair, Nat.mod_eq_of_lt b.isLt]
  exact congrArg (BitVec.ofNat 16) (Nat.add_zero _)

theorem runProtected_selectorTest (hl : LockAllowed s) (hp : s.msw.pe = true) (he : Rm16Ok s e .read)
    (test : Word → State → State) :
    runProtected s (do let sel ← loadRm16 s e .read; .ok (test sel.1 sel.2)) = .next (test (rm16Value s e) s).retire := by
  rw [runProtected_of_pe hp, loadRm16_of_ok he]
  exact runInstr_of_ok hl rfl

/-- A selector test says of its operand whether `ok` holds of the descriptor, and leaves `result` where it does. -/
def TestsSelector (i : Instr) (s : State) (e : Rm16) (ok : Desc → Bool) (result : State → Desc → State) : Prop :=
  exec i s = .next (selectorTest s (rm16Value s e) ok result).retire

section
variable (hl : LockAllowed s) (hp : s.msw.pe = true) (he : Rm16Ok s e .read)
include hl hp he

theorem testsSelector_lar (r : Reg16) :
    TestsSelector (.lar r e) s e (visible s (rm16Value s e)) fun t d => t.setReg16 r (mkWord 0 d.ar) :=
  runProtected_selectorTest hl hp he fun sel u => selectorTest u sel (visible s sel) fun t d => t.setReg16 r (mkWord 0 d.ar)

theorem testsSelector_lsl (r : Reg16) :
    TestsSelector (.lsl r e) s e (fun d => hasLimit d.ar && visible s (rm16Value s e) d) fun t d => t.setReg16 r d.limit :=
  runProtected_selectorTest hl hp he fun sel u =>
    selectorTest u sel (fun d => hasLimit d.ar && visible s sel d) fun t d => t.setReg16 r d.limit

theorem testsSelector_verr :
    TestsSelector (.verr e) s e (fun d => readable d.ar && visible s (rm16Value s e) d) fun t _ => t :=
  runProtected_selectorTest hl hp he fun sel u => selectorTest u sel (fun d => readable d.ar && visible s sel d) fun t _ => t

theorem testsSelector_verw :
    TestsSelector (.verw e) s e (fun d => writable d.ar && visible s (rm16Value s e) d) fun t _ => t :=
  runProtected_selectorTest hl hp he fun sel u => selectorTest u sel (fun d => writable d.ar && visible s sel d) fun t _ => t

end

theorem visible_iff (s : State) (sel : Word) (d : Desc) :
    visible s sel d = true ↔ conforming d.ar = true ∨ (s.cpl ≤ dpl d.ar ∧ rpl sel ≤ dpl d.ar) := dataPrivilege_iff _ _ _

theorem hasLimit_iff (ar : Byte) :
    hasLimit ar = true ↔ isSeg ar = true ∨ isSys ar 1 = true ∨ isSys ar 2 = true ∨ isSys ar 3 = true := by
  simp only [hasLimit, Bool.or_eq_true, or_assoc]

section
variable {ok : Desc → Bool} {result : State → Desc → State}

/-- A selector that is null or outside its table clears ZF, and no bus cycle is made. -/
theorem selectorTest_unseen (h : sel.toNat < 4 ∨ s.fetchDesc sel = none) : selectorTest s sel ok result = s.setZf false := by
  have hlook : look s sel = none := by
    by_cases hn : nullSel sel = true
    · exact if_pos hn
    · have hd := h.resolve_left (mt nullSel_eq_true hn)
      have hn' : s.others.fetchDesc sel = none := by
        rw [fetchDesc_none_iff] at hd ⊢
        rwa [State.others_ldtr, State.others_gdtr]
      rw [look, if_neg hn, State.readTable, hn']
      rfl
  rw [selectorTest, hlook]

theorem look_of_desc (ha : Alone s) (hn : 4 ≤ sel.toNat) (hd : s.fetchDesc sel = some d) : look s sel = some (d, s) := by
  rw [look, nullSel_eq_false hn, if_neg Bool.false_ne_true, State.readTable, State.others_alone ha, hd]
  rfl

theorem selectorTest_of_ok (ha : Alone s) (hn : 4 ≤ sel.toNat) (hd : s.fetchDesc sel = some d) (h : ok d = true) :
    selectorTest s sel ok result = (result (s.touch d) d).setZf true := by
  rw [selectorTest, look_of_desc ha hn hd]
  exact if_pos h

theorem selectorTest_of_not_ok (ha : Alone s) (hn : 4 ≤ sel.toNat) (hd : s.fetchDesc sel = some d) (h : ¬ ok d = true) :
    selectorTest s sel ok result = s.setZf false := by
  rw [selectorTest, look_of_desc ha hn hd]
  exact if_neg h

end

/-- A test that succeeds marks a segment accessed, and no other descriptor (R624). -/
theorem State.touch_memory (hd : s.fetchDesc sel = some d) (hm : d.InMemory s) :
    s.touch d = { s with mem := (s.touch d).mem } := by
  unfold State.touch
  split
  · exact State.setAccessed_memory hd hm
  · rfl

theorem State.touch_segment (h : isSeg d.ar = true) : s.touch d = s.setAccessed d := if_pos h

theorem State.touch_system (h : isSeg d.ar = false) : s.touch d = s := by
  rw [State.touch, h]
  rfl

end

/-- Settles O47: ARPL by `adjustRpl_of_ok`; the tests by the outcomes of `selectorTest`. -/
theorem selectorTests : Obligations.SelectorTests := by
  unfold Obligations.SelectorTests
  refine ⟨fun e r s hl hp hw he => ⟨fun hlt => ?raises, fun hle => ?keeps⟩, ?unseen, ?seen⟩
  case raises =>
    have ht := (adjustRpl_of_ok he r).trans (if_pos hlt)
    refine ⟨_, (runProtected_of_pe hp _).trans (runInstr_of_ok hl ht), ?_, ?_, ?_, storeRm16_wrote hw rfl he _⟩
    all_goals
      rw [storeRm16_plain he]
      rfl
  case keeps =>
    exact (runProtected_of_pe hp _).trans (runInstr_of_ok hl ((adjustRpl_of_ok he r).trans (if_neg (Nat.not_lt.2 hle))))
  case unseen =>
    intro i r e s hl hp he hi h
    have htest : ∃ ok result, TestsSelector i s e ok result := by
      rcases hi with rfl | rfl | rfl | rfl
      · exact ⟨_, _, testsSelector_lar hl hp he r⟩
      · exact ⟨_, _, testsSelector_lsl hl hp he r⟩
      · exact ⟨_, _, testsSelector_verr hl hp he⟩
      · exact ⟨_, _, testsSelector_verw hl hp he⟩
    obtain ⟨ok, result, htest⟩ := htest
    rw [htest, selectorTest_unseen h]
    rfl
  case seen =>
    intro i r e s d fit g hl ha hp he hn hd hi
    have htest : ∃ ok result, TestsSelector i s e ok result ∧
        (ok d = true ↔ fit ∧ (conforming d.ar = true ∨ (s.cpl ≤ dpl d.ar ∧ rpl (rm16Value s e) ≤ dpl d.ar))) ∧
        ∀ m, result { s with mem := m } d = { s with mem := m, gpr := g } := by
      rcases hi with ⟨rfl, hfit, rfl⟩ | ⟨rfl, rfl, hfit⟩ | ⟨rfl, hfit, rfl⟩ | ⟨rfl, hfit, rfl⟩
      · refine ⟨_, _, testsSelector_lar hl hp he r, ?_, fun m => ?_⟩
        · rw [visible_iff, hfit, true_and]
        · show ({ s with mem := m } : State).setReg16 r (mkWord 0 d.ar) = _
          rw [mkWord_zero]
          rfl
      · refine ⟨_, _, testsSelector_lsl hl hp he r, ?_, fun m => rfl⟩
        rw [Bool.and_eq_true, visible_iff, hasLimit_iff, hfit]
      · refine ⟨_, _, testsSelector_verr hl hp he, ?_, fun m => rfl⟩
        rw [Bool.and_eq_true, visible_iff, hfit]
      · refine ⟨_, _, testsSelector_verw hl hp he, ?_, fun m => rfl⟩
        rw [Bool.and_eq_true, visible_iff, hfit]
    obtain ⟨ok, result, htest, hok, hresult⟩ := htest
    rw [htest]
    refine ⟨fun hf hv hw hm => ?_, fun hnot => ?_⟩
    · have htouch := State.touch_memory hd hm
      rw [selectorTest_of_ok ha hn hd (hok.2 ⟨hf, hv⟩), htouch, hresult]
      refine ⟨_, rfl, rfl, fun hseg => ?_, fun hsys => ?_⟩
      · exact State.setAccessed_accessedSet hd hw hm (congrArg State.mem (State.touch_segment (s := s) hseg) :)
      · exact (congrArg State.mem (State.touch_system (s := s) hsys) :)
    · rw [selectorTest_of_not_ok ha hn hd (mt hok.1 hnot)]
      rfl

end Sys2Proof.Machine
end

section
/-! PROOF of O49 and O50: delivery through a gate of the IDT.  A gate to the same level loads CS between its frame and the error code; as
the descriptor lies outside the frame, this is the same as pushing all of it once CS is loaded (`HasPushed.commitCs_first`), which is
what a gate to an inner level does. -/

namespace Sys2Proof.Machine

section
variable {s t u : State} {sel off nss nsp retIp code : Word} {c d g k : Desc} {v : Byte} {kind : EventKind} {err : Option Word}
  {ext : Bool}

/-! ### The gate (R664) -/

theorem hasErrorCode_iff (kind : EventKind) (v : Byte) :
    hasErrorCode kind v = true ↔ kind = .exception ∧ (v = 8 ∨ (10 ≤ v.toNat ∧ v.toNat ≤ 13)) := by
  simp only [hasErrorCode, Bool.and_eq_true, Bool.or_eq_true, decide_eq_true_eq]

/-- The error code that an event pushes, if any (R656). -/
def errorOf (kind : EventKind) (v : Byte) (code : Word) : Option Word := if hasErrorCode kind v then some code else none

theorem errorOf_toList (kind : EventKind) (v : Byte) (code : Word) : (errorOf kind v code).toList =
    if kind = .exception ∧ (v = 8 ∨ (10 ≤ v.toNat ∧ v.toNat ≤ 13)) then [code] else [] := by
  unfold errorOf
  by_cases h : hasErrorCode kind v = true
  · rw [if_pos h, if_pos ((hasErrorCode_iff kind v).1 h)]
    rfl
  · rw [if_neg h, if_neg (mt (hasErrorCode_iff kind v).2 h)]
    rfl

theorem errorOf_length_le (kind : EventKind) (v : Byte) (code : Word) : (errorOf kind v code).toList.length ≤ 1 := by
  rw [errorOf_toList]
  split
  · exact Nat.le_refl 1
  · exact Nat.zero_le 1

theorem extOf_eq_iff (h : ext = true ↔ kind = .external ∨ (kind = .exception ∧ (v = 7 ∨ v = 16))) : extOf kind v = ext := by
  rw [Bool.eq_iff_iff, h]
  cases kind <;> simp [extOf]

theorem attempt_protected (hp : s.msw.pe = true) (v : Byte) (retIp : Word) (kind : EventKind) (code : Word) (ext : Bool) :
    attempt s v retIp kind code ext = deliverProtected s v retIp kind (errorOf kind v code) ext := if_pos hp

/-- A present gate that the event may use is entered by its kind. -/
theorem deliverProtected_of_gate (ha : Alone s) (hg : GateOpen s v kind g)
    (hsys : (isSys g.ar 5 || isSys g.ar 6 || isSys g.ar 7) = true) (retIp : Word) (err : Option Word) (ext : Bool) :
    deliverProtected s v retIp kind err ext =
      if isSys g.ar 5 then intTaskGate s g retIp err ext else failIn s (intTrapGate s g retIp err ext) := by
  obtain ⟨hlim, rfl, hpr, hpriv⟩ := hg
  have hlevel : (!decide (kind = .software) || decide (s.cpl ≤ dpl (s.readDesc (s.idtr.base + BitVec.ofNat 24 (8 * v.toNat))).ar)) =
      true := by
    rw [Bool.or_eq_true, Bool.not_eq_true', decide_eq_false_iff_not, decide_eq_true_eq]
    exact Decidable.not_or_of_imp hpriv
  simp only [deliverProtected, decide_eq_true hlim, State.others_alone ha, hsys, hlevel, hpr, require_true, bind, Except.bind]
  rfl

/-- An attempt that succeeds is the delivery. -/
theorem deliver_of_gate (hp : s.msw.pe = true) (hl : s.bus.lock = .free) (hext : extOf kind v = ext)
    (h : deliverProtected s v retIp kind (errorOf kind v code) ext = .ok t) : deliver s v retIp kind code = t.entered := by
  apply deliver_of_ok
  rw [State.release_free hl, attempt_protected hp, hext, h]

theorem deliver_intTrapGate (hp : s.msw.pe = true) (hl : s.bus.lock = .free) (ha : Alone s) (hg : GateOpen s v kind g)
    (hsys : isSys g.ar 6 = true ∨ isSys g.ar 7 = true)
    (h : intTrapGate s g retIp (errorOf kind v code) (extOf kind v) = .ok t) : deliver s v retIp kind code = t.entered := by
  refine deliver_of_gate hp hl rfl ?_
  have htask : isSys g.ar 5 = false := hsys.elim (fun h => isSys_other h (by decide)) fun h => isSys_other h (by decide)
  rw [deliverProtected_of_gate ha hg, htask, h]
  · rfl
  · rw [htask, Bool.false_or, Bool.or_eq_true]
    exact hsys

/-! ### The handler's code segment (R578) -/

/-- The checks of the handler's segment, and the choice by its level. -/
theorem intTrapGate_of_desc (ha : Alone s) (hn : 4 ≤ g.w1.toNat) (hd : s.fetchDesc g.w1 = some c) (hcode : isCode c.ar = true)
    (hlevel : (!conforming c.ar || decide (dpl c.ar ≤ s.cpl)) = true) (hpr : present c.ar = true) (retIp : Word) (err : Option Word)
    (ext : Bool) : intTrapGate s g retIp err ext = afterReads s (do
      let t ←
        if !conforming c.ar && decide (dpl c.ar < s.cpl) then gateInnerLevel s g.w1 c g.w0 retIp err ext
        else if conforming c.ar || decide (dpl c.ar = s.cpl) then gateSameLevel s g.w1 c g.w0 retIp err ext
        else .error (trapSel 13 g.w1 ext)
      .ok { t with flags := t.flags.enterGate (isSys g.ar 6) }) := by
  simp only [intTrapGate, Desc.gateSel, nullSel_eq_false hn, fetchOr_alone ha hd, hcode, hpr, hlevel, Bool.not_false, require_true,
    bind, Except.bind]
  rfl

theorem intTrapGate_same (ha : Alone s) (hn : 4 ≤ g.w1.toNat) (hd : s.fetchDesc g.w1 = some c) (hc : CodeAt c s.cpl)
    (ht : gateSameLevel s g.w1 c g.w0 retIp err ext = .ok t) :
    intTrapGate s g retIp err ext = .ok { t with flags := t.flags.enterGate (isSys g.ar 6) } := by
  obtain ⟨hcode, hlevel, hpr⟩ := hc
  obtain ⟨hat, hup⟩ := (codeLevel_iff c.ar s.cpl).2 hlevel
  have hstay : (!conforming c.ar && decide (dpl c.ar < s.cpl)) = false := by
    cases hcf : conforming c.ar with
    | true => rfl
    | false =>
      rw [if_neg (Bool.eq_false_iff.1 hcf)] at hlevel
      exact decide_eq_false (hlevel ▸ BitVec.lt_irrefl _)
  have hle : (!conforming c.ar || decide (dpl c.ar ≤ s.cpl)) = true := hup
  rw [intTrapGate_of_desc ha hn hd hcode hle hpr, hstay, hat, ht]
  rfl

theorem intTrapGate_inner (ha : Alone s) (hn : 4 ≤ g.w1.toNat) (hd : s.fetchDesc g.w1 = some c) (hcode : isCode c.ar = true)
    (hcf : conforming c.ar = false) (hlevel : dpl c.ar < s.cpl) (hpr : present c.ar = true)
    (ht : gateInnerLevel s g.w1 c g.w0 retIp err ext = .ok t) :
    intTrapGate s g retIp err ext = .ok { t with flags := t.flags.enterGate (isSys g.ar 6) } := by
  rw [intTrapGate_of_desc ha hn hd hcode (by rw [hcf]; rfl) hpr, hcf, decide_eq_true hlevel, ht]
  rfl

/-- Words pushed after Accessed bits were set, outside the descriptors: words and bits stand. -/
theorem HasPushed.marked {x : State} {ws : List Word} {ar : Byte} (h : HasPushed x t ws)
    (hfar : c.accessByte ∉ pushedBytes x ws.length) (hm : Marked s x c ar) : Marked s t c ar := fun hk =>
  (h.pushed.2 _ hfar).trans (hm hk)

theorem HasPushed.sameBut {x : State} {ws : List Word} {l : List Nat} (h : HasPushed x t ws) (hm : MemSameBut s x l) :
    MemSameBut s t (l ++ pushedBytes x ws.length) := fun a ha => by
  rw [List.mem_append, not_or] at ha
  exact (h.pushed.2 a ha.2).trans (hm a ha.1)

/-! ### The same level -/

/-- An Accessed bit set in two memories that hold the same there. -/
theorem accessedMem_read_congr {m n : Memory} {a : Nat} (hm : m.wf = true) (hn : n.wf = true)
    (hbyte : m.read c.accessByte = n.read c.accessByte) (ha : m.read a = n.read a) :
    (accessedMem s m c).read a = (accessedMem s n c).read a := by
  by_cases h : a ∈ c.marked s
  · unfold Desc.marked at h
    split at h
    · next hk =>
      rw [List.mem_singleton.1 h, accessedMem_read_same hm hk, accessedMem_read_same hn hk, hbyte]
    · exact absurd h List.not_mem_nil
  · rw [accessedMem_read_other m h, accessedMem_read_other n h, ha]

/-- CS loaded after words are pushed is the words pushed after CS is loaded, where its descriptor lies apart from them. -/
theorem HasPushed.commitCs_first {ws : List Word} (hw : s.mem.wf = true) (h : HasPushed s t ws) (hm : c.InMemory s)
    (hfar : c.accessByte ∉ pushedBytes s ws.length) (sel off : Word) (l : BitVec 2) :
    HasPushed (Machine.commitCs s sel c off l) (Machine.commitCs t sel c off l) ws := by
  have hs := commitCs_codeSeg hm sel off l
  have ht := h.commitCs hm sel off l
  have hmems : (Machine.commitCs s sel c off l).mem = accessedMem s s.mem c := by rw [hs]
  have hmemt : (Machine.commitCs t sel c off l).mem = accessedMem s t.mem c := by rw [ht]
  have hbytes : pushedBytes (Machine.commitCs s sel c off l) ws.length = pushedBytes s ws.length := by
    rw [hs]
    exact pushedBytes_congr rfl fun _ _ => rfl
  have hword : ∀ j, pushedWord (Machine.commitCs s sel c off l) (Machine.commitCs t sel c off l) j =
      pushedWord s (Machine.commitCs t sel c off l) j := by
    rw [hs]
    exact fun _ => rfl
  refine ⟨?_, ?_, fun j hj => ?_, fun a ha => ?_⟩
  · rw [hmemt, ht, hs]
  · rw [hmemt]
    exact accessedMem_wf h.wf s c
  · rw [hword, ← h.pushed.1 j hj]
    refine pushedWord_congr hj fun a ha => ?_
    rw [hmemt, accessedMem_read_other _ (not_mem_marked (fun e => hfar (e ▸ ha)) s)]
  · rw [hbytes] at ha
    rw [hmems, hmemt]
    exact accessedMem_read_congr h.wf hw (h.pushed.2 _ hfar) (h.pushed.2 a ha)

/-- The frame of a gate to the same level, CS loaded between it and the error code. -/
theorem gateSameLevel_of_room (hw : s.mem.wf = true) (hm : c.InMemory s) (hlim : off.toNat ≤ c.w0.toNat)
    (hlen : err.toList.length ≤ 1) (hr : StackRoom s (3 + err.toList.length))
    (hfar : c.accessByte ∉ pushedBytes s (3 + err.toList.length)) :
    ∃ t, gateSameLevel s sel c off retIp err ext = .ok t ∧
      HasPushed (Machine.commitCs s sel c off s.cpl) t ([s.flags.toWord, s.cs.sel, retIp] ++ err.toList) := by
  obtain ⟨u, hu, hp⟩ := pushAll_of_room (ws := [s.flags.toWord, s.cs.sel, retIp]) hw (fun i hi => hr i (Nat.lt_add_right _ hi))
    (show 3 ≤ 0x8000 by decide)
  have hfirst := hp.commitCs_first hw hm (fun h => hfar (pushedBytes_subset s (Nat.le_add_right 3 _) h)) sel off s.cpl
  have hroom : StackRoom (Machine.commitCs s sel c off s.cpl) (3 + err.toList.length) := by
    rw [commitCs_codeSeg hm]
    exact hr
  obtain ⟨t, ht, htp⟩ := hfirst.pushAll (vs := err.toList) hroom (by simp only [List.length_cons, List.length_nil]; omega)
  refine ⟨t, ?_, htp⟩
  rw [gateSameLevel, hr.canPush, show decide (off.toNat ≤ c.limit.toNat) = true from decide_eq_true hlim, hu]
  exact ht

/-! ### An inner level -/

/-- Both segments are loaded before anything is pushed on the new stack. -/
theorem gateInnerLevel_of_room (hp : s.msw.pe = true) (hw : s.mem.wf = true) (hm : c.InMemory s) (hlim : off.toNat ≤ c.w0.toNat)
    (hlen : err.toList.length ≤ 1) (hr : InnerRoom s (dpl c.ar) nss nsp c k (5 + err.toList.length)) :
    ∃ t, gateInnerLevel s sel c off retIp err ext = .ok t ∧
      HasPushed (innerEntered s sel off nss nsp c k) t ([s.ss.sel, s.gpr.sp, s.flags.toWord, s.cs.sel, retIp] ++ err.toList) := by
  obtain ⟨hv, hl, hsp, hss, hk, hroom, hfits, hkm, -⟩ := hr
  obtain ⟨t, ht, htp⟩ := pushAll_of_room (s := innerEntered s sel off nss nsp c k)
    (ws := [s.ss.sel, s.gpr.sp, s.flags.toWord, s.cs.sel, retIp] ++ err.toList)
    (accessedMem_wf (accessedMem_wf hw s k) s c)
    (by rw [List.length_append]; exact hfits) (by rw [List.length_append]; simp only [List.length_cons, List.length_nil]; omega)
  have hfirst : 5 + err.toList.length = 4 + err.toList.length + 1 := by omega
  have hneed : 10 + 2 * err.toList.length = 2 * (4 + err.toList.length + 1) := by omega
  rw [hfirst] at hroom hfits
  refine ⟨t, ?_, htp⟩
  simp only [gateInnerLevel, innerStack_of_stackAt hm.1 hv hl hsp hss hk, hneed, hasRoom_of_stackRoom hp hroom hfits,
    show decide (off.toNat ≤ c.limit.toNat) = true from decide_eq_true hlim, commitCs_commitSs hm hkm, require_true, ht,
    bind, Except.bind]
  rfl

/-- The Accessed bits of both descriptors. -/
theorem innerEntered_marks {n : Nat} (hw : s.mem.wf = true) (hd : s.fetchDesc sel = some c) (hcode : isCode c.ar = true)
    (hr : InnerRoom s (dpl c.ar) nss nsp c k n) :
    Marked s (innerEntered s sel off nss nsp c k) c (c.ar ||| 1) ∧ Marked s (innerEntered s sel off nss nsp c k) k (k.ar ||| 1) ∧
      MemSameBut s (innerEntered s sel off nss nsp c k) (c.marked s ++ k.marked s) := by
  obtain ⟨-, -, -, -, ⟨-, hk, hdata, -⟩, -⟩ := hr
  obtain ⟨hmk, hmc, hsame⟩ := accessedMem_two (t := innerEntered s sel off nss nsp c k) hw hk hd
    (accessByte_ne hd hk hcode hdata).symm rfl
  exact ⟨hmc, hmk, fun a ha => hsame a (mt (fun h => (List.mem_append.1 h).elim (List.mem_append_right _) (List.mem_append_left _)) ha)⟩

/-! ### The task gate (R579) -/

theorem intTaskTarget_of_ok (ha : Alone s) (hti : sel.getLsbD 2 = false) (hn : 4 ≤ sel.toNat) (hd : s.fetchDesc sel = some d)
    (hb : isSys d.ar 1 = true) (hpr : present d.ar = true) (ext : Bool) : intTaskTarget s sel ext = .ok (d, s) := by
  have hgdt : selTi sel = false := hti
  simp only [intTaskTarget, hgdt, nullSel_eq_false hn, fetchOr_alone ha hd, hb, hpr, Bool.not_false, require_true, bind, Except.bind]
  rfl

/-- The switch, the error code on the incoming stack, and the incoming IP inside its segment. -/
theorem intTaskGate_of_ok (hw : s.mem.wf = true) (ha : Alone s) (hti : g.w1.getLsbD 2 = false) (hn : 4 ≤ g.w1.toNat)
    (hd : s.fetchDesc g.w1 = some d) (hb : isSys d.ar 1 = true) (hpr : present d.ar = true)
    (hu : switchTasks s g.w1 d .nest retIp ext = .ok u) (hip : u.ip.toNat ≤ u.cs.limit.toNat) (hlen : err.toList.length ≤ 1)
    (hr : StackRoom u err.toList.length) :
    ∃ t, intTaskGate s g retIp err ext = .ok t ∧ HasPushed u t err.toList := by
  have hwf : u.mem.wf = true := by
    have h := switchTasks_within (Within.refl s) g.w1 d .nest retIp ext
    rw [hu] at h
    exact (h.1 u rfl).2.1 hw
  obtain ⟨t, ht, hp⟩ := pushAll_of_room hwf hr (Nat.le_trans hlen (by decide))
  have hnew : checkNewIp t ext = .ok t := checkNewIp_of_ok (by rw [hp.rest]; exact hip) ext
  refine ⟨t, ?_, hp⟩
  simp only [intTaskGate, Desc.gateSel, intTaskTarget_of_ok ha hti hn hd hb hpr, failIn, hu, hr.canPush, ht, hnew, require_true,
    bind, Except.bind]

end

/-- Settles O49: the gate's segment is of the current level. -/
theorem gateDelivery : Obligations.GateDelivery := by
  unfold Obligations.GateDelivery
  intro s v retIp code kind g c err hp hw hl hg hsys hn hd hc hm hlim herr hr hfar
  obtain rfl := herr.trans (errorOf_toList kind v code).symm
  obtain ⟨t, ht, hpush⟩ := gateSameLevel_of_room (sel := g.w1) (retIp := retIp) (ext := extOf kind v) hw hm hlim
    (errorOf_length_le kind v code) hr hfar
  have hdel := deliver_intTrapGate hp hl hm.1 hg hsys (intTrapGate_same hm.1 hn hd hc ht)
  have hlen : ([s.flags.toWord, s.cs.sel, retIp] ++ (errorOf kind v code).toList).length = 3 + (errorOf kind v code).toList.length :=
    List.length_append
  have hbytes : pushedBytes (commitCs s g.w1 c g.w0 s.cpl) (3 + (errorOf kind v code).toList.length) =
      pushedBytes s (3 + (errorOf kind v code).toList.length) := by
    rw [commitCs_codeSeg hm]
    exact pushedBytes_congr rfl fun _ _ => rfl
  obtain ⟨hmark, hsame⟩ := accessedSet_of_mem (t := commitCs s g.w1 c g.w0 s.cpl) hw hd (by rw [commitCs_codeSeg hm])
  have hmark' := hpush.marked (by rwa [hlen, hbytes]) hmark
  have hsame' := hpush.sameBut hsame
  rw [hlen, hbytes] at hsame'
  have hwords := hpush.pushed.1
  have hrest := hpush.rest
  rw [hlen, commitCs_codeSeg hm] at hrest
  rw [Flags.toWord_eq_flagWord, commitCs_codeSeg hm] at hwords
  refine ⟨_, hdel, ?_, hwords, hmark', hsame'⟩
  exact (congrArg (fun x : State => State.entered { x with flags := x.flags.enterGate (isSys g.ar 6) }) hrest :)

/-- Settles O50: the gate's segment is of an inner level; or the gate is a task gate. -/
theorem innerDelivery : Obligations.InnerDelivery := by
  unfold Obligations.InnerDelivery
  refine ⟨?inner, ?task⟩
  case inner =>
    intro s v retIp code nsp nss kind g c k err hp hw hl hg hsys hn hd hcode hcf hlevel hpr hm hlim herr hr
    obtain rfl := herr.trans (errorOf_toList kind v code).symm
    obtain ⟨t, ht, hpush⟩ := gateInnerLevel_of_room (sel := g.w1) (retIp := retIp) (ext := extOf kind v) hp hw hm hlim
      (errorOf_length_le kind v code) hr
    have hdel := deliver_intTrapGate hp hl hm.1 hg hsys (intTrapGate_inner hm.1 hn hd hcode hcf hlevel hpr ht)
    have hlen : ([s.ss.sel, s.gpr.sp, s.flags.toWord, s.cs.sel, retIp] ++ (errorOf kind v code).toList).length =
        5 + (errorOf kind v code).toList.length := List.length_append
    obtain ⟨hmark, hmarkk, hsame⟩ := innerEntered_marks (sel := g.w1) (off := g.w0) (nsp := nsp) hw hd hcode hr
    obtain ⟨-, -, -, -, -, -, -, -, hapart⟩ := hr
    have hmark' := hpush.marked (by rw [hlen, pushedBytes_innerEntered]; exact fun h => (hapart _ h).1 rfl) hmark
    have hmarkk' := hpush.marked (by rw [hlen, pushedBytes_innerEntered]; exact fun h => (hapart _ h).2 rfl) hmarkk
    have hsame' := hpush.sameBut hsame
    rw [hlen, pushedBytes_innerEntered] at hsame'
    have hwords := hpush.pushed.1
    have hrest := hpush.rest
    rw [hlen] at hrest
    rw [Flags.toWord_eq_flagWord] at hwords
    refine ⟨_, hdel, ?_, hwords, hmark', hmarkk', hsame'⟩
    exact (congrArg (fun x : State => State.entered { x with flags := x.flags.enterGate (isSys g.ar 6) }) hrest :)
  case task =>
    intro s u v retIp code kind g b err ext hp hw hl ha hg hsys hti hn hd hb hpr hext hu hip herr hr
    obtain rfl := herr.trans (errorOf_toList kind v code).symm
    obtain ⟨t, ht, hpush⟩ := intTaskGate_of_ok (g := g) hw ha hti hn hd hb hpr hu hip (errorOf_length_le kind v code) hr
    refine ⟨_, deliver_of_gate hp hl (extOf_eq_iff hext) ((deliverProtected_of_gate ha hg (by rw [hsys]; rfl) _ _ _).trans ?_), ?_,
      hpush.pushed⟩
    · rw [hsys]
      exact ht
    · exact congrArg State.entered hpush.rest

end Sys2Proof.Machine
end

section
/-! PROOF of O55: shutdown.  In Real Address Mode an attempt whose vector lies outside the table fails with the state as it was, and so
does the attempt at interrupt 8 that answers it. -/

namespace Sys2Proof.Machine

section
variable {s t : State} {v : Byte}

/-! ### Into shutdown (R663, R693) -/

/-- A vector outside the table ends the attempt before anything is written. -/
theorem attempt_beyond (hp : s.msw.pe = false) (h : s.idtr.limit.toNat < 4 * v.toNat + 3) (retIp : Word) (kind : EventKind)
    (code : Word) (ext : Bool) :
    attempt s v retIp kind code ext = .error { trap := { vector := 8 }, st := s, ip := s.ip } := by
  rw [attempt, hp, if_neg Bool.false_ne_true, deliverReal, decide_eq_false (Nat.not_le.2 h)]
  rfl

theorem deliverDouble_beyond (hp : s.msw.pe = false) (h : s.idtr.limit.toNat < 35) (retIp : Word) (ext : Bool) :
    deliverDouble s retIp ext = s.shutDown := by
  rw [deliverDouble, attempt_beyond (v := 8) hp h]

/-- Interrupt 8 met in a delivery has no vector either. -/
theorem deliverFault_beyond (hp : s.msw.pe = false) (h : s.idtr.limit.toNat < 35) (retIp : Word) (ext : Bool) :
    deliverFault { trap := { vector := 8 }, st := s, ip := retIp } ext = s.shutDown := by
  unfold deliverFault
  dsimp only
  rw [attempt_beyond (v := 8) hp h]
  rfl

theorem deliver_beyond (hp : s.msw.pe = false) (hl : s.bus.lock = .free) (h8 : s.idtr.limit.toNat < 35)
    (h : s.idtr.limit.toNat < 4 * v.toNat + 3) (retIp code : Word) (kind : EventKind) :
    deliver s v retIp kind code = if kind = .exception ∧ v = 8 then s.shutDown else s.noStep.shutDown := by
  unfold deliver
  dsimp only
  rw [State.release_free hl, attempt_beyond hp h]
  dsimp only
  split
  · rfl
  · split
    · exact deliverDouble_beyond (s := s.noStep) hp h8 s.ip _
    · exact deliverFault_beyond (s := s.noStep) hp h8 s.ip _

/-! ### Shutdown, and out of it (R695) -/

theorem step_of_shutdown (hr : s.run = .shutdown) (hi : s.inputs = []) : step s = .next (leaveShutdown s) := by
  rw [step_of_no_input hi, runStep, hr]

theorem leaveShutdown_of_none (h : s.nmiPending = false ∨ s.nmiMasked = true) : leaveShutdown s = s := by
  refine if_neg ?_
  rw [Bool.and_eq_true, Bool.not_eq_true']
  rintro ⟨hpend, hmask⟩
  exact h.elim (fun h => Bool.false_ne_true (h.symm.trans hpend)) fun h => Bool.false_ne_true (hmask.symm.trans h)

/-- An NMI recognised: it is masked from then on. -/
def State.maskNmi (s : State) : State := { s with nmiPending := false, nmiMasked := true }

/-- Where an attempt to leave shutdown ends: in the handler, or shut down again. -/
def wakened : Except Failure State → State
  | .ok t => t.entered
  | .error f => f.st.shutDown

theorem leaveShutdown_of_nmi (hpend : s.nmiPending = true) (hmask : s.nmiMasked = false) : leaveShutdown s =
    wakened (attempt s.maskNmi 2 s.ip .external 0 true) := by
  have hopen : (s.nmiPending && !s.nmiMasked) = true := by
    rw [hpend, hmask]
    rfl
  rw [leaveShutdown, if_pos hopen]
  rfl

/-- The NMI of a machine that is shut down is taken by one attempt. -/
theorem step_of_shutdown_nmi (hr : s.run = .shutdown) (hi : s.inputs = []) (hpend : s.nmiPending = true)
    (hmask : s.nmiMasked = false) : step s = .next (wakened (attempt s.maskNmi 2 s.ip .external 0 true)) := by
  rw [step_of_shutdown hr hi, leaveShutdown_of_nmi hpend hmask]

end

/-- Settles O55: into shutdown by `deliver_beyond`, out of it by the one attempt of `step_of_shutdown_nmi`. -/
theorem shutdown : Obligations.Shutdown := by
  unfold Obligations.Shutdown
  refine ⟨?into, fun s hr hi h => ?stays, ?nmi⟩
  case into =>
    intro s v retIp code kind hp hl h8 h
    rw [deliver_beyond hp hl h8 h]
    split <;> rfl
  case stays => rw [step_of_shutdown hr hi, leaveShutdown_of_none h]
  case nmi =>
    rintro s _ hr hi hpend hmask rfl
    have hstep := step_of_shutdown_nmi hr hi hpend hmask
    refine ⟨fun hw hok => ?_, fun t ht => ?_, fun f hf => ?_, fun hp hlim => ?_⟩
    · obtain ⟨t, ht, he⟩ := deliverReal_of_ok (s := s.maskNmi) hw hok s.ip
      have hat : attempt s.maskNmi 2 s.ip .external 0 true = .ok t := by
        rw [attempt, show s.maskNmi.msw.pe = false from hok.1]
        exact ht
      rw [hat] at hstep
      exact ⟨t.entered, hstep, rfl, he⟩
    · rw [hstep, show attempt s.maskNmi 2 s.ip .external 0 true = _ from ht]
      rfl
    · rw [hstep, show attempt s.maskNmi 2 s.ip .external 0 true = _ from hf]
      exact ⟨f.st.shutDown, rfl, rfl, rfl, rfl, rfl, rfl, rfl, rfl⟩
    · rw [hstep, attempt_beyond (s := s.maskNmi) (v := 2) hp hlim]
      simp only [wakened, State.shutDown, State.missJump, State.maskNmi, hr]

end Sys2Proof.Machine
end

section
/-! SUPPORT. The events of a boundary one by one: when each is taken, and what the row of them comes to (60_exceptions.md R653). -/

namespace Sys2Proof.Machine

section
variable {s t u : State} {v : Byte}

/-- Interrupt 9 recognised. -/
def State.ackInt9 (s : State) : State := { s with int9Pending := false }

theorem takeNmi_taken (hpend : s.nmiPending = true) (hmask : s.nmiMasked = false) (hr : s.run ≠ .shutdown) :
    takeNmi s = deliver s.maskNmi 2 s.ip .external 0 := by
  refine if_pos ?_
  rw [hpend, hmask, decide_eq_true hr]
  rfl

theorem takeNmi_of_held (h : s.nmiPending = false ∨ s.nmiMasked = true) : takeNmi s = s := by
  rcases h with h | h
  · exact takeNmi_of_none h
  · simp [takeNmi, h]

theorem takeInt9_taken (hpend : s.int9Pending = true) (hmask : s.nmiMasked = false) (hr : s.run ≠ .shutdown) :
    takeInt9 s = deliver s.ackInt9 9 s.ip .external 0 := by
  refine if_pos ?_
  rw [hpend, hmask, decide_eq_true hr]
  rfl

theorem takeInt9_of_held (h : s.int9Pending = false ∨ s.nmiMasked = true) : takeInt9 s = s := by
  rcases h with h | h
  · exact takeInt9_of_none h
  · simp [takeInt9, h]

theorem intrTaken_of_none (h : s.pins.intr = none) : intrTaken s = s := by
  simp only [intrTaken, h]

/-- The model's order 5 is the last event of the row. -/
theorem takeIntr_eq (s : State) : takeIntr s = intrTaken s := by
  cases hv : s.pins.intr with
  | none => rw [takeIntr_of_none hv, intrTaken_of_none hv]
  | some v => simp only [takeIntr, intrTaken, hv, Bool.and_eq_true, Bool.not_eq_true', decide_eq_true_eq, and_assoc]

theorem intrTaken_of_held (h : s.flags.ie = false ∨ s.stiShadow = true) : intrTaken s = s := by
  unfold intrTaken
  split
  · rfl
  · refine if_neg ?_
    rintro ⟨hie, hsti, -⟩
    exact h.elim (fun h => Bool.false_ne_true (h.symm.trans hie)) fun h => Bool.false_ne_true (hsti.symm.trans h)

theorem intrTaken_taken (h : s.pins.intr = some v) (hie : s.flags.ie = true) (hsti : s.stiShadow = false) (hr : s.run ≠ .shutdown)
    (hd : s.dead = false) :
    intrTaken s = deliver { s with pins := { s.pins with intr := none } } v s.ip .external 0 := by
  simp only [intrTaken, h, hie, hsti, hd, ne_eq, hr, not_false_eq_true, and_self, if_true]

/-- An NMI taken masks itself and interrupt 9. -/
theorem takeExternal_nmi (hpend : s.nmiPending = true) (hmask : s.nmiMasked = false) (hr : s.run ≠ .shutdown) :
    takeExternal s = intrTaken (deliver s.maskNmi 2 s.ip .external 0) := by
  have hmasked : (deliver s.maskNmi 2 s.ip .external 0).nmiMasked = true := deliver_nmiMasked ..
  rw [takeExternal, takeNmi_taken hpend hmask hr, takeInt9_of_held (.inr hmasked), takeIntr_eq]

theorem takeExternal_int9 (h : s.nmiPending = false ∨ s.nmiMasked = true) (hpend : s.int9Pending = true) (hmask : s.nmiMasked = false)
    (hr : s.run ≠ .shutdown) : takeExternal s = intrTaken (deliver s.ackInt9 9 s.ip .external 0) := by
  rw [takeExternal, takeNmi_of_held h, takeInt9_taken hpend hmask hr, takeIntr_eq]

theorem takeExternal_intr (h : s.nmiPending = false ∨ s.nmiMasked = true) (h9 : s.int9Pending = false ∨ s.nmiMasked = true) :
    takeExternal s = intrTaken s := by
  rw [takeExternal, takeNmi_of_held h, takeInt9_of_held h9, takeIntr_eq]

/-- Shut down, the machine takes none of them at a boundary. -/
theorem takeExternal_shutdown (hr : s.run = .shutdown) : takeExternal s = s := by
  have hn : takeNmi s = s := by simp [takeNmi, hr]
  have h9 : takeInt9 s = s := by simp [takeInt9, hr]
  rw [takeExternal, hn, h9, takeIntr_eq, intrTaken]
  simp only [hr, ne_eq, not_true_eq_false, false_and, and_false, if_false]
  split <;> rfl

/-- An instruction has ended: no shadow of an STI is left. -/
def State.endShadow (s : State) : State := { s with stiShadow := false }

section
variable (before : Memory) (hs : s = (u.noteStores before).endLock) (hp : u.pfx.count = 0) (hr : u.run = .running)
  (hm : u.lmsw = .clear)
include hs hp hr hm

/-- The end of an instruction, as its events. -/
theorem endInstr_eq_events :
    endInstr before u = (if s.inhibitNext = true then s else takeExternal (singleStep s)).endShadow := by
  subst hs
  have hb := (u.noteStores before).endLock_onBus
  rw [endInstr_of_boundary before hp, State.flagHazard_of_clear (hb.lmsw.trans hm), boundaryEvents, hb.run.trans hr]
  rfl

theorem endInstr_of_inhibit (hi : s.inhibitNext = true) : endInstr before u = s.endShadow :=
  (endInstr_eq_events before hs hp hr hm).trans (congrArg State.endShadow (if_pos hi))

theorem endInstr_of_events (hi : s.inhibitNext = false) : endInstr before u = (takeExternal (singleStep s)).endShadow :=
  (endInstr_eq_events before hs hp hr hm).trans (congrArg State.endShadow (if_neg (Bool.eq_false_iff.1 hi)))

end

theorem singleStep_of_latched (h : s.tfAtStart = true) : singleStep s = deliver s 1 s.ip .external 0 := if_pos h

/-- The single-step trap, as a choice. -/
theorem singleStep_eq (s : State) : singleStep s = if s.tfAtStart = true then deliver s 1 s.ip .external 0 else s := rfl

theorem singleStep_nmiPending (s : State) : (singleStep s).nmiPending = s.nmiPending := by
  unfold singleStep
  split
  · exact deliver_nmiPending ..
  · rfl

theorem singleStep_nmiMasked (s : State) : (singleStep s).nmiMasked = s.nmiMasked := by
  unfold singleStep
  split
  · exact deliver_nmiMasked ..
  · rfl

theorem singleStep_int9Pending (s : State) : (singleStep s).int9Pending = s.int9Pending := by
  unfold singleStep
  split
  · exact deliver_int9Pending ..
  · rfl

theorem step_of_halted (hr : s.run = .halted) (hi : s.inputs = []) : step s = .next (takeExternal s) := by
  rw [step_of_no_input hi, runStep, hr]

end

/-- An NMI that wakes a halted machine in Real Address Mode: its handler runs, and no INTR comes after it. -/
theorem step_of_halted_realNmi {s : State} (hr : s.run = .halted) (hi : s.inputs = []) (hn : s.nmiPending = true)
    (hk : s.nmiMasked = false) (hw : s.mem.wf = true) (hok : RealEntryOk s 2) :
    ∃ t, step s = .next t ∧ t.run = .running ∧ RealEntry s.maskNmi t 2 s.ip := by
  have hentry := deliver_realEntry (s := s.maskNmi) hw hok s.ip .external 0
  refine ⟨_, (step_of_halted hr hi).trans (congrArg _ ((takeExternal_nmi hn hk (hr ▸ nofun)).trans (intrTaken_of_held (.inl ?_)))),
    ?_, hentry⟩
  all_goals
    obtain ⟨u, off, sel, -, ht, -⟩ := hentry
    rw [ht]
    rfl

end Sys2Proof.Machine
end

section
/-! SUPPORT. A step into which a RESET falls: no instruction is refused then, so the step ends, in the values R731 lists. -/

namespace Sys2Proof.Machine

/-! ### Every instruction but LMSW has an outcome -/

/-- An outcome that is a next state. -/
def Answers (o : Host.Outcome State Fault Refusal) : Prop := ∃ t, o = .next t

section
variable (s : State)

theorem answers_runInstr (r : Except Trap State) : Answers (runInstr s r) := by
  unfold runInstr finish
  split <;> exact ⟨_, rfl⟩

theorem answers_runJump (r : Except Trap State) : Answers (runJump s r) := by
  unfold runJump finishJump
  split <;> exact ⟨_, rfl⟩

theorem answers_runFar (r : Except Failure State) : Answers (runFar s r) := by
  unfold runFar finishFar
  split <;> exact ⟨_, rfl⟩

theorem answers_undefinedOpcode : Answers (undefinedOpcode s) := ⟨_, rfl⟩

theorem answers_runProtected (r : Except Trap State) : Answers (runProtected s r) := by
  unfold runProtected
  split
  · exact answers_runInstr s r
  · exact answers_undefinedOpcode s

theorem answers_jumpIf (c : Bool) (disp : Byte) : Answers (jumpIf c disp s) := by
  unfold jumpIf
  split
  · exact answers_runJump s _
  · exact answers_runInstr s _

theorem answers_loopIf (c : Bool) (disp : Byte) : Answers (loopIf c disp s) := by
  unfold loopIf
  split
  · exact answers_runJump s _
  · exact answers_runInstr s _

theorem answers_runInt (v : Byte) : Answers (runInt v s) := by
  unfold runInt
  split <;> exact ⟨_, rfl⟩

theorem answers_execInto : Answers (execInto s) := by
  unfold execInto
  split
  · exact answers_runInt s 4
  · exact answers_runInstr s _

theorem answers_afterBusy (waits testError : Bool) (effect : Except Trap State) : Answers (afterBusy s waits testError effect) := by
  unfold afterBusy
  split
  · exact ⟨_, rfl⟩
  · split
    · exact ⟨_, rfl⟩
    · exact answers_runInstr s _

theorem answers_execWait : Answers (execWait s) := by
  unfold execWait
  split
  · exact ⟨_, rfl⟩
  · exact answers_afterBusy s _ _ _

theorem answers_execEsc (op ext : BitVec 3) (e : RM (BitVec 3)) : Answers (execEsc op ext e s) := by
  unfold execEsc
  split
  · exact ⟨_, rfl⟩
  · exact answers_afterBusy s _ _ _

theorem answers_runString (compares lockable : Bool) (once : State → Except Trap State) :
    Answers (runString compares lockable once s) := by
  unfold runString
  split <;> exact ⟨_, rfl⟩

theorem answers_memoryOnly {R : Type} (f : RM R → Host.Outcome State Fault Refusal) (e : RM R)
    (hr : ∀ r, f (.reg r) = undefinedOpcode s) (hm : ∀ m, Answers (f (.mem m))) : Answers (f e) := by
  cases e with
  | reg r => exact (hr r).symm ▸ answers_undefinedOpcode s
  | mem m => exact hm m

end

/-- With a RESET to come LMSW is not refused either. -/
theorem answers_finishLmsw {s : State} (h : ¬ Unreset s) (r : Except Trap (Word × State)) : Answers (finishLmsw s r) := by
  unfold finishLmsw
  split
  · exact ⟨_, rfl⟩
  · split <;> exact ⟨_, rfl⟩

/-- Every instruction answers, by the meaning it shares with others; LMSW where a RESET is to come. -/
theorem answers_exec (i : Instr) {s : State} (h : ¬ Unreset s) : Answers (exec i s) := by
  cases i with
  | lea r e => exact answers_memoryOnly s (execLea r · s) e (fun _ => rfl) fun _ => answers_runInstr s _
  | lds r e => exact answers_memoryOnly s (execLds r · s) e (fun _ => rfl) fun _ => answers_runInstr s _
  | les r e => exact answers_memoryOnly s (execLes r · s) e (fun _ => rfl) fun _ => answers_runInstr s _
  | bound r e => exact answers_memoryOnly s (execBound r · s) e (fun _ => rfl) fun _ => answers_runInstr s _
  | sgdt e => exact answers_memoryOnly s (execSgdt · s) e (fun _ => rfl) fun _ => answers_runInstr s _
  | sidt e => exact answers_memoryOnly s (execSidt · s) e (fun _ => rfl) fun _ => answers_runInstr s _
  | lgdt e => exact answers_memoryOnly s (execLgdt · s) e (fun _ => rfl) fun _ => answers_runInstr s _
  | lidt e => exact answers_memoryOnly s (execLidt · s) e (fun _ => rfl) fun _ => answers_runInstr s _
  | jmpEd e => exact answers_memoryOnly s (execJmpEd · s) e (fun _ => rfl) fun _ => answers_runFar s _
  | callEd e => exact answers_memoryOnly s (execCallEd · s) e (fun _ => rfl) fun _ => answers_runFar s _
  | jmpCd | callCd | retfDw | retf | iret => exact answers_runFar s _
  | jmpCw | jmpCb | jmpEw | callCw | callEw | retDw | ret => exact answers_runJump s _
  | jo | jno | jb | jae | je | jne | jbe | ja | js | jns | jp | jnp | jl | jge | jle | jg | jcxz => exact answers_jumpIf s _ _
  | loopne | loope | loop => exact answers_loopIf s _ _
  | intDb | int3 => exact answers_runInt s _
  | into => exact answers_execInto s
  | wait => exact answers_execWait s
  | esc => exact answers_execEsc s _ _ _
  | segEs | segCs | segSs | segDs | lock | repne | rep => exact ⟨_, rfl⟩
  | movsb | movsw | cmpsb | cmpsw | scasb | scasw | lodsb | lodsw | stosb | stosw | insb | insw | outsb | outsw =>
    exact answers_runString s _ _ _
  | sldt | str | lldt | ltr | arpl | lar | lsl | verr | verw => exact answers_runProtected s _
  | lmsw => exact answers_finishLmsw h _
  | undefD4 | undef0F | undef83x1 | undef83x4 | undef83x6 | undef64 | undef65 | undef66 | undef67 | undef82 | undef8Cx4to7
    | undef8Ex1 | undef8Ex4to7 | undef8Fx1 | undef8Fx2 | undef8Fx3 | undef8Fx4 | undef8Fx5 | undef8Fx6 | undef8Fx7 | undefC0x6
    | undefC1x6 | undefC6x1 | undefC6x2 | undefC6x3 | undefC6x4 | undefC6x5 | undefC6x6 | undefC6x7 | undefC7x1 | undefC7x2
    | undefC7x3 | undefC7x4 | undefC7x5 | undefC7x6 | undefC7x7 | undefD0x6 | undefD1x6 | undefD2x6 | undefD3x6 | undefD6
    | undefF1 | undefF6x1 | undefF7x1 | undefFEx2 | undefFEx3 | undefFEx4 | undefFEx5 | undefFEx6 | undefFEx7 | undefFFx7
    | undef0F00x6to7 | undef0F01x5 | undef0F01x7 => exact answers_undefinedOpcode s
  | _ => exact answers_runInstr s _

/-! ### The step -/

section
variable {s : State}

theorem answers_executeNext (h : ¬ Unreset s) : Answers (executeNext s) := by
  unfold executeNext
  split
  · exact answers_exec _ h
  · exact ⟨_, rfl⟩

theorem State.beginInstr_reset (s : State) : s.beginInstr.bus.reset = s.bus.reset := by
  unfold State.beginInstr
  dsimp only
  split <;> rfl

theorem answers_runStep (h : ¬ Unreset s) : Answers (runStep s) := by
  unfold runStep
  split
  · obtain ⟨t, ht⟩ := answers_executeNext (s := s.beginInstr) (by rwa [Unreset, State.beginInstr_reset])
    rw [ht]
    exact ⟨_, rfl⟩
  · exact ⟨_, rfl⟩
  · exact ⟨_, rfl⟩

/-- The values R731 lists are those RESET sets. -/
theorem resetDone_endReset (s : State) : ResetDone s.endReset := by
  refine ⟨rfl, rfl, rfl, rfl, rfl, fun r => ?_, fun r hr => ?_, rfl, rfl, rfl, rfl, rfl⟩
  · have hvalid := reset_seg_valid r
    cases r <;> exact ⟨rfl, hvalid⟩
  · cases r with
    | cs => exact absurd rfl hr
    | es | ss | ds => exact ⟨rfl, rfl⟩

/-- A RESET ends its step, whatever the step is. -/
theorem resetStep_done (s : State) (n : Nat) : ∃ t, resetStep s n = .next t ∧ ResetDone t := by
  cases n with
  | zero => exact ⟨_, rfl, resetDone_endReset _⟩
  | succ n =>
    obtain ⟨t, ht⟩ := answers_runStep (s := s.awaitReset (n + 1)) nofun
    exact ⟨t.endReset, by rw [resetStep, ht], resetDone_endReset t⟩

theorem step_of_reset {g : Signals} {rest : List Signals} {n : Nat} (hi : s.inputs = g :: rest) (hg : g.reset = some n) :
    step s = resetStep (s.accept g rest) n := by
  simp only [step, stepMachine, hi, hg]

/-- Where there is no lock to end, RESET leaves memory alone. -/
theorem State.endReset_mem (h : s.bus.lock = .free) : s.endReset.mem = s.mem := by
  show s.release.mem = s.mem
  rw [State.release_free h]

theorem State.accept_of_silence {g : Signals} (h : g.acts = []) (hl : s.bus.lock = .free) (rest : List Signals) :
    (s.accept g rest).bus = s.bus ∧ (s.accept g rest).mem = s.mem := by
  have hear : s.hear g.acts = s := by
    rw [State.hear, if_pos hl, h]
    rfl
  exact ⟨(congrArg State.bus hear :), (congrArg State.mem hear :)⟩

end

/-- A RESET takes the place of its step or cuts it short, and before the first cycle leaves memory alone. -/
theorem step_reset_done {s : State} {g : Signals} {rest : List Signals} {n : Nat} (hi : s.inputs = g :: rest)
    (hg : g.reset = some n) :
    ∃ t, step s = .next t ∧ ResetDone t ∧ (n = 0 → g.acts = [] → s.bus.lock = .free → t.mem = s.mem) := by
  obtain ⟨t, ht, hd⟩ := resetStep_done (s.accept g rest) n
  refine ⟨t, (step_of_reset hi hg).trans ht, hd, ?_⟩
  rintro rfl hacts hl
  obtain ⟨hbus, hmem⟩ := State.accept_of_silence hacts hl rest
  obtain rfl := Host.Outcome.next.inj ht
  rw [State.endReset_mem]
  · exact hmem
  · show (s.accept g rest).bus.lock = .free
    rw [hbus, hl]

end Sys2Proof.Machine
end

section
/-! SUPPORT. A RESET in the middle of a row of pushes.  Up to it the step writes as it would without it (`awaitReset` is carried along, one
less with each word); from then on nothing it does reaches memory (`Stilled`) (70_reset_and_hazards.md R730). -/

namespace Sys2Proof.Machine

section
variable {s t u : State} {m : Memory} {k n : Nat} {ws vs : List Word}

/-! ### Before the RESET -/

theorem State.store_awaitReset (h : Unreset s) (a : Nat) (v : Byte) : (s.awaitReset k).store a v = (s.store a v).awaitReset k := by
  have hd : (s.awaitReset k).dead = false := rfl
  have hk : (s.awaitReset k).kindAt a = s.kindAt a := rfl
  unfold State.store
  rw [hd, State.dead_unreset h, hk]
  cases s.kindAt a <;> rfl

theorem State.others_awaitReset (h : Alone s) : (s.awaitReset (k + 1)).others = s.awaitReset k := by
  have hv : (s.awaitReset (k + 1)).visitors = s.awaitReset (k + 1) := State.visitors_none h.1
  rw [State.others, hv]
  rfl

/-- A word at an even address is one bus cycle. -/
theorem State.storeWord_awaitReset (h : Alone s) {a : Nat} (he : a % 2 = 0) (b : Nat) (v : Word) :
    (s.awaitReset (k + 1)).storeWord a b v = (s.storeWord a b v).awaitReset k := by
  rw [State.storeWord_alone h, State.storeWord, State.others_awaitReset h, State.store_awaitReset h.2, State.gap,
    if_neg (by omega), State.store_awaitReset (h.store _ _).2]

theorem push16_awaitReset (h : Alone s) (he : (s.segAddr .ss (s.gpr.sp - 2)).toNat % 2 = 0) {w : Word}
    (ht : push16 s w = .ok t) : push16 (s.awaitReset (k + 1)) w = .ok (t.awaitReset k) := by
  obtain ⟨hacc, rfl⟩ := (push16_iff s t w).1 ht
  refine (push16_iff _ _ w).2 ⟨hacc, ?_⟩
  exact congrArg (State.setSp · (s.gpr.sp - 2)) (State.storeWord_awaitReset h he _ w).symm

/-- The words of a stack that starts at an even address all stand at even addresses. -/
theorem State.segAddr_even {r : SegReg} {off : Word} (h : (s.segAddr r off).toNat % 2 = 0) (j : Nat) :
    (s.segAddr r (off - BitVec.ofNat 16 (2 * j))).toNat % 2 = 0 := by
  have hsum : ∀ o : Word, ((s.seg r).base + o.zeroExtend 24 + BitVec.ofNat 24 0).toNat % 2 = ((s.seg r).base.toNat + o.toNat) % 2 :=
    fun o => by
      have := o.isLt
      simp only [BitVec.toNat_add, BitVec.truncate_eq_setWidth, BitVec.toNat_setWidth, BitVec.toNat_ofNat]
      omega
  have hmask : ∀ a : Addr, (a &&& 0x0FFFFF).toNat % 2 = a.toNat % 2 := fun a => by
    have : (a &&& 0x0FFFFF).toNat = a.toNat % 2 ^ 20 := Nat.and_two_pow_sub_one_eq_mod a.toNat 20
    omega
  have hpar : ∀ o : Word, (s.segAddr r o).toNat % 2 = ((s.seg r).base.toNat + o.toNat) % 2 := fun o => by
    unfold State.segAddr
    dsimp only
    split
    · rw [hmask, hsum]
    · exact hsum o
  have hoff : (off - BitVec.ofNat 16 (2 * j)).toNat % 2 = off.toNat % 2 := by
    have := off.isLt
    rw [BitVec.toNat_sub, BitVec.toNat_ofNat]
    omega
  rw [hpar] at h ⊢
  omega

/-- Words are pushed as they would be without the RESET that is still to come. -/
theorem HasPushed.pushAll_awaitReset (h : HasPushed s t ws) (ha : Alone s) (hr : StackRoom s (ws.length + vs.length))
    (hn : ws.length + vs.length ≤ 0x8000) (he : (s.segAddr .ss s.gpr.sp).toNat % 2 = 0) :
    ∃ u, Machine.pushAll (t.awaitReset (vs.length + k)) vs = .ok (u.awaitReset k) ∧ HasPushed s u (ws ++ vs) := by
  induction vs generalizing t ws with
  | nil =>
    rw [List.length_nil, Nat.zero_add, List.append_nil]
    exact ⟨t, rfl, h⟩
  | cons w vs ih =>
    rw [List.length_cons] at hr hn
    obtain ⟨u, hu, hp⟩ := h.push16 (fun i hi => hr i (by omega)) (by omega) w
    have hlen : (ws ++ [w]).length + vs.length = ws.length + (vs.length + 1) := by
      rw [List.length_append, List.length_singleton]
      omega
    have hat : Alone t := by
      rw [h.rest]
      exact ha
    have heven : (t.segAddr .ss (t.gpr.sp - 2)).toNat % 2 = 0 := by
      rw [h.segAddr, h.sp]
      exact State.segAddr_even he _
    obtain ⟨x, hx, hxp⟩ := ih hp (hlen ▸ hr) (hlen ▸ hn)
    refine ⟨x, ?_, by rwa [List.append_assoc] at hxp⟩
    rw [List.length_cons, Nat.add_right_comm, Machine.pushAll, push16_awaitReset hat heven hu]
    exact hx

/-! ### From the RESET on -/

/-- With no other agent to come and no lock to end, a RESET comes at the next bus cycle or has come: memory stays as it is. -/
structure Stilled (m : Memory) (t : State) : Prop where
  mem : t.mem = m
  between : t.bus.between = []
  lock : t.bus.lock = .free
  reset : t.bus.reset = .after 0 ∨ t.bus.reset = .come

/-- The RESET comes at the next bus cycle at the latest. -/
theorem Stilled.others (h : Stilled m t) : Stilled m t.others ∧ t.others.dead = true := by
  obtain ⟨hm, hb, hl, hr⟩ := h
  rcases hr with hr | hr
  · have hnow : t.others = t.resetNow := by rw [State.others, State.visitors_none hb, State.cycle_resets hr]
    rw [hnow, State.resetNow, State.release_free hl]
    exact ⟨⟨hm, hb, hl, .inr rfl⟩, rfl⟩
  · have hd : t.dead = true := decide_eq_true hr
    rw [State.others_dead hd]
    exact ⟨⟨hm, hb, hl, .inr hr⟩, hd⟩

theorem Stilled.storeWord (h : Stilled m t) (a b : Nat) (v : Word) : Stilled m (t.storeWord a b v) := by
  obtain ⟨ho, hd⟩ := h.others
  have he : t.storeWord a b v = t.others := by
    rw [State.storeWord, State.store_dead hd, State.gap]
    split
    · rw [State.others_dead hd, State.store_dead hd]
    · exact State.store_dead hd _ _
  rwa [he]

theorem Stilled.loadWord (h : Stilled m t) (a b : Nat) : Stilled m (t.loadWord a b).2 := by
  obtain ⟨ho, hd⟩ := h.others
  have he : (t.loadWord a b).2 = t.others := by
    rw [State.loadWord]
    dsimp only
    rw [State.load_dead hd, State.gap]
    split
    · rw [State.others_dead hd, State.load_dead hd]
    · exact State.load_dead hd _
  rwa [he]

/-- What the step goes on to do with registers does not count. -/
theorem Stilled.of_bus (h : Stilled m t) (hm : u.mem = t.mem) (hb : u.bus = t.bus) : Stilled m u :=
  ⟨hm.trans h.mem, hb ▸ h.between, hb ▸ h.lock, hb ▸ h.reset⟩

theorem RoomBelow.push16 (h : RoomBelow t (n + 1)) {w : Word} (hu : push16 t w = .ok u) : RoomBelow u n := by
  obtain ⟨-, rfl⟩ := (push16_iff t u w).1 hu
  intro i hi
  have hnext := h (i + 1) (by omega)
  have hsp : t.gpr.sp - 2 - BitVec.ofNat 16 (2 * (i + 1)) = t.gpr.sp - BitVec.ofNat 16 (2 * (i + 1 + 1)) := by
    apply BitVec.eq_of_toNat_eq
    simp only [BitVec.toNat_sub, BitVec.toNat_ofNat, BitVec.ofNat_eq_ofNat]
    omega
  have hb := t.segPut16_onBus .ss (t.gpr.sp - 2) w
  generalize t.segPut16 .ss (t.gpr.sp - 2) w = x at hb
  show Accessible (x.setSp (t.gpr.sp - 2)) .ss (t.gpr.sp - 2 - BitVec.ofNat 16 (2 * (i + 1))) 2 .write
  rw [hsp, hb]
  exact hnext

/-- Words go on being pushed by the registers, none of them into memory. -/
theorem Stilled.pushAll (h : Stilled m t) (hr : RoomBelow t ws.length) : ∃ u, Machine.pushAll t ws = .ok u ∧ Stilled m u := by
  induction ws generalizing t with
  | nil => exact ⟨t, rfl, h⟩
  | cons w ws ih =>
    have hu := push16_of_ok (hr 0 (Nat.succ_pos _)) w
    obtain ⟨x, hx, hxs⟩ := ih (t := (t.segPut16 .ss (t.gpr.sp - 2) w).setSp (t.gpr.sp - 2))
      ((h.storeWord _ _ w).of_bus rfl rfl) (hr.push16 hu)
    exact ⟨x, by rw [Machine.pushAll, hu]; exact hx, hxs⟩

/-! ### The whole row -/

theorem pushAll_append (s : State) (ws vs : List Word) : pushAll s (ws ++ vs) = pushAll s ws >>= (pushAll · vs) := by
  induction ws generalizing s with
  | nil => rfl
  | cons w ws ih =>
    rw [List.cons_append, pushAll, pushAll]
    cases push16 s w with
    | ok t => exact ih t
    | error e => rfl

/-- A RESET after `n` of the words: these stand, and memory has not changed since. -/
theorem pushAll_reset (hw : s.mem.wf = true) (ha : Alone s) (hl : s.bus.lock = .free) (hr : StackRoom s ws.length)
    (hlen : ws.length ≤ 0x8000) (he : (s.segAddr .ss s.gpr.sp).toNat % 2 = 0) (hn : n ≤ ws.length) :
    ∃ t u, pushAll (s.awaitReset n) ws = .ok u ∧ HasPushed s t (ws.take n) ∧ Stilled t.mem u := by
  have htake : (ws.take n).length = n := List.length_take_of_le hn
  obtain ⟨t, ht, hp⟩ := (HasPushed.nil hw).pushAll_awaitReset (vs := ws.take n) (k := 0) ha
    (fun i hi => hr i (by rw [List.length_nil, htake] at hi; omega)) (by rw [List.length_nil, htake]; omega) he
  rw [htake, Nat.add_zero] at ht
  have hstill : Stilled t.mem (t.awaitReset 0) := by
    rw [hp.rest]
    exact ⟨rfl, ha.1, hl, .inl rfl⟩
  have hroom : RoomBelow (t.awaitReset 0) (ws.drop n).length := by
    intro i hi
    rw [List.length_drop] at hi
    obtain ⟨hacc, -⟩ := hr (n + i) (by omega)
    have hsp : t.gpr.sp - BitVec.ofNat 16 (2 * (i + 1)) = s.gpr.sp - BitVec.ofNat 16 (2 * (n + i + 1)) := by
      rw [hp.rest]
      dsimp only
      rw [List.nil_append, htake]
      apply BitVec.eq_of_toNat_eq
      simp only [BitVec.toNat_sub, BitVec.toNat_ofNat]
      omega
    show Accessible t .ss (t.gpr.sp - BitVec.ofNat 16 (2 * (i + 1))) 2 .write
    rw [hsp, hp.rest]
    exact hacc
  obtain ⟨u, hu, hs⟩ := hstill.pushAll hroom
  refine ⟨t, u, ?_, hp, hs⟩
  conv_lhs => rw [← List.take_append_drop n ws]
  rw [pushAll_append, ht]
  exact hu

/-- RESET itself leaves memory alone then. -/
theorem Stilled.endReset_mem (h : Stilled m t) : t.endReset.mem = m := (State.endReset_mem h.lock).trans h.mem

end

end Sys2Proof.Machine
end

section
/-! SUPPORT. A RESET in the middle of PUSHA and of a delivery in Real Address Mode. -/

namespace Sys2Proof.Machine

section
variable {s t u : State} {m : Memory} {n : Nat} {v : Byte}

/-! ### A delivery in Real Address Mode -/

theorem RealEntryOk.alone (h : RealEntryOk s v) : Alone s := (h.2.2.2 0 (by decide)).2.1

/-- The delivery goes to its end, writing no more than the words before the RESET. -/
theorem deliverReal_reset (hw : s.mem.wf = true) (h : RealEntryOk s v) (he : (s.segAddr .ss s.gpr.sp).toNat % 2 = 0) (hn : n ≤ 3)
    (retIp : Word) : ∃ t u, deliverReal (s.awaitReset n) v retIp = .ok u ∧
      HasPushed s t ([s.flags.toWord, s.cs.sel, retIp].take n) ∧ Stilled t.mem u := by
  have ha := h.alone
  obtain ⟨-, hl, hlim, hr⟩ := h
  obtain ⟨t, u, hu, hp, hs⟩ := pushAll_reset (ws := [s.flags.toWord, s.cs.sel, retIp]) hw ha hl hr (show 3 ≤ 0x8000 by decide) he hn
  have hpush : canPush (s.awaitReset n) 3 = true := (canPush_iff _ 3).2 fun i hi => (hr i hi).1
  have hlim' : decide (4 * v.toNat + 3 ≤ (s.awaitReset n).idtr.limit.toNat) = true := decide_eq_true hlim
  unfold deliverReal
  rw [hlim', hpush, show pushAll (s.awaitReset n) [(s.awaitReset n).flags.toWord, (s.awaitReset n).cs.sel, retIp] = .ok u from hu]
  exact ⟨t, _, rfl, hp, ((hs.loadWord _ _).loadWord _ _).of_bus rfl rfl⟩

theorem deliver_reset (hw : s.mem.wf = true) (h : RealEntryOk s v) (he : (s.segAddr .ss s.gpr.sp).toNat % 2 = 0) (hn : n ≤ 3)
    (retIp code : Word) (kind : EventKind) : PushedSoFar s (deliver (s.awaitReset n) v retIp kind code).endReset
      [BitVec.ofNat 16 (flagWord s.flags), s.cs.sel, retIp] n := by
  obtain ⟨t, u, hu, hp, hs⟩ := deliverReal_reset hw h he hn retIp
  obtain ⟨hpe, hl, -, -⟩ := h
  have hat : attempt (s.awaitReset n).release v retIp kind code (extOf kind v) = .ok u := by
    rw [State.release_free (show (s.awaitReset n).bus.lock = .free from hl), attempt, show (s.awaitReset n).msw.pe = false from hpe]
    exact hu
  rw [deliver_of_ok hat, ← Flags.toWord_eq_flagWord]
  exact hp.pushed.of_mem_eq (hs.of_bus (u := u.entered) rfl rfl).endReset_mem

/-! ### PUSHA -/

/-- A boundary with no event leaves memory and the bus as they are. -/
theorem endInstr_still (before : Memory) (hp : t.pfx.count = 0) (ht : t.tfAtStart = false) (hn : t.nmiPending = false)
    (h9 : t.int9Pending = false) (hi : t.pins.intr = none) (h : Stilled m t) : Stilled m (endInstr before t) := by
  have hend : (t.noteStores before).endLock = t.noteStores before :=
    State.endLock_of_not_active (by rw [State.noteStores_bus, h.lock]; exact nofun)
  rw [endInstr_of_boundary before hp, hend, boundaryEvents_of_none]
  · refine h.of_bus ?_ ?_ <;>
      unfold State.flagHazard <;> split <;> rfl
  all_goals
    unfold State.flagHazard
    split
    · assumption
    · assumption

/-- Where an instruction begins: the latches set, its end known. -/
def State.startInstr (u : State) (len : Nat) : State := u.beginInstr.withNext len

theorem State.beginInstr_awaitReset (hl : u.bus.lock = .free) : (u.awaitReset n).beginInstr = u.beginInstr.awaitReset n := by
  have hkept : ¬ (u.pfx.count = 0 ∧ u.bus.lock = .kept) := fun h => nomatch hl.symm.trans h.2
  unfold State.beginInstr State.awaitReset
  simp only [if_neg hkept]

theorem staleBytes_awaitReset (s : State) (off len : Nat) : staleBytes (s.awaitReset n) off len = staleBytes s off len := by
  induction len generalizing off with
  | zero => rfl
  | succ len ih =>
    rw [staleBytes, staleBytes, ih]
    rfl

theorem State.withNext_awaitReset (s : State) (len : Nat) : (s.awaitReset n).withNext len = (s.withNext len).awaitReset n := by
  unfold State.withNext
  rw [staleBytes_awaitReset]
  rfl

theorem fetchBytes_awaitReset (s : State) (off len : Nat) : fetchBytes (s.awaitReset n) off len = fetchBytes s off len := by
  induction len generalizing off with
  | zero => rfl
  | succ len ih =>
    rw [fetchBytes, fetchBytes, ih]
    rfl

theorem State.fetched_awaitReset (s : State) : (s.awaitReset n).fetched = s.fetched := fetchBytes_awaitReset s _ _

/-- The bus of an instruction's start is that of its step, where there is no lock. -/
theorem State.startInstr_bus (hl : u.bus.lock = .free) (len : Nat) : (u.startInstr len).bus = u.bus := by
  have hkept : ¬ (u.pfx.count = 0 ∧ u.bus.lock = .kept) := fun h => nomatch hl.symm.trans h.2
  exact if_neg hkept

theorem runStep_awaitReset {i : Instr} {rest : List Byte} (hr : u.run = .running) (hl : u.bus.lock = .free)
    (hd : decode u.fetched = .ok (i, rest)) :
    ∃ len, runStep (u.awaitReset n) = atBoundary u.mem (exec i ((u.startInstr len).awaitReset n)) := by
  refine ⟨u.fetched.length - rest.length, ?_⟩
  rw [runStep_of_decode (s := u.awaitReset n) hr (by rwa [State.fetched_awaitReset]), State.beginInstr_awaitReset hl,
    State.withNext_awaitReset, State.fetched_awaitReset]
  rfl

/-- Where words stand, and what was there before, is a matter of memory, SP and SS alone. -/
theorem Pushed.of_base {ws : List Word} (h : Pushed s t ws) (hm : s.mem = u.mem) (hsp : s.gpr.sp = u.gpr.sp)
    (haddr : ∀ o j, s.segAddr .ss o j = u.segAddr .ss o j) : Pushed u t ws := by
  refine ⟨fun j hj => ?_, fun a ha => ?_⟩
  · rw [← h.1 j hj, pushedWord, pushedWord, wordAfter, wordAfter, hsp, haddr, haddr]
  · rw [← hm]
    exact h.2 a (by rwa [pushedBytes_congr hsp haddr])

/-- PUSHA writes no more than the words before the RESET. -/
theorem pusha_reset (hw : s.mem.wf = true) (hlock : LockAllowed s) (hl : s.bus.lock = .free) (hr : StackRoom s 8)
    (he : (s.segAddr .ss s.gpr.sp).toNat % 2 = 0) (hn : n ≤ 8) :
    ∃ t u, exec .pusha (s.awaitReset n) = .next u.retire ∧ HasPushed s t ((pushaWords s).take n) ∧ Stilled t.mem u ∧
      OnBus { s.awaitReset n with gpr := { s.gpr with sp := u.gpr.sp } } u := by
  obtain ⟨t, u, hu, hp, hs⟩ := pushAll_reset (ws := pushaWords s) hw (hr 0 (by decide)).2.1 hl hr (show 8 ≤ 0x8000 by decide) he hn
  have hpush : canPush (s.awaitReset n) 8 = true := (canPush_iff _ 8).2 fun i hi => (hr i hi).1
  have hrest := pushAll_rest hu
  refine ⟨t, u, runInstr_of_ok (s := s.awaitReset n) hlock ?_, hp, hs, hrest⟩
  rw [pushaAll, hpush]
  exact hu

/-- The start of an instruction changes nothing that its stack depends on. -/
theorem StackRoom.of_bus {len : Nat} (h : StackRoom u n) (hb : (u.startInstr len).bus = u.bus) : StackRoom (u.startInstr len) n := by
  intro i hi
  obtain ⟨hacc, hal, hk⟩ := h i hi
  refine ⟨hacc, ?_, fun j hj => ?_⟩
  · rwa [Alone, Unreset, hb]
  · have hkind := hk j hj
    rw [State.kindAt] at hkind ⊢
    rw [hb]
    exact hkind

/-- PUSHA cut short by a RESET, with no event awaiting its end. -/
theorem resetStep_pusha {more : List Byte} (hrun : u.run = .running) (h1 : 1 ≤ n) (hn : n ≤ 8) (hl : u.bus.lock = .free)
    (hd : decode u.fetched = .ok (.pusha, more)) (hlock : LockAllowed u) (hw : u.mem.wf = true) (hr : StackRoom u 8)
    (he : (u.segAddr .ss u.gpr.sp).toNat % 2 = 0) (htf : u.flags.tf = false) (htfs : u.tfAtStart = false)
    (hnmi : u.nmiPending = false) (h9 : u.int9Pending = false) (hi : u.pins.intr = none) :
    ∃ t, resetStep u n = .next t ∧ ResetDone t ∧ PushedSoFar u t (pushaWords u) n := by
  obtain ⟨len, hstep⟩ := runStep_awaitReset (n := n) hrun hl hd
  have hbus := State.startInstr_bus hl len
  have hroom : StackRoom (u.startInstr len) 8 := hr.of_bus hbus
  obtain ⟨t, x, hx, hp, hs, hrest⟩ := pusha_reset (s := u.startInstr len) (n := n) hw hlock (hbus ▸ hl) hroom he hn
  have hend : Stilled t.mem (endInstr u.mem x.retire) := by
    refine endInstr_still u.mem rfl (hrest.tfAtStart.trans ?_) (hrest.nmiPending.trans hnmi) (hrest.int9Pending.trans h9)
      ((congrArg Pins.intr hrest.pins).trans hi) (hs.of_bus rfl rfl)
    show (if u.pfx.count = 0 then u.flags.tf else u.tfAtStart) = false
    rw [htf, htfs, ite_self]
  obtain ⟨m, rfl⟩ : ∃ m, n = m + 1 := ⟨n - 1, by omega⟩
  refine ⟨(endInstr u.mem x.retire).endReset, ?_, resetDone_endReset _, ?_⟩
  · rw [resetStep, hstep, hx]
    rfl
  · exact (hp.pushed.of_mem_eq hend.endReset_mem).of_base rfl rfl fun _ _ => rfl

end

end Sys2Proof.Machine
end

section
/-! SUPPORT. A RESET in the middle of a task switch: the words of the outgoing task's image that come before it are saved, and from then on
no step of the switch changes memory or the bus (`Rests`), whether it completes or fails. -/

namespace Sys2Proof.Machine

section
variable {s t u : State} {m : Memory} {k n : Nat} {a : Addr} {ws vs : List Word} {α β : Type} {P : α → Prop} {R : β → Prop} {x : Trap}

/-! ### The words saved before the RESET (R590, steps 1 to 3) -/

theorem physAdd_even (h : a.toNat % 2 = 0) {j : Nat} (hj : j % 2 = 0) : physAdd a j % 2 = 0 := by
  simp only [physAdd, BitVec.toNat_add, BitVec.toNat_ofNat]
  omega

theorem pokeWords_append (s : State) (a : Addr) (j : Nat) (ws vs : List Word) :
    pokeWords s a j (ws ++ vs) = pokeWords (pokeWords s a j ws) a (j + 2 * ws.length) vs := by
  induction ws generalizing s j with
  | nil => rfl
  | cons w ws ih =>
    rw [List.cons_append, pokeWords, pokeWords, ih, List.length_cons, show j + 2 + 2 * ws.length = j + 2 * (ws.length + 1) by omega]

/-- Words are saved as they would be without the RESET that is still to come. -/
theorem pokeWords_awaitReset (ha : Alone s) (hw : s.mem.wf = true) (he : a.toNat % 2 = 0) {j : Nat} (hj : j % 2 = 0) :
    pokeWords (s.awaitReset (ws.length + k)) a j ws = (pokeWords s a j ws).awaitReset k := by
  induction ws generalizing s j with
  | nil => rw [List.length_nil, Nat.zero_add]; rfl
  | cons w ws ih =>
    have hnext := written_poke16 ha hw a j w
    have hword : (s.awaitReset (ws.length + k + 1)).poke16 a j w = (s.poke16 a j w).awaitReset (ws.length + k) :=
      State.storeWord_awaitReset ha (physAdd_even he hj) _ w
    rw [List.length_cons, Nat.add_right_comm, pokeWords, hword, ih hnext.alone hnext.wf (by omega)]
    rfl

theorem Stilled.pokeWords (h : Stilled m t) (a : Addr) (j : Nat) (ws : List Word) : Stilled m (Machine.pokeWords t a j ws) := by
  induction ws generalizing t j with
  | nil => exact h
  | cons w ws ih => exact ih (h.storeWord _ _ w) _

theorem busied_awaitReset (h : Unreset s) (sel : Word) (kind : SwitchKind) :
    busied (s.awaitReset n) sel kind = (busied s sel kind).awaitReset n := by
  unfold busied
  split
  · rfl
  · exact State.store_awaitReset h _ _

theorem busied_lock (s : State) (sel : Word) (kind : SwitchKind) : (busied s sel kind).bus.lock = s.bus.lock := by
  unfold busied
  split
  · rfl
  · exact State.store_lock s _ _

theorem pokeWords_lock (h : Alone s) (a : Addr) (j : Nat) (ws : List Word) :
    (Machine.pokeWords s a j ws).bus.lock = s.bus.lock := by
  induction ws generalizing s j with
  | nil => rfl
  | cons w ws ih =>
    have hlock : (s.poke16 a j w).bus.lock = s.bus.lock := by
      rw [State.poke16_alone h, State.store_lock, State.store_lock]
    have halone : Alone (s.poke16 a j w) := by
      rw [State.poke16_alone h]
      exact (h.store _ _).store _ _
    exact (ih halone _).trans hlock

/-- Memory once the first `n` words of the outgoing image are saved. -/
def savedFirst (s : State) (sel outIp : Word) (kind : SwitchKind) (n : Nat) : State :=
  Machine.pokeWords (busied s sel kind) s.tr.base 14 ((tssImage s outIp kind).take n)

theorem tssImage_length (s : State) (outIp : Word) (kind : SwitchKind) : (tssImage s outIp kind).length = 14 := rfl

section
variable (ha : Alone s) (hw : s.mem.wf = true)
include ha hw

theorem written_savedFirst (sel outIp : Word) (kind : SwitchKind) (hn : n ≤ 14) :
    Written s (savedFirst s sel outIp kind n) (physAdd (s.gdtEntry sel) 5 :: wordsAt s.tr.base 14 n) := by
  have hb := written_busied ha hw sel kind
  have hp := written_pokeWords hb.alone hb.wf s.tr.base 14 ((tssImage s outIp kind).take n)
  rw [List.length_take_of_le (tssImage_length s outIp kind ▸ hn)] at hp
  exact hb.trans hp

/-- The image saved as far as the RESET lets it. -/
theorem stilled_saved (hl : s.bus.lock = .free) (he : s.tr.base.toNat % 2 = 0) (hn : n ≤ 14) (sel outIp : Word) (kind : SwitchKind) :
    Stilled (savedFirst s sel outIp kind n).mem (saved (s.awaitReset n) sel outIp kind) := by
  have hb := written_busied ha hw sel kind
  have htake : ((tssImage s outIp kind).take n).length = n := List.length_take_of_le (tssImage_length s outIp kind ▸ hn)
  have hfirst := pokeWords_awaitReset (ws := (tssImage s outIp kind).take n) (k := 0) (j := 14) hb.alone hb.wf he rfl
  rw [htake, Nat.add_zero] at hfirst
  have hsplit : saved (s.awaitReset n) sel outIp kind =
      Machine.pokeWords ((savedFirst s sel outIp kind n).awaitReset 0) s.tr.base (14 + 2 * n) ((tssImage s outIp kind).drop n) := by
    show Machine.pokeWords (busied (s.awaitReset n) sel kind) s.tr.base 14 (tssImage s outIp kind) = _
    conv_lhs => rw [← List.take_append_drop n (tssImage s outIp kind)]
    rw [pokeWords_append, busied_awaitReset ha.2, hfirst, htake]
    rfl
  have hwritten := written_savedFirst ha hw sel outIp kind hn
  have hlock : (savedFirst s sel outIp kind n).bus.lock = .free :=
    (pokeWords_lock hb.alone s.tr.base 14 _).trans ((busied_lock s sel kind).trans hl)
  have hstill : Stilled (savedFirst s sel outIp kind n).mem ((savedFirst s sel outIp kind n).awaitReset 0) :=
    ⟨rfl, hwritten.alone.1, hlock, .inl rfl⟩
  rw [hsplit]
  exact hstill.pokeWords _ _ _

end

/-! ### Nothing more is written -/

/-- Memory and the bus are as they were. -/
structure Rests (u t : State) : Prop where
  mem : t.mem = u.mem
  bus : t.bus = u.bus

/-- An exception finds the bus as it was. -/
def Trap.RestsOn (x : Trap) (u : State) : Prop := ∀ b, x.bus = some b → b = u.bus

theorem Trap.restsOn_of_none (h : x.bus = none) : x.RestsOn u := fun _ hb => nomatch h.symm.trans hb

/-- Steps whose answers rest and whose exceptions do. -/
structure RestComes (u : State) (P : α → Prop) (r : Except Trap α) : Prop where
  answer : ∀ a, r = .ok a → P a
  raises : ∀ x, r = .error x → x.RestsOn u

theorem RestComes.ok {a : α} (h : P a) : RestComes u P (.ok a) := ⟨fun _ e => by cases e; exact h, fun _ e => nomatch e⟩

theorem RestComes.error (h : x.RestsOn u) : RestComes u P (.error x : Except Trap α) :=
  ⟨fun _ e => (nomatch e), fun _ e => by cases e; exact h⟩

theorem RestComes.bind {r : Except Trap α} {g : α → Except Trap β} (h : RestComes u P r) (hg : ∀ a, P a → RestComes u R (g a)) :
    RestComes u R (r >>= g) := by
  cases r with
  | error x => exact .error (h.raises x rfl)
  | ok a => exact hg a (h.answer a rfl)

theorem RestComes.require {c : Bool} {g : Unit → Except Trap β} (h : x.bus = none) (hg : RestComes u R (g ())) :
    RestComes u R (Machine.require c x >>= g) := by
  cases c with
  | true => exact hg
  | false => exact .error (Trap.restsOn_of_none h)

theorem RestComes.afterReads (h : Rests u t) {r : Except Trap α} (hr : RestComes u P r) : RestComes u P (afterReads t r) := by
  cases r with
  | ok a => exact .ok (hr.answer a rfl)
  | error x =>
    refine .error fun b hb => ?_
    cases hx : x.bus with
    | none => rw [hx] at hb; cases hb; exact h.bus
    | some c => rw [hx] at hb; cases hb; exact hr.raises x rfl c hx

section
variable (hd : u.dead = true)
include hd

theorem Rests.dead (h : Rests u t) : t.dead = true := by rwa [State.dead, h.bus]

theorem Rests.others (h : Rests u t) : Rests u t.others := by rwa [State.others_dead (h.dead hd)]

theorem Rests.setAccessed (h : Rests u t) (d : Desc) : Rests u (t.setAccessed d) := by rwa [State.setAccessed_dead (h.dead hd)]

theorem Rests.over (h : Rests u t) (hx : x.RestsOn u) : Rests u (x.over t) := by
  cases hb : x.bus with
  | none =>
    rw [Trap.over, hb]
    exact h
  | some b =>
    obtain rfl := hx b hb
    have hcome : u.bus.reset ≠ .quiet := fun e => nomatch (of_decide_eq_true hd).symm.trans e
    rw [Trap.over, hb]
    dsimp only
    rw [h.bus, Nat.sub_self, Nat.sub_self, List.take_zero, List.take_zero, if_neg hcome]
    exact ⟨h.mem, rfl⟩

theorem fetchOr_rests (h : Rests u t) (sel : Word) (hx : x.bus = none) : RestComes u (fun p => Rests u p.2) (fetchOr t sel x) := by
  rw [fetchOr, State.readTable, State.others_dead (h.dead hd)]
  cases t.fetchDesc sel with
  | none => exact .error (Trap.restsOn_of_none hx)
  | some d => exact .ok h

theorem switchLdt_rests (h : Rests u t) (ext : Bool) : RestComes u (Rests u) (switchLdt t ext) := by
  unfold switchLdt
  dsimp only
  split
  · exact .ok h
  · exact .require rfl <| .bind (fetchOr_rests hd h _ rfl) fun ⟨_, _⟩ hu => .afterReads hu <|
      .require rfl <| .require rfl <| .ok ⟨hu.mem, hu.bus⟩

theorem switchSs_rests (h : Rests u t) (ext : Bool) : RestComes u (Rests u) (switchSs t ext) :=
  .require rfl <| .bind (fetchOr_rests hd h _ rfl) fun ⟨d, _⟩ hu => .afterReads hu <|
    .require rfl <| .require rfl <| .require rfl <| .require rfl <| .ok ⟨(hu.setAccessed hd d).mem, (hu.setAccessed hd d).bus⟩

theorem switchCs_rests (h : Rests u t) (ext : Bool) : RestComes u (Rests u) (switchCs t ext) :=
  .require rfl <| .bind (fetchOr_rests hd h _ rfl) fun ⟨d, _⟩ hu => .afterReads hu <|
    .require rfl <| .require rfl <| .require rfl <| .require rfl <| .ok ⟨(hu.setAccessed hd d).mem, (hu.setAccessed hd d).bus⟩

theorem switchData_rests (h : Rests u t) (r : SegReg) (ext : Bool) : RestComes u (Rests u) (switchData t r ext) := by
  unfold switchData
  dsimp only
  split
  · exact .ok h
  · refine .bind (fetchOr_rests hd h _ rfl) fun ⟨d, w⟩ hu => .afterReads hu <|
      .require rfl <| .require rfl <| .require rfl <| .ok ?_
    have hset := hu.setAccessed hd d
    cases r <;> exact ⟨hset.mem, hset.bus⟩

/-- A check made in a state that rests, then the rest. -/
theorem Ends.rests {r : Except Trap α} {g : α → Except Failure State} (h : Rests u t) (hr : RestComes u P r)
    (hg : ∀ a, P a → Ends (Rests u) (g a)) : Ends (Rests u) (Machine.failIn t r >>= g) := by
  cases r with
  | error x => exact Ends.error (h.over hd (hr.raises x rfl))
  | ok a => exact hg a (hr.answer a rfl)

theorem Ends.restsLast {r : Except Trap State} (h : Rests u t) (hr : RestComes u (Rests u) r) : Ends (Rests u) (Machine.failIn t r) := by
  cases r with
  | error x => exact Ends.error (h.over hd (hr.raises x rfl))
  | ok a => exact .ok (hr.answer a rfl)

theorem loadTss_rests (h : Rests u t) (kind : SwitchKind) : Rests u (loadTss t kind) := by
  have hr : (readWords t t.tr.base 14 15).2 = t := readWords_dead (h.dead hd) _ _ _
  rw [← hr] at h
  exact ⟨h.mem, h.bus⟩

theorem enterTask_rests (kind : SwitchKind) (ext : Bool) : Ends (Rests u) (enterTask u kind ext) := by
  have h : Rests u u := ⟨rfl, rfl⟩
  have h1 := loadTss_rests hd h kind
  refine .rests (P := fun _ => True) hd h ⟨fun _ _ => trivial, fun x hx => Trap.restsOn_of_none (checks_require rfl x hx)⟩ fun _ _ => ?_
  exact .rests hd h1 (switchLdt_rests hd h1 ext) fun _ h2 =>
    .rests hd h2 (switchSs_rests hd h2 ext) fun _ h3 =>
    .rests hd h3 (switchCs_rests hd h3 ext) fun _ h4 =>
    .rests hd h4 (switchData_rests hd h4 .ds ext) fun _ h5 =>
    .restsLast hd h5 (switchData_rests hd h5 .es ext)

end

/-! ### The whole switch -/

/-- Step 4 finds that the RESET has come. -/
theorem Stilled.clearBusy (h : Stilled m t) (sel : Word) : Stilled m (t.clearBusy sel) ∧ (t.clearBusy sel).dead = true := by
  have ho := h.others
  have he : t.clearBusy sel = t.others := State.store_dead ho.2 _ _
  rwa [he]

theorem Stilled.poke16 (h : Stilled m t) (a : Addr) (j : Nat) (w : Word) : Stilled m (t.poke16 a j w) ∧ (t.poke16 a j w).dead = true := by
  refine ⟨h.storeWord _ _ w, ?_⟩
  have hd := h.others.2
  rw [State.poke16, State.storeWord, State.store_dead hd, State.gap]
  split
  · rwa [State.others_dead hd, State.store_dead hd]
  · rwa [State.store_dead hd]

theorem leaveTask_eq (hv : s.tr.valid = true) (hlim : 41 ≤ s.tr.limit.toNat) (sel outIp : Word) (b : Desc) (kind : SwitchKind)
    (ext : Bool) : leaveTask s sel b kind outIp ext =
      .ok { unlinked s sel outIp b kind with tr := { sel := sel, base := b.base, limit := b.limit, valid := true } } := by
  have hfits : (!(s.tr.valid && decide (41 ≤ s.tr.limit.toNat))) = false := by
    rw [hv, decide_eq_true hlim]
    rfl
  unfold leaveTask
  rw [hfits]
  rfl

/-- Whether the switch completes or fails, memory is left with the words saved before the RESET. -/
theorem switchTasks_reset (ha : Alone s) (hw : s.mem.wf = true) (hl : s.bus.lock = .free) (hv : s.tr.valid = true)
    (hlim : 41 ≤ s.tr.limit.toNat) (he : s.tr.base.toNat % 2 = 0) (hn : n ≤ 14) (sel outIp : Word) (b : Desc) (kind : SwitchKind)
    (ext : Bool) :
    Ends (Stilled (savedFirst s sel outIp kind n).mem) (switchTasks (s.awaitReset n) sel b kind outIp ext) := by
  have hsaved := stilled_saved ha hw hl he hn sel outIp kind
  have hleft : Stilled (savedFirst s sel outIp kind n).mem (unlinked (s.awaitReset n) sel outIp b kind) ∧
      (unlinked (s.awaitReset n) sel outIp b kind).dead = true := by
    unfold unlinked
    split
    · exact hsaved.poke16 _ _ _
    · exact hsaved.clearBusy _
  obtain ⟨hstill, hdead⟩ := hleft
  have henter (u : State) (hm : u.mem = (unlinked (s.awaitReset n) sel outIp b kind).mem)
      (hb : u.bus = (unlinked (s.awaitReset n) sel outIp b kind).bus) :
      Ends (Stilled (savedFirst s sel outIp kind n).mem) (enterTask u kind ext) := by
    have hu := hstill.of_bus hm hb
    have hrests := enterTask_rests (u := u) (by rwa [State.dead, hb]) kind ext
    exact ⟨fun t ht => hu.of_bus (hrests.1 t ht).mem (hrests.1 t ht).bus, fun f hf => hu.of_bus (hrests.2 f hf).mem (hrests.2 f hf).bus⟩
  rw [switchTasks, leaveTask_eq (s := s.awaitReset n) hv hlim]
  exact henter _ rfl rfl

theorem switchEnd_of_ends {Q : State → Prop} {r : Except Failure State} (h : Ends Q r) : Q (switchEnd r) := by
  cases r with
  | ok u => exact h.1 u rfl
  | error f => exact h.2 f rfl

/-- The outgoing task's words that come before the RESET stand in its TSS, and nothing else has changed but the incoming Busy byte. -/
theorem switch_reset {sel outIp : Word} {b : Desc} {kind : SwitchKind} {ext : Bool} (ha : Alone s) (hn : n ≤ 14)
    (hw : s.mem.wf = true) (hl : s.bus.lock = .free) (hv : s.tr.valid = true) (hlim : 41 ≤ s.tr.limit.toNat)
    (he : s.tr.base.toNat % 2 = 0) (hram : ∀ j, j < 28 → s.kindAt (physAdd s.tr.base (14 + j)) = .ram)
    (ht : t = (switchEnd (switchTasks (s.awaitReset n) sel b kind outIp ext)).endReset) :
    (∀ j, (h : j < (outgoingImage s outIp kind).length) → j < n →
      t.peek16 s.tr.base (14 + 2 * j) = (outgoingImage s outIp kind)[j]) ∧
    MemSameBut s t (physAdd (s.gdtEntry sel) 5 :: wordsAt s.tr.base 14 n) := by
  have hstill := switchEnd_of_ends (switchTasks_reset ha hw hl hv hlim he hn sel outIp b kind ext)
  have hmap := (switchEnd_of_ends (switchTasks_spares (.refl (s.awaitReset n)) sel b kind outIp ext)).1
  generalize switchEnd (switchTasks (s.awaitReset n) sel b kind outIp ext) = w at hstill hmap ht
  have hmem : t.mem = (savedFirst s sel outIp kind n).mem := ht ▸ hstill.endReset_mem
  have hkind : ∀ q, t.kindAt q = s.kindAt q := fun q => by
    have hrel : w.endReset.bus.map = w.release.bus.map := rfl
    rw [State.kindAt, ht, hrel, State.release_free hstill.lock, hmap]
    rfl
  have hwritten := written_savedFirst ha hw sel outIp kind hn
  refine ⟨fun j hj hjn => ?_, fun q hq => ?_⟩
  · have hb := written_busied ha hw sel kind
    have htake : ((tssImage s outIp kind).take n).length = n := List.length_take_of_le (tssImage_length s outIp kind ▸ hn)
    have hsaved := pokeWords_peek16 (p := s.tr.base) (j := 14) (ws := (tssImage s outIp kind).take n) hb.alone hb.wf
      (by rw [htake]; omega) (fun i hi => (hb.kindAt _).trans (hram i (by rw [htake] at hi; omega))) j (by rwa [htake])
    rw [List.getElem_take] at hsaved
    simp only [← tssImage_eq_outgoingImage]
    rw [← hsaved]
    have hlook : ∀ i, i < 28 → t.look (physAdd s.tr.base (14 + i)) =
        (savedFirst s sel outIp kind n).look (physAdd s.tr.base (14 + i)) := fun i hi => by
      rw [State.look_memory (.inl ((hkind _).trans (hram i hi))), hmem,
        State.look_memory (.inl ((hwritten.kindAt _).trans (hram i hi)))]
    exact congrArg₂ mkWord (hlook (2 * j) (by omega)) (hlook (2 * j + 1) (by omega))
  · rw [hmem]
    exact hwritten.same q hq

end

end Sys2Proof.Machine
end

section
/-! PROOF of O56: the clauses, each from the part of the development that is about it. -/

namespace Sys2Proof.Machine

/-- Settles O56: the row of a boundary by `endInstr_of_events`, the halt by `takeExternal`, RESET by `step_reset_done`,
`resetStep_pusha`, `deliver_reset` and `switch_reset`. -/
theorem boundaryEventsTaken : Obligations.BoundaryEvents := by
  unfold Obligations.BoundaryEvents
  refine ⟨?boundary, ?halted, ?waits, fun s g rest n hi hg => step_reset_done hi hg, ?pusha, ?delivery, ?switch⟩
  case boundary =>
    intro before u s hs hp hr hm
    have hrun : s.run ≠ .shutdown := by
      rw [hs, ((u.noteStores before).endLock_onBus).run]
      exact hr ▸ nofun
    have row := endInstr_of_events before hs hp hr hm
    refine ⟨endInstr_of_inhibit before hs hp hr hm, fun hi hn h9 hv ht => ?_, fun hi ht hn hk h9 hv => ?_,
      fun hi ht hn h9 hv => ⟨fun hk => ?_, fun hk => ?_⟩,
      fun hi ht hn h9 v hv => ⟨fun hie hsti hd => ?_, fun hoff => ?_⟩, fun hi a ha => ?_⟩
    case refine_7 =>
      rw [row hi, singleStep_eq, ← ha]
      have hsame : a.nmiPending = s.nmiPending ∧ a.nmiMasked = s.nmiMasked ∧ a.int9Pending = s.int9Pending := by
        rw [ha]
        exact ⟨singleStep_nmiPending s, singleStep_nmiMasked s, singleStep_int9Pending s⟩
      obtain ⟨hpend, hmask, hpend9⟩ := hsame
      rw [← hpend, ← hmask, ← hpend9]
      exact ⟨fun hd => congrArg State.endShadow (takeExternal_shutdown hd), fun hd =>
        ⟨fun hn hk => congrArg State.endShadow (takeExternal_nmi hn hk hd), fun hheld =>
          ⟨fun h9 hk => congrArg State.endShadow (takeExternal_int9 hheld h9 hk hd),
            fun h9 => congrArg State.endShadow (takeExternal_intr hheld h9)⟩⟩⟩
    all_goals refine (row hi).trans (congrArg State.endShadow ?_)
    case refine_1 =>
      rw [singleStep_of_latched ht]
      exact takeExternal_of_none ((deliver_nmiPending ..).trans hn) ((deliver_int9Pending ..).trans h9)
        ((congrArg Pins.intr (deliver_pins ..)).trans hv)
    all_goals rw [singleStep_of_not_latched ht]
    · exact (takeExternal_nmi hn hk hrun).trans (intrTaken_of_none ((congrArg Pins.intr (deliver_pins ..)).trans hv))
    · exact (takeExternal_int9 (.inl hn) h9 hk hrun).trans
        (intrTaken_of_none ((congrArg Pins.intr (deliver_pins ..)).trans hv))
    · exact (takeExternal_intr (.inl hn) (.inr hk)).trans (intrTaken_of_none hv)
    · exact (takeExternal_intr (.inl hn) (.inl h9)).trans (intrTaken_taken hv hie hsti hrun hd)
    · exact (takeExternal_intr (.inl hn) (.inl h9)).trans (intrTaken_of_held hoff)
  case halted =>
    intro s hr hi
    have hrun : s.run ≠ .shutdown := hr ▸ nofun
    have hstep := step_of_halted hr hi
    exact ⟨fun hn hk => hstep.trans (congrArg _ (takeExternal_nmi hn hk hrun)), fun hheld =>
      ⟨fun h9 hk => hstep.trans (congrArg _ (takeExternal_int9 hheld h9 hk hrun)),
        fun h9 => hstep.trans (congrArg _ (takeExternal_intr hheld h9))⟩, fun v hn hk hv hw hok =>
      hv ▸ step_of_halted_realNmi hr hi hn hk hw hok⟩
  case waits =>
    intro s hr hi hn h9 hv
    rw [step_of_halted hr hi, takeExternal_intr hn h9]
    exact congrArg _ (hv.elim intrTaken_of_none fun h => intrTaken_of_held (.inl h))
  case pusha =>
    rintro s _ g rest n more hr hi hg h1 hn rfl hl hd hlock hw hroom he htf htfs hnmi h9 hv
    rw [step_of_reset hi hg]
    exact resetStep_pusha ((State.accept_run s g rest).trans hr) h1 hn hl hd hlock hw hroom he htf htfs hnmi h9 hv
  case delivery => exact fun s v retIp code kind n hn hw h he => deliver_reset hw h he hn retIp code kind
  case switch =>
    intro s t sel outIp b kind ext n hn hw hl hbetween hv hlim he hram _ ht
    refine switch_reset (s := { s with bus := { s.bus with reset := .quiet } }) ⟨hbetween, rfl⟩ hn hw hl hv hlim he (fun j hj => ?_) ht
    refine hram _ ?_
    rw [switchBytes_eq]
    iterate 4 refine List.mem_cons_of_mem _ ?_
    exact mem_wordsAt.2 ⟨j, hj, rfl⟩

end Sys2Proof.Machine
end
